-- ==== Sys2Proof/Word.lean ====
section
/-! DEFINITION. The word types of the i960 Jx (spec/10_state.md R20, spec/20_memory.md R80): 32-bit registers and
addresses, 8-bit bytes, 5-bit register numbers. -/

namespace Sys2Proof

/-- A 32-bit register, address or instruction word (00_scope R7). -/
abbrev Word := BitVec 32

/-- A byte of memory (20_memory R80). -/
abbrev Byte := BitVec 8

/-- A register number of an encoding: 0 to 15 name r0 to r15, 16 to 31 name g0 to g15 (30_encoding R143). -/
abbrev RegNum := BitVec 5

end Sys2Proof
end

