-- ==== Sys2Proof/Syntax.lean ====
section
/-! DEFINITION. The instructions of the i960 Jx, one constructor per row of spec/opcode_table.json, with operands as
spec/30_encoding.md gives them (R144 to R153). A displacement is a byte displacement whose low two bits are zero. -/

namespace Sys2Proof

/-- A REG or COBR source operand: a register or a literal 0 to 31 (10_state R28, R29). -/
inductive Operand where
  | reg (n : RegNum)
  | lit (v : BitVec 5)
  deriving DecidableEq, Repr

/-- The scale factors of the index modes (30_encoding R151). -/
inductive Scale where
  | x1 | x2 | x4 | x8 | x16
  deriving DecidableEq, Repr

/-- The nine addressing modes (30_encoding R149). -/
inductive MemOperand where
  | absOffset (offset : BitVec 12)
  | absDisp (disp : Word)
  | indirect (base : RegNum)
  | indOffset (base : RegNum) (offset : BitVec 12)
  | indDisp (base : RegNum) (disp : Word)
  | indIndex (base index : RegNum) (scale : Scale)
  | indIndexDisp (base index : RegNum) (scale : Scale) (disp : Word)
  | indexDisp (index : RegNum) (scale : Scale) (disp : Word)
  | ipDisp (disp : Word)
  deriving DecidableEq, Repr

/-- The 181 instructions (30_encoding R165 to R169). Operands in assembler order. -/
inductive Instr where
  | ld (src : MemOperand) (dst : RegNum)
  | ldob (src : MemOperand) (dst : RegNum)
  | ldos (src : MemOperand) (dst : RegNum)
  | ldib (src : MemOperand) (dst : RegNum)
  | ldis (src : MemOperand) (dst : RegNum)
  | ldl (src : MemOperand) (dst : RegNum)
  | ldt (src : MemOperand) (dst : RegNum)
  | ldq (src : MemOperand) (dst : RegNum)
  | lda (src : MemOperand) (dst : RegNum)
  | mov (src1 : Operand) (dst : RegNum)
  | movl (src1 : Operand) (dst : RegNum)
  | movt (src1 : Operand) (dst : RegNum)
  | movq (src1 : Operand) (dst : RegNum)
  | st (src : RegNum) (dst : MemOperand)
  | stob (src : RegNum) (dst : MemOperand)
  | stos (src : RegNum) (dst : MemOperand)
  | stib (src : RegNum) (dst : MemOperand)
  | stis (src : RegNum) (dst : MemOperand)
  | stl (src : RegNum) (dst : MemOperand)
  | stt (src : RegNum) (dst : MemOperand)
  | stq (src : RegNum) (dst : MemOperand)
  | selno (src1 src2 : Operand) (dst : RegNum)
  | selg (src1 src2 : Operand) (dst : RegNum)
  | sele (src1 src2 : Operand) (dst : RegNum)
  | selge (src1 src2 : Operand) (dst : RegNum)
  | sell (src1 src2 : Operand) (dst : RegNum)
  | selne (src1 src2 : Operand) (dst : RegNum)
  | selle (src1 src2 : Operand) (dst : RegNum)
  | selo (src1 src2 : Operand) (dst : RegNum)
  | addono (src1 src2 : Operand) (dst : RegNum)
  | addog (src1 src2 : Operand) (dst : RegNum)
  | addoe (src1 src2 : Operand) (dst : RegNum)
  | addoge (src1 src2 : Operand) (dst : RegNum)
  | addol (src1 src2 : Operand) (dst : RegNum)
  | addone (src1 src2 : Operand) (dst : RegNum)
  | addole (src1 src2 : Operand) (dst : RegNum)
  | addoo (src1 src2 : Operand) (dst : RegNum)
  | addino (src1 src2 : Operand) (dst : RegNum)
  | addig (src1 src2 : Operand) (dst : RegNum)
  | addie (src1 src2 : Operand) (dst : RegNum)
  | addige (src1 src2 : Operand) (dst : RegNum)
  | addil (src1 src2 : Operand) (dst : RegNum)
  | addine (src1 src2 : Operand) (dst : RegNum)
  | addile (src1 src2 : Operand) (dst : RegNum)
  | addio (src1 src2 : Operand) (dst : RegNum)
  | addc (src1 src2 : Operand) (dst : RegNum)
  | addo (src1 src2 : Operand) (dst : RegNum)
  | addi (src1 src2 : Operand) (dst : RegNum)
  | subono (src1 src2 : Operand) (dst : RegNum)
  | subog (src1 src2 : Operand) (dst : RegNum)
  | suboe (src1 src2 : Operand) (dst : RegNum)
  | suboge (src1 src2 : Operand) (dst : RegNum)
  | subol (src1 src2 : Operand) (dst : RegNum)
  | subone (src1 src2 : Operand) (dst : RegNum)
  | subole (src1 src2 : Operand) (dst : RegNum)
  | suboo (src1 src2 : Operand) (dst : RegNum)
  | subino (src1 src2 : Operand) (dst : RegNum)
  | subig (src1 src2 : Operand) (dst : RegNum)
  | subie (src1 src2 : Operand) (dst : RegNum)
  | subige (src1 src2 : Operand) (dst : RegNum)
  | subil (src1 src2 : Operand) (dst : RegNum)
  | subine (src1 src2 : Operand) (dst : RegNum)
  | subile (src1 src2 : Operand) (dst : RegNum)
  | subio (src1 src2 : Operand) (dst : RegNum)
  | subc (src1 src2 : Operand) (dst : RegNum)
  | subo (src1 src2 : Operand) (dst : RegNum)
  | subi (src1 src2 : Operand) (dst : RegNum)
  | mulo (src1 src2 : Operand) (dst : RegNum)
  | muli (src1 src2 : Operand) (dst : RegNum)
  | divo (src1 src2 : Operand) (dst : RegNum)
  | divi (src1 src2 : Operand) (dst : RegNum)
  | remo (src1 src2 : Operand) (dst : RegNum)
  | remi (src1 src2 : Operand) (dst : RegNum)
  | modi (src1 src2 : Operand) (dst : RegNum)
  | emul (src1 src2 : Operand) (dst : RegNum)
  | ediv (src1 src2 : Operand) (dst : RegNum)
  | shlo (src1 src2 : Operand) (dst : RegNum)
  | shro (src1 src2 : Operand) (dst : RegNum)
  | shli (src1 src2 : Operand) (dst : RegNum)
  | shri (src1 src2 : Operand) (dst : RegNum)
  | shrdi (src1 src2 : Operand) (dst : RegNum)
  | rotate (src1 src2 : Operand) (dst : RegNum)
  | eshro (src1 src2 : Operand) (dst : RegNum)
  | alterbit (src1 src2 : Operand) (dst : RegNum)
  | and (src1 src2 : Operand) (dst : RegNum)
  | andnot (src1 src2 : Operand) (dst : RegNum)
  | bswap (src1 : Operand) (dst : RegNum)
  | chkbit (src1 src2 : Operand)
  | clrbit (src1 src2 : Operand) (dst : RegNum)
  | extract (src1 src2 : Operand) (dst : RegNum)
  | modify (src1 src2 : Operand) (dst : RegNum)
  | nand (src1 src2 : Operand) (dst : RegNum)
  | nor (src1 src2 : Operand) (dst : RegNum)
  | not (src1 : Operand) (dst : RegNum)
  | notand (src1 src2 : Operand) (dst : RegNum)
  | notbit (src1 src2 : Operand) (dst : RegNum)
  | notor (src1 src2 : Operand) (dst : RegNum)
  | or (src1 src2 : Operand) (dst : RegNum)
  | ornot (src1 src2 : Operand) (dst : RegNum)
  | scanbit (src1 : Operand) (dst : RegNum)
  | scanbyte (src1 src2 : Operand)
  | setbit (src1 src2 : Operand) (dst : RegNum)
  | spanbit (src1 : Operand) (dst : RegNum)
  | xnor (src1 src2 : Operand) (dst : RegNum)
  | xor (src1 src2 : Operand) (dst : RegNum)
  | cmpo (src1 src2 : Operand)
  | cmpi (src1 src2 : Operand)
  | cmpob (src1 src2 : Operand)
  | cmpib (src1 src2 : Operand)
  | cmpos (src1 src2 : Operand)
  | cmpis (src1 src2 : Operand)
  | cmpdeco (src1 src2 : Operand) (dst : RegNum)
  | cmpdeci (src1 src2 : Operand) (dst : RegNum)
  | cmpinco (src1 src2 : Operand) (dst : RegNum)
  | cmpinci (src1 src2 : Operand) (dst : RegNum)
  | concmpo (src1 src2 : Operand)
  | concmpi (src1 src2 : Operand)
  | testno (dst : RegNum)
  | testg (dst : RegNum)
  | teste (dst : RegNum)
  | testge (dst : RegNum)
  | testl (dst : RegNum)
  | testne (dst : RegNum)
  | testle (dst : RegNum)
  | testo (dst : RegNum)
  | b (disp : BitVec 24)
  | bx (targ : MemOperand)
  | bal (disp : BitVec 24)
  | balx (src : MemOperand) (dst : RegNum)
  | bbc (src1 : Operand) (src2 : RegNum) (disp : BitVec 13)
  | bbs (src1 : Operand) (src2 : RegNum) (disp : BitVec 13)
  | bno (disp : BitVec 24)
  | bg (disp : BitVec 24)
  | be (disp : BitVec 24)
  | bge (disp : BitVec 24)
  | bl (disp : BitVec 24)
  | bne (disp : BitVec 24)
  | ble (disp : BitVec 24)
  | bo (disp : BitVec 24)
  | cmpobg (src1 : Operand) (src2 : RegNum) (disp : BitVec 13)
  | cmpobe (src1 : Operand) (src2 : RegNum) (disp : BitVec 13)
  | cmpobge (src1 : Operand) (src2 : RegNum) (disp : BitVec 13)
  | cmpobl (src1 : Operand) (src2 : RegNum) (disp : BitVec 13)
  | cmpobne (src1 : Operand) (src2 : RegNum) (disp : BitVec 13)
  | cmpoble (src1 : Operand) (src2 : RegNum) (disp : BitVec 13)
  | cmpibno (src1 : Operand) (src2 : RegNum) (disp : BitVec 13)
  | cmpibg (src1 : Operand) (src2 : RegNum) (disp : BitVec 13)
  | cmpibe (src1 : Operand) (src2 : RegNum) (disp : BitVec 13)
  | cmpibge (src1 : Operand) (src2 : RegNum) (disp : BitVec 13)
  | cmpibl (src1 : Operand) (src2 : RegNum) (disp : BitVec 13)
  | cmpibne (src1 : Operand) (src2 : RegNum) (disp : BitVec 13)
  | cmpible (src1 : Operand) (src2 : RegNum) (disp : BitVec 13)
  | cmpibo (src1 : Operand) (src2 : RegNum) (disp : BitVec 13)
  | call (disp : BitVec 24)
  | callx (targ : MemOperand)
  | calls (src1 : Operand)
  | ret
  | flushreg
  | faultno
  | faultg
  | faulte
  | faultge
  | faultl
  | faultne
  | faultle
  | faulto
  | mark
  | fmark
  | syncf
  | atadd (src1 src2 : Operand) (dst : RegNum)
  | atmod (src1 src2 : Operand) (dst : RegNum)
  | dcctl (src1 src2 : Operand) (dst : RegNum)
  | halt (src1 : Operand)
  | icctl (src1 src2 : Operand) (dst : RegNum)
  | intctl (src1 : Operand) (dst : RegNum)
  | intdis
  | inten
  | modac (src1 src2 : Operand) (dst : RegNum)
  | modpc (src1 src2 : Operand) (dst : RegNum)
  | modtc (src1 src2 : Operand) (dst : RegNum)
  | sysctl (src1 src2 : Operand) (dst : RegNum)
  deriving DecidableEq, Repr

end Sys2Proof
end

