-- ==== Sys2Proof/WellFormed.lean ====
section
/-! DEFINITION. Which terms of `Instr` an encoding can hold: a CTRL or COBR displacement is a multiple of 4
(spec/30_encoding.md R145, R146). Every other field of `Instr` has exactly the width of its field. -/

namespace Sys2Proof

/-- A displacement that the field `opword[23:2]` or `opword[12:2]` can hold: its low two bits are zero (R145, R146). -/
def wordDisp {n : Nat} (disp : BitVec n) : Bool := disp.extractLsb' 0 2 == 0#2

/-- The well-formed instructions. -/
def Instr.wellFormed : Instr → Bool
  | .ld _ _ => true
  | .ldob _ _ => true
  | .ldos _ _ => true
  | .ldib _ _ => true
  | .ldis _ _ => true
  | .ldl _ _ => true
  | .ldt _ _ => true
  | .ldq _ _ => true
  | .lda _ _ => true
  | .mov _ _ => true
  | .movl _ _ => true
  | .movt _ _ => true
  | .movq _ _ => true
  | .st _ _ => true
  | .stob _ _ => true
  | .stos _ _ => true
  | .stib _ _ => true
  | .stis _ _ => true
  | .stl _ _ => true
  | .stt _ _ => true
  | .stq _ _ => true
  | .selno _ _ _ => true
  | .selg _ _ _ => true
  | .sele _ _ _ => true
  | .selge _ _ _ => true
  | .sell _ _ _ => true
  | .selne _ _ _ => true
  | .selle _ _ _ => true
  | .selo _ _ _ => true
  | .addono _ _ _ => true
  | .addog _ _ _ => true
  | .addoe _ _ _ => true
  | .addoge _ _ _ => true
  | .addol _ _ _ => true
  | .addone _ _ _ => true
  | .addole _ _ _ => true
  | .addoo _ _ _ => true
  | .addino _ _ _ => true
  | .addig _ _ _ => true
  | .addie _ _ _ => true
  | .addige _ _ _ => true
  | .addil _ _ _ => true
  | .addine _ _ _ => true
  | .addile _ _ _ => true
  | .addio _ _ _ => true
  | .addc _ _ _ => true
  | .addo _ _ _ => true
  | .addi _ _ _ => true
  | .subono _ _ _ => true
  | .subog _ _ _ => true
  | .suboe _ _ _ => true
  | .suboge _ _ _ => true
  | .subol _ _ _ => true
  | .subone _ _ _ => true
  | .subole _ _ _ => true
  | .suboo _ _ _ => true
  | .subino _ _ _ => true
  | .subig _ _ _ => true
  | .subie _ _ _ => true
  | .subige _ _ _ => true
  | .subil _ _ _ => true
  | .subine _ _ _ => true
  | .subile _ _ _ => true
  | .subio _ _ _ => true
  | .subc _ _ _ => true
  | .subo _ _ _ => true
  | .subi _ _ _ => true
  | .mulo _ _ _ => true
  | .muli _ _ _ => true
  | .divo _ _ _ => true
  | .divi _ _ _ => true
  | .remo _ _ _ => true
  | .remi _ _ _ => true
  | .modi _ _ _ => true
  | .emul _ _ _ => true
  | .ediv _ _ _ => true
  | .shlo _ _ _ => true
  | .shro _ _ _ => true
  | .shli _ _ _ => true
  | .shri _ _ _ => true
  | .shrdi _ _ _ => true
  | .rotate _ _ _ => true
  | .eshro _ _ _ => true
  | .alterbit _ _ _ => true
  | .and _ _ _ => true
  | .andnot _ _ _ => true
  | .bswap _ _ => true
  | .chkbit _ _ => true
  | .clrbit _ _ _ => true
  | .extract _ _ _ => true
  | .modify _ _ _ => true
  | .nand _ _ _ => true
  | .nor _ _ _ => true
  | .not _ _ => true
  | .notand _ _ _ => true
  | .notbit _ _ _ => true
  | .notor _ _ _ => true
  | .or _ _ _ => true
  | .ornot _ _ _ => true
  | .scanbit _ _ => true
  | .scanbyte _ _ => true
  | .setbit _ _ _ => true
  | .spanbit _ _ => true
  | .xnor _ _ _ => true
  | .xor _ _ _ => true
  | .cmpo _ _ => true
  | .cmpi _ _ => true
  | .cmpob _ _ => true
  | .cmpib _ _ => true
  | .cmpos _ _ => true
  | .cmpis _ _ => true
  | .cmpdeco _ _ _ => true
  | .cmpdeci _ _ _ => true
  | .cmpinco _ _ _ => true
  | .cmpinci _ _ _ => true
  | .concmpo _ _ => true
  | .concmpi _ _ => true
  | .testno _ => true
  | .testg _ => true
  | .teste _ => true
  | .testge _ => true
  | .testl _ => true
  | .testne _ => true
  | .testle _ => true
  | .testo _ => true
  | .b disp => wordDisp disp
  | .bx _ => true
  | .bal disp => wordDisp disp
  | .balx _ _ => true
  | .bbc _ _ disp => wordDisp disp
  | .bbs _ _ disp => wordDisp disp
  | .bno disp => wordDisp disp
  | .bg disp => wordDisp disp
  | .be disp => wordDisp disp
  | .bge disp => wordDisp disp
  | .bl disp => wordDisp disp
  | .bne disp => wordDisp disp
  | .ble disp => wordDisp disp
  | .bo disp => wordDisp disp
  | .cmpobg _ _ disp => wordDisp disp
  | .cmpobe _ _ disp => wordDisp disp
  | .cmpobge _ _ disp => wordDisp disp
  | .cmpobl _ _ disp => wordDisp disp
  | .cmpobne _ _ disp => wordDisp disp
  | .cmpoble _ _ disp => wordDisp disp
  | .cmpibno _ _ disp => wordDisp disp
  | .cmpibg _ _ disp => wordDisp disp
  | .cmpibe _ _ disp => wordDisp disp
  | .cmpibge _ _ disp => wordDisp disp
  | .cmpibl _ _ disp => wordDisp disp
  | .cmpibne _ _ disp => wordDisp disp
  | .cmpible _ _ disp => wordDisp disp
  | .cmpibo _ _ disp => wordDisp disp
  | .call disp => wordDisp disp
  | .callx _ => true
  | .calls _ => true
  | .ret => true
  | .flushreg => true
  | .faultno => true
  | .faultg => true
  | .faulte => true
  | .faultge => true
  | .faultl => true
  | .faultne => true
  | .faultle => true
  | .faulto => true
  | .mark => true
  | .fmark => true
  | .syncf => true
  | .atadd _ _ _ => true
  | .atmod _ _ _ => true
  | .dcctl _ _ _ => true
  | .halt _ => true
  | .icctl _ _ _ => true
  | .intctl _ _ => true
  | .intdis => true
  | .inten => true
  | .modac _ _ _ => true
  | .modpc _ _ _ => true
  | .modtc _ _ _ => true
  | .sysctl _ _ _ => true

end Sys2Proof
end

