-- ==== Sys2Proof/Decode.lean ====
section
/-! DEFINITION. The decoder and the encoder, both written from the encoding tables of spec/30_encoding.md: formats R141,
REG R144, COBR R145, CTRL R146, MEMA R150, MEMB R151, opcodes R166 to R169, reserved encodings R157. The T bit and unused
fields are ignored (R158, R163; notes/assumptions/58.md). -/

namespace Sys2Proof

/-- Why two words are no instruction (30_encoding R157); each raises OPERATION.INVALID_OPCODE when fetched. -/
inductive DecodeError where
  /-- No row of the opcode table has this opcode. -/
  | unlistedOpcode
  /-- MEMB mode 0110. -/
  | reservedMode
  /-- MEMB scale 101 to 111. -/
  | reservedScale
  /-- M3 = 1 on a destination operand, or M1 = 1 on a TEST instruction. -/
  | literalDestination
  /-- S1 or S2 is 1: no special function registers on the Jx (R147). -/
  | specialFunction
  /-- CTRL bit 0, or MEMB bits 6:5, is not 0. -/
  | mustBeZero
  deriving DecidableEq, Repr

/-- How a MEM opcode uses its operands (30_encoding R169). -/
inductive MemForm where
  | load (f : MemOperand → RegNum → Instr)
  | store (f : RegNum → MemOperand → Instr)
  | target (f : MemOperand → Instr)

/-- How a REG opcode uses its operands (30_encoding R168). -/
inductive RegForm where
  | three (f : Operand → Operand → RegNum → Instr)
  | oneDst (f : Operand → RegNum → Instr)
  | two (f : Operand → Operand → Instr)
  | one (f : Operand → Instr)
  | none (i : Instr)

/-- How a COBR opcode uses its operands (30_encoding R167). -/
inductive CobrForm where
  | test (f : RegNum → Instr)
  | branch (f : Operand → RegNum → BitVec 13 → Instr)

/-- How a CTRL opcode uses its displacement (30_encoding R166). -/
inductive CtrlForm where
  | disp (f : BitVec 24 → Instr)
  | none (i : Instr)

/-- CTRL opcodes, `opword[31:24]` (R166). -/
def ctrlTable : List (Nat × CtrlForm) :=
  [(0x08, CtrlForm.disp Instr.b), (0x09, CtrlForm.disp Instr.call),
   (0x0A, CtrlForm.none Instr.ret), (0x0B, CtrlForm.disp Instr.bal),
   (0x10, CtrlForm.disp Instr.bno), (0x11, CtrlForm.disp Instr.bg),
   (0x12, CtrlForm.disp Instr.be), (0x13, CtrlForm.disp Instr.bge),
   (0x14, CtrlForm.disp Instr.bl), (0x15, CtrlForm.disp Instr.bne),
   (0x16, CtrlForm.disp Instr.ble), (0x17, CtrlForm.disp Instr.bo),
   (0x18, CtrlForm.none Instr.faultno), (0x19, CtrlForm.none Instr.faultg),
   (0x1A, CtrlForm.none Instr.faulte), (0x1B, CtrlForm.none Instr.faultge),
   (0x1C, CtrlForm.none Instr.faultl), (0x1D, CtrlForm.none Instr.faultne),
   (0x1E, CtrlForm.none Instr.faultle), (0x1F, CtrlForm.none Instr.faulto)]

/-- COBR opcodes, `opword[31:24]` (R167). -/
def cobrTable : List (Nat × CobrForm) :=
  [(0x20, CobrForm.test Instr.testno), (0x21, CobrForm.test Instr.testg),
   (0x22, CobrForm.test Instr.teste), (0x23, CobrForm.test Instr.testge),
   (0x24, CobrForm.test Instr.testl), (0x25, CobrForm.test Instr.testne),
   (0x26, CobrForm.test Instr.testle), (0x27, CobrForm.test Instr.testo),
   (0x30, CobrForm.branch Instr.bbc), (0x31, CobrForm.branch Instr.cmpobg),
   (0x32, CobrForm.branch Instr.cmpobe), (0x33, CobrForm.branch Instr.cmpobge),
   (0x34, CobrForm.branch Instr.cmpobl), (0x35, CobrForm.branch Instr.cmpobne),
   (0x36, CobrForm.branch Instr.cmpoble), (0x37, CobrForm.branch Instr.bbs),
   (0x38, CobrForm.branch Instr.cmpibno), (0x39, CobrForm.branch Instr.cmpibg),
   (0x3A, CobrForm.branch Instr.cmpibe), (0x3B, CobrForm.branch Instr.cmpibge),
   (0x3C, CobrForm.branch Instr.cmpibl), (0x3D, CobrForm.branch Instr.cmpibne),
   (0x3E, CobrForm.branch Instr.cmpible), (0x3F, CobrForm.branch Instr.cmpibo)]

/-- REG opcodes, `opword[31:24]` then `opword[10:7]` (R168), part 1. -/
def regTable0 : List (Nat × RegForm) :=
  [(0x580, RegForm.three Instr.notbit), (0x581, RegForm.three Instr.and),
   (0x582, RegForm.three Instr.andnot), (0x583, RegForm.three Instr.setbit),
   (0x584, RegForm.three Instr.notand), (0x586, RegForm.three Instr.xor),
   (0x587, RegForm.three Instr.or), (0x588, RegForm.three Instr.nor),
   (0x589, RegForm.three Instr.xnor), (0x58A, RegForm.oneDst Instr.not),
   (0x58B, RegForm.three Instr.ornot), (0x58C, RegForm.three Instr.clrbit),
   (0x58D, RegForm.three Instr.notor), (0x58E, RegForm.three Instr.nand),
   (0x58F, RegForm.three Instr.alterbit), (0x590, RegForm.three Instr.addo),
   (0x591, RegForm.three Instr.addi), (0x592, RegForm.three Instr.subo),
   (0x593, RegForm.three Instr.subi), (0x594, RegForm.two Instr.cmpob),
   (0x595, RegForm.two Instr.cmpib), (0x596, RegForm.two Instr.cmpos),
   (0x597, RegForm.two Instr.cmpis), (0x598, RegForm.three Instr.shro)]

/-- REG opcodes, `opword[31:24]` then `opword[10:7]` (R168), part 2. -/
def regTable1 : List (Nat × RegForm) :=
  [(0x59A, RegForm.three Instr.shrdi), (0x59B, RegForm.three Instr.shri),
   (0x59C, RegForm.three Instr.shlo), (0x59D, RegForm.three Instr.rotate),
   (0x59E, RegForm.three Instr.shli), (0x5A0, RegForm.two Instr.cmpo),
   (0x5A1, RegForm.two Instr.cmpi), (0x5A2, RegForm.two Instr.concmpo),
   (0x5A3, RegForm.two Instr.concmpi), (0x5A4, RegForm.three Instr.cmpinco),
   (0x5A5, RegForm.three Instr.cmpinci), (0x5A6, RegForm.three Instr.cmpdeco),
   (0x5A7, RegForm.three Instr.cmpdeci), (0x5AC, RegForm.two Instr.scanbyte),
   (0x5AD, RegForm.oneDst Instr.bswap), (0x5AE, RegForm.two Instr.chkbit),
   (0x5B0, RegForm.three Instr.addc), (0x5B2, RegForm.three Instr.subc),
   (0x5B4, RegForm.none Instr.intdis), (0x5B5, RegForm.none Instr.inten),
   (0x5CC, RegForm.oneDst Instr.mov), (0x5D8, RegForm.three Instr.eshro),
   (0x5DC, RegForm.oneDst Instr.movl), (0x5EC, RegForm.oneDst Instr.movt)]

/-- REG opcodes, `opword[31:24]` then `opword[10:7]` (R168), part 3. -/
def regTable2 : List (Nat × RegForm) :=
  [(0x5FC, RegForm.oneDst Instr.movq), (0x610, RegForm.three Instr.atmod),
   (0x612, RegForm.three Instr.atadd), (0x640, RegForm.oneDst Instr.spanbit),
   (0x641, RegForm.oneDst Instr.scanbit), (0x645, RegForm.three Instr.modac),
   (0x650, RegForm.three Instr.modify), (0x651, RegForm.three Instr.extract),
   (0x654, RegForm.three Instr.modtc), (0x655, RegForm.three Instr.modpc),
   (0x658, RegForm.oneDst Instr.intctl), (0x659, RegForm.three Instr.sysctl),
   (0x65B, RegForm.three Instr.icctl), (0x65C, RegForm.three Instr.dcctl),
   (0x65D, RegForm.one Instr.halt), (0x660, RegForm.one Instr.calls),
   (0x66B, RegForm.none Instr.mark), (0x66C, RegForm.none Instr.fmark),
   (0x66D, RegForm.none Instr.flushreg), (0x66F, RegForm.none Instr.syncf),
   (0x670, RegForm.three Instr.emul), (0x671, RegForm.three Instr.ediv),
   (0x701, RegForm.three Instr.mulo), (0x708, RegForm.three Instr.remo)]

/-- REG opcodes, `opword[31:24]` then `opword[10:7]` (R168), part 4. -/
def regTable3 : List (Nat × RegForm) :=
  [(0x70B, RegForm.three Instr.divo), (0x741, RegForm.three Instr.muli),
   (0x748, RegForm.three Instr.remi), (0x749, RegForm.three Instr.modi),
   (0x74B, RegForm.three Instr.divi), (0x780, RegForm.three Instr.addono),
   (0x781, RegForm.three Instr.addino), (0x782, RegForm.three Instr.subono),
   (0x783, RegForm.three Instr.subino), (0x784, RegForm.three Instr.selno),
   (0x790, RegForm.three Instr.addog), (0x791, RegForm.three Instr.addig),
   (0x792, RegForm.three Instr.subog), (0x793, RegForm.three Instr.subig),
   (0x794, RegForm.three Instr.selg), (0x7A0, RegForm.three Instr.addoe),
   (0x7A1, RegForm.three Instr.addie), (0x7A2, RegForm.three Instr.suboe),
   (0x7A3, RegForm.three Instr.subie), (0x7A4, RegForm.three Instr.sele),
   (0x7B0, RegForm.three Instr.addoge), (0x7B1, RegForm.three Instr.addige),
   (0x7B2, RegForm.three Instr.suboge), (0x7B3, RegForm.three Instr.subige)]

/-- REG opcodes, `opword[31:24]` then `opword[10:7]` (R168), part 5. -/
def regTable4 : List (Nat × RegForm) :=
  [(0x7B4, RegForm.three Instr.selge), (0x7C0, RegForm.three Instr.addol),
   (0x7C1, RegForm.three Instr.addil), (0x7C2, RegForm.three Instr.subol),
   (0x7C3, RegForm.three Instr.subil), (0x7C4, RegForm.three Instr.sell),
   (0x7D0, RegForm.three Instr.addone), (0x7D1, RegForm.three Instr.addine),
   (0x7D2, RegForm.three Instr.subone), (0x7D3, RegForm.three Instr.subine),
   (0x7D4, RegForm.three Instr.selne), (0x7E0, RegForm.three Instr.addole),
   (0x7E1, RegForm.three Instr.addile), (0x7E2, RegForm.three Instr.subole),
   (0x7E3, RegForm.three Instr.subile), (0x7E4, RegForm.three Instr.selle),
   (0x7F0, RegForm.three Instr.addoo), (0x7F1, RegForm.three Instr.addio),
   (0x7F2, RegForm.three Instr.suboo), (0x7F3, RegForm.three Instr.subio),
   (0x7F4, RegForm.three Instr.selo)]

/-- REG opcodes, `opword[31:24]` then `opword[10:7]` (R168). -/
def regTable : List (Nat × RegForm) :=
  regTable0 ++ regTable1 ++ regTable2 ++ regTable3 ++ regTable4

/-- MEM opcodes, `opword[31:24]` (R169). -/
def memTable : List (Nat × MemForm) :=
  [(0x80, MemForm.load Instr.ldob), (0x82, MemForm.store Instr.stob),
   (0x84, MemForm.target Instr.bx), (0x85, MemForm.load Instr.balx),
   (0x86, MemForm.target Instr.callx), (0x88, MemForm.load Instr.ldos),
   (0x8A, MemForm.store Instr.stos), (0x8C, MemForm.load Instr.lda),
   (0x90, MemForm.load Instr.ld), (0x92, MemForm.store Instr.st),
   (0x98, MemForm.load Instr.ldl), (0x9A, MemForm.store Instr.stl),
   (0xA0, MemForm.load Instr.ldt), (0xA2, MemForm.store Instr.stt),
   (0xB0, MemForm.load Instr.ldq), (0xB2, MemForm.store Instr.stq),
   (0xC0, MemForm.load Instr.ldib), (0xC2, MemForm.store Instr.stib),
   (0xC8, MemForm.load Instr.ldis), (0xCA, MemForm.store Instr.stis)]

/-- The row of opcode `op` in a table. -/
def findOpcode {α : Type} (op : Nat) : List (Nat × α) → Option α
  | [] => none
  | (k, v) :: rest => if k = op then some v else findOpcode op rest

/-- `opword[31:24]`. -/
def opcode8 (w : Word) : BitVec 8 := w.extractLsb' 24 8

/-- The three-digit opcode of a REG word: `opword[31:24]` then `opword[10:7]` (R144). -/
def opcode12 (w : Word) : BitVec 12 := w.extractLsb' 24 8 ++ w.extractLsb' 7 4

/-- A source field with its mode bit: 1 makes it a literal (R144, R145). -/
def operandOf (literal : BitVec 1) (field : BitVec 5) : Operand :=
  if literal = 1#1 then .lit field else .reg field

/-- The scale field (R151): 000 to 100 are 1, 2, 4, 8 and 16, the rest reserved. -/
def scaleOf (field : BitVec 3) : Except DecodeError Scale :=
  if field = 0#3 then .ok .x1 else if field = 1#3 then .ok .x2 else if field = 2#3 then .ok .x4
  else if field = 3#3 then .ok .x8 else if field = 4#3 then .ok .x16 else .error .reservedScale

/-- The addressing mode of a MEMB word (R151), `w1` being the word at IP + 4. -/
def membOperand (w0 w1 : Word) : Except DecodeError MemOperand :=
  let base : RegNum := w0.extractLsb' 14 5
  let index : RegNum := w0.extractLsb' 0 5
  let mode : BitVec 4 := w0.extractLsb' 10 4
  if w0.extractLsb' 5 2 ≠ 0#2 then .error .mustBeZero else
  match scaleOf (w0.extractLsb' 7 3) with
  | .error e => .error e
  | .ok scale =>
    if mode = 4#4 then .ok (.indirect base)
    else if mode = 5#4 then .ok (.ipDisp w1)
    else if mode = 7#4 then .ok (.indIndex base index scale)
    else if mode = 12#4 then .ok (.absDisp w1)
    else if mode = 13#4 then .ok (.indDisp base w1)
    else if mode = 14#4 then .ok (.indexDisp index scale w1)
    else if mode = 15#4 then .ok (.indIndexDisp base index scale w1)
    else .error .reservedMode

/-- The memory operand of a MEM word: MEMA when bit 12 is 0 (R150), else MEMB (R151). -/
def memOperand (w0 w1 : Word) : Except DecodeError MemOperand :=
  if w0.extractLsb' 12 1 = 1#1 then membOperand w0 w1
  else if w0.extractLsb' 13 1 = 1#1 then .ok (.indOffset (w0.extractLsb' 14 5) (w0.extractLsb' 0 12))
  else .ok (.absOffset (w0.extractLsb' 0 12))

/-- A MEM word (R148 to R151, R169). -/
def decodeMem (w0 w1 : Word) : Except DecodeError Instr :=
  match findOpcode (opcode8 w0).toNat memTable with
  | none => .error .unlistedOpcode
  | some form =>
    match memOperand w0 w1 with
    | .error e => .error e
    | .ok m =>
      match form with
      | .load f => .ok (f m (w0.extractLsb' 19 5))
      | .store f => .ok (f (w0.extractLsb' 19 5) m)
      | .target f => .ok (f m)

/-- A REG word (R144, R147, R168). -/
def decodeReg (w : Word) : Except DecodeError Instr :=
  match findOpcode (opcode12 w).toNat regTable with
  | none => .error .unlistedOpcode
  | some form =>
    let src1 := operandOf (w.extractLsb' 11 1) (w.extractLsb' 0 5)
    let src2 := operandOf (w.extractLsb' 12 1) (w.extractLsb' 14 5)
    let dst : RegNum := w.extractLsb' 19 5
    let m3 : BitVec 1 := w.extractLsb' 13 1
    if w.extractLsb' 5 2 ≠ 0#2 then .error .specialFunction else
    match form with
    | .three f => if m3 = 1#1 then .error .literalDestination else .ok (f src1 src2 dst)
    | .oneDst f => if m3 = 1#1 then .error .literalDestination else .ok (f src1 dst)
    | .two f => .ok (f src1 src2)
    | .one f => .ok (f src1)
    | .none i => .ok i

/-- A COBR word (R145, R167). The displacement is `opword[12:2]` with two zero bits below it. -/
def decodeCobr (w : Word) : Except DecodeError Instr :=
  match findOpcode (opcode8 w).toNat cobrTable with
  | none => .error .unlistedOpcode
  | some form =>
    if w.extractLsb' 0 1 = 1#1 then .error .specialFunction else
    match form with
    | .test f => if w.extractLsb' 13 1 = 1#1 then .error .literalDestination else .ok (f (w.extractLsb' 19 5))
    | .branch f => .ok (f (operandOf (w.extractLsb' 13 1) (w.extractLsb' 19 5)) (w.extractLsb' 14 5)
        (w.extractLsb' 2 11 ++ 0#2))

/-- A CTRL word (R146, R166). The displacement is `opword[23:2]` with two zero bits below it. -/
def decodeCtrl (w : Word) : Except DecodeError Instr :=
  match findOpcode (opcode8 w).toNat ctrlTable with
  | none => .error .unlistedOpcode
  | some form =>
    if w.extractLsb' 0 1 = 1#1 then .error .mustBeZero else
    match form with
    | .disp f => .ok (f (w.extractLsb' 2 22 ++ 0#2))
    | .none i => .ok i

/-- The instruction of the words at IP and IP + 4 (R141, R164); total, rejecting by name. -/
def decode (w0 w1 : Word) : Except DecodeError Instr :=
  let op8 := (opcode8 w0).toNat
  if op8 < 0x20 then decodeCtrl w0
  else if op8 < 0x40 then decodeCobr w0
  else if op8 < 0x80 then decodeReg w0
  else decodeMem w0 w1

/-- Whether the first word announces a displacement word at IP + 4 (R142, R151, R164). -/
def needsSecondWord (w0 : Word) : Bool :=
  let mode : BitVec 4 := w0.extractLsb' 10 4
  decide (0x80 ≤ (opcode8 w0).toNat) && (w0.extractLsb' 12 1 == 1#1) &&
    (mode == 5#4 || mode == 12#4 || mode == 13#4 || mode == 14#4 || mode == 15#4)

/-- The two words that bits `w` of an opcode-table row stand for: bits 31:0 first, every bit from `nbits` up zero. -/
def tableWords (nbits w : Nat) : Word × Word :=
  let v := w % 2 ^ nbits
  (BitVec.ofNat 32 v, BitVec.ofNat 32 (v / 2 ^ 32))

/-- The instruction the decoder reads from an instruction whose bits are `w`, numbered as spec/opcode_table.json. -/
def decodeTableWord (nbits w : Nat) : Option Instr :=
  match decode (tableWords nbits w).1 (tableWords nbits w).2 with
  | .ok i => some i
  | .error _ => none

/-! The encoder. -/

/-- The mode bit and the field of a source operand (R144, R145). -/
def Operand.mode : Operand → BitVec 1
  | .reg _ => 0#1
  | .lit _ => 1#1

/-- The 5-bit field of a source operand. -/
def Operand.field : Operand → BitVec 5
  | .reg n => n
  | .lit v => v

/-- The scale field (R151). -/
def Scale.field : Scale → BitVec 3
  | .x1 => 0#3
  | .x2 => 1#3
  | .x4 => 2#3
  | .x8 => 3#3
  | .x16 => 4#3

/-- A REG word from its fields, most significant first (R144). -/
def regWord (op : BitVec 12) (dst src2 : BitVec 5) (m2 m1 : BitVec 1) (src1 : BitVec 5) : Word :=
  op.extractLsb' 4 8 ++ dst ++ src2 ++ 0#1 ++ m2 ++ m1 ++ op.extractLsb' 0 4 ++ 0#2 ++ src1

/-- A COBR word from its fields (R145). -/
def cobrWord (op : BitVec 8) (src1 src2 : BitVec 5) (m1 : BitVec 1) (disp : BitVec 13) : Word :=
  op ++ src1 ++ src2 ++ m1 ++ disp.extractLsb' 2 11 ++ 0#2

/-- A CTRL word from its fields (R146). -/
def ctrlWord (op : BitVec 8) (disp : BitVec 24) : Word :=
  op ++ disp.extractLsb' 2 22 ++ 0#2

/-- A MEMB word from its fields (R151). -/
def membWord (op : BitVec 8) (r base : BitVec 5) (mode : BitVec 4) (scale : BitVec 3) (index : BitVec 5) : Word :=
  op ++ r ++ base ++ mode ++ scale ++ 0#2 ++ index

/-- A MEMA word from its fields (R150). -/
def memaWord (op : BitVec 8) (r base : BitVec 5) (mode : BitVec 1) (offset : BitVec 12) : Word :=
  op ++ r ++ base ++ mode ++ 0#1 ++ offset

/-- The first word of a MEM instruction (R150, R151). -/
def MemOperand.firstWord (op : BitVec 8) (r : BitVec 5) : MemOperand → Word
  | .absOffset off => memaWord op r 0 0 off
  | .indOffset base off => memaWord op r base 1 off
  | .indirect base => membWord op r base 4 0 0
  | .ipDisp _ => membWord op r 0 5 0 0
  | .indIndex base index sc => membWord op r base 7 sc.field index
  | .absDisp _ => membWord op r 0 12 0 0
  | .indDisp base _ => membWord op r base 13 0 0
  | .indexDisp index sc _ => membWord op r 0 14 sc.field index
  | .indIndexDisp base index sc _ => membWord op r base 15 sc.field index

/-- The displacement word of a MEM instruction, if its mode has one (R151). -/
def MemOperand.secondWord : MemOperand → Option Word
  | .absOffset _ => none
  | .indOffset _ _ => none
  | .indirect _ => none
  | .ipDisp d => some d
  | .indIndex _ _ _ => none
  | .absDisp d => some d
  | .indDisp _ d => some d
  | .indexDisp _ _ d => some d
  | .indIndexDisp _ _ _ d => some d

def encReg3 (op : BitVec 12) (src1 src2 : Operand) (dst : RegNum) : Word × Option Word :=
  (regWord op dst src2.field src2.mode src1.mode src1.field, none)

def encReg2 (op : BitVec 12) (src1 src2 : Operand) : Word × Option Word :=
  (regWord op 0 src2.field src2.mode src1.mode src1.field, none)

def encRegDst (op : BitVec 12) (src1 : Operand) (dst : RegNum) : Word × Option Word :=
  (regWord op dst 0 0 src1.mode src1.field, none)

def encReg1 (op : BitVec 12) (src1 : Operand) : Word × Option Word :=
  (regWord op 0 0 0 src1.mode src1.field, none)

def encReg0 (op : BitVec 12) : Word × Option Word := (regWord op 0 0 0 0 0, none)

def encCobr (op : BitVec 8) (src1 : Operand) (src2 : RegNum) (disp : BitVec 13) : Word × Option Word :=
  (cobrWord op src1.field src2 src1.mode disp, none)

def encTest (op : BitVec 8) (dst : RegNum) : Word × Option Word := (cobrWord op dst 0 0 0, none)

def encCtrl (op : BitVec 8) (disp : BitVec 24) : Word × Option Word := (ctrlWord op disp, none)

def encMem (op : BitVec 8) (r : RegNum) (m : MemOperand) : Word × Option Word := (m.firstWord op r, m.secondWord)

/-- The words of an instruction: the opword, and the displacement word where the instruction has one. -/
def encode : Instr → Word × Option Word
  | .ld src dst => encMem 0x90 dst src
  | .ldob src dst => encMem 0x80 dst src
  | .ldos src dst => encMem 0x88 dst src
  | .ldib src dst => encMem 0xC0 dst src
  | .ldis src dst => encMem 0xC8 dst src
  | .ldl src dst => encMem 0x98 dst src
  | .ldt src dst => encMem 0xA0 dst src
  | .ldq src dst => encMem 0xB0 dst src
  | .lda src dst => encMem 0x8C dst src
  | .mov src1 dst => encRegDst 0x5CC src1 dst
  | .movl src1 dst => encRegDst 0x5DC src1 dst
  | .movt src1 dst => encRegDst 0x5EC src1 dst
  | .movq src1 dst => encRegDst 0x5FC src1 dst
  | .st src dst => encMem 0x92 src dst
  | .stob src dst => encMem 0x82 src dst
  | .stos src dst => encMem 0x8A src dst
  | .stib src dst => encMem 0xC2 src dst
  | .stis src dst => encMem 0xCA src dst
  | .stl src dst => encMem 0x9A src dst
  | .stt src dst => encMem 0xA2 src dst
  | .stq src dst => encMem 0xB2 src dst
  | .selno src1 src2 dst => encReg3 0x784 src1 src2 dst
  | .selg src1 src2 dst => encReg3 0x794 src1 src2 dst
  | .sele src1 src2 dst => encReg3 0x7A4 src1 src2 dst
  | .selge src1 src2 dst => encReg3 0x7B4 src1 src2 dst
  | .sell src1 src2 dst => encReg3 0x7C4 src1 src2 dst
  | .selne src1 src2 dst => encReg3 0x7D4 src1 src2 dst
  | .selle src1 src2 dst => encReg3 0x7E4 src1 src2 dst
  | .selo src1 src2 dst => encReg3 0x7F4 src1 src2 dst
  | .addono src1 src2 dst => encReg3 0x780 src1 src2 dst
  | .addog src1 src2 dst => encReg3 0x790 src1 src2 dst
  | .addoe src1 src2 dst => encReg3 0x7A0 src1 src2 dst
  | .addoge src1 src2 dst => encReg3 0x7B0 src1 src2 dst
  | .addol src1 src2 dst => encReg3 0x7C0 src1 src2 dst
  | .addone src1 src2 dst => encReg3 0x7D0 src1 src2 dst
  | .addole src1 src2 dst => encReg3 0x7E0 src1 src2 dst
  | .addoo src1 src2 dst => encReg3 0x7F0 src1 src2 dst
  | .addino src1 src2 dst => encReg3 0x781 src1 src2 dst
  | .addig src1 src2 dst => encReg3 0x791 src1 src2 dst
  | .addie src1 src2 dst => encReg3 0x7A1 src1 src2 dst
  | .addige src1 src2 dst => encReg3 0x7B1 src1 src2 dst
  | .addil src1 src2 dst => encReg3 0x7C1 src1 src2 dst
  | .addine src1 src2 dst => encReg3 0x7D1 src1 src2 dst
  | .addile src1 src2 dst => encReg3 0x7E1 src1 src2 dst
  | .addio src1 src2 dst => encReg3 0x7F1 src1 src2 dst
  | .addc src1 src2 dst => encReg3 0x5B0 src1 src2 dst
  | .addo src1 src2 dst => encReg3 0x590 src1 src2 dst
  | .addi src1 src2 dst => encReg3 0x591 src1 src2 dst
  | .subono src1 src2 dst => encReg3 0x782 src1 src2 dst
  | .subog src1 src2 dst => encReg3 0x792 src1 src2 dst
  | .suboe src1 src2 dst => encReg3 0x7A2 src1 src2 dst
  | .suboge src1 src2 dst => encReg3 0x7B2 src1 src2 dst
  | .subol src1 src2 dst => encReg3 0x7C2 src1 src2 dst
  | .subone src1 src2 dst => encReg3 0x7D2 src1 src2 dst
  | .subole src1 src2 dst => encReg3 0x7E2 src1 src2 dst
  | .suboo src1 src2 dst => encReg3 0x7F2 src1 src2 dst
  | .subino src1 src2 dst => encReg3 0x783 src1 src2 dst
  | .subig src1 src2 dst => encReg3 0x793 src1 src2 dst
  | .subie src1 src2 dst => encReg3 0x7A3 src1 src2 dst
  | .subige src1 src2 dst => encReg3 0x7B3 src1 src2 dst
  | .subil src1 src2 dst => encReg3 0x7C3 src1 src2 dst
  | .subine src1 src2 dst => encReg3 0x7D3 src1 src2 dst
  | .subile src1 src2 dst => encReg3 0x7E3 src1 src2 dst
  | .subio src1 src2 dst => encReg3 0x7F3 src1 src2 dst
  | .subc src1 src2 dst => encReg3 0x5B2 src1 src2 dst
  | .subo src1 src2 dst => encReg3 0x592 src1 src2 dst
  | .subi src1 src2 dst => encReg3 0x593 src1 src2 dst
  | .mulo src1 src2 dst => encReg3 0x701 src1 src2 dst
  | .muli src1 src2 dst => encReg3 0x741 src1 src2 dst
  | .divo src1 src2 dst => encReg3 0x70B src1 src2 dst
  | .divi src1 src2 dst => encReg3 0x74B src1 src2 dst
  | .remo src1 src2 dst => encReg3 0x708 src1 src2 dst
  | .remi src1 src2 dst => encReg3 0x748 src1 src2 dst
  | .modi src1 src2 dst => encReg3 0x749 src1 src2 dst
  | .emul src1 src2 dst => encReg3 0x670 src1 src2 dst
  | .ediv src1 src2 dst => encReg3 0x671 src1 src2 dst
  | .shlo src1 src2 dst => encReg3 0x59C src1 src2 dst
  | .shro src1 src2 dst => encReg3 0x598 src1 src2 dst
  | .shli src1 src2 dst => encReg3 0x59E src1 src2 dst
  | .shri src1 src2 dst => encReg3 0x59B src1 src2 dst
  | .shrdi src1 src2 dst => encReg3 0x59A src1 src2 dst
  | .rotate src1 src2 dst => encReg3 0x59D src1 src2 dst
  | .eshro src1 src2 dst => encReg3 0x5D8 src1 src2 dst
  | .alterbit src1 src2 dst => encReg3 0x58F src1 src2 dst
  | .and src1 src2 dst => encReg3 0x581 src1 src2 dst
  | .andnot src1 src2 dst => encReg3 0x582 src1 src2 dst
  | .bswap src1 dst => encRegDst 0x5AD src1 dst
  | .chkbit src1 src2 => encReg2 0x5AE src1 src2
  | .clrbit src1 src2 dst => encReg3 0x58C src1 src2 dst
  | .extract src1 src2 dst => encReg3 0x651 src1 src2 dst
  | .modify src1 src2 dst => encReg3 0x650 src1 src2 dst
  | .nand src1 src2 dst => encReg3 0x58E src1 src2 dst
  | .nor src1 src2 dst => encReg3 0x588 src1 src2 dst
  | .not src1 dst => encRegDst 0x58A src1 dst
  | .notand src1 src2 dst => encReg3 0x584 src1 src2 dst
  | .notbit src1 src2 dst => encReg3 0x580 src1 src2 dst
  | .notor src1 src2 dst => encReg3 0x58D src1 src2 dst
  | .or src1 src2 dst => encReg3 0x587 src1 src2 dst
  | .ornot src1 src2 dst => encReg3 0x58B src1 src2 dst
  | .scanbit src1 dst => encRegDst 0x641 src1 dst
  | .scanbyte src1 src2 => encReg2 0x5AC src1 src2
  | .setbit src1 src2 dst => encReg3 0x583 src1 src2 dst
  | .spanbit src1 dst => encRegDst 0x640 src1 dst
  | .xnor src1 src2 dst => encReg3 0x589 src1 src2 dst
  | .xor src1 src2 dst => encReg3 0x586 src1 src2 dst
  | .cmpo src1 src2 => encReg2 0x5A0 src1 src2
  | .cmpi src1 src2 => encReg2 0x5A1 src1 src2
  | .cmpob src1 src2 => encReg2 0x594 src1 src2
  | .cmpib src1 src2 => encReg2 0x595 src1 src2
  | .cmpos src1 src2 => encReg2 0x596 src1 src2
  | .cmpis src1 src2 => encReg2 0x597 src1 src2
  | .cmpdeco src1 src2 dst => encReg3 0x5A6 src1 src2 dst
  | .cmpdeci src1 src2 dst => encReg3 0x5A7 src1 src2 dst
  | .cmpinco src1 src2 dst => encReg3 0x5A4 src1 src2 dst
  | .cmpinci src1 src2 dst => encReg3 0x5A5 src1 src2 dst
  | .concmpo src1 src2 => encReg2 0x5A2 src1 src2
  | .concmpi src1 src2 => encReg2 0x5A3 src1 src2
  | .testno dst => encTest 0x20 dst
  | .testg dst => encTest 0x21 dst
  | .teste dst => encTest 0x22 dst
  | .testge dst => encTest 0x23 dst
  | .testl dst => encTest 0x24 dst
  | .testne dst => encTest 0x25 dst
  | .testle dst => encTest 0x26 dst
  | .testo dst => encTest 0x27 dst
  | .b disp => encCtrl 0x8 disp
  | .bx targ => encMem 0x84 0 targ
  | .bal disp => encCtrl 0xB disp
  | .balx src dst => encMem 0x85 dst src
  | .bbc src1 src2 disp => encCobr 0x30 src1 src2 disp
  | .bbs src1 src2 disp => encCobr 0x37 src1 src2 disp
  | .bno disp => encCtrl 0x10 disp
  | .bg disp => encCtrl 0x11 disp
  | .be disp => encCtrl 0x12 disp
  | .bge disp => encCtrl 0x13 disp
  | .bl disp => encCtrl 0x14 disp
  | .bne disp => encCtrl 0x15 disp
  | .ble disp => encCtrl 0x16 disp
  | .bo disp => encCtrl 0x17 disp
  | .cmpobg src1 src2 disp => encCobr 0x31 src1 src2 disp
  | .cmpobe src1 src2 disp => encCobr 0x32 src1 src2 disp
  | .cmpobge src1 src2 disp => encCobr 0x33 src1 src2 disp
  | .cmpobl src1 src2 disp => encCobr 0x34 src1 src2 disp
  | .cmpobne src1 src2 disp => encCobr 0x35 src1 src2 disp
  | .cmpoble src1 src2 disp => encCobr 0x36 src1 src2 disp
  | .cmpibno src1 src2 disp => encCobr 0x38 src1 src2 disp
  | .cmpibg src1 src2 disp => encCobr 0x39 src1 src2 disp
  | .cmpibe src1 src2 disp => encCobr 0x3A src1 src2 disp
  | .cmpibge src1 src2 disp => encCobr 0x3B src1 src2 disp
  | .cmpibl src1 src2 disp => encCobr 0x3C src1 src2 disp
  | .cmpibne src1 src2 disp => encCobr 0x3D src1 src2 disp
  | .cmpible src1 src2 disp => encCobr 0x3E src1 src2 disp
  | .cmpibo src1 src2 disp => encCobr 0x3F src1 src2 disp
  | .call disp => encCtrl 0x9 disp
  | .callx targ => encMem 0x86 0 targ
  | .calls src1 => encReg1 0x660 src1
  | .ret => encCtrl 0xA 0
  | .flushreg => encReg0 0x66D
  | .faultno => encCtrl 0x18 0
  | .faultg => encCtrl 0x19 0
  | .faulte => encCtrl 0x1A 0
  | .faultge => encCtrl 0x1B 0
  | .faultl => encCtrl 0x1C 0
  | .faultne => encCtrl 0x1D 0
  | .faultle => encCtrl 0x1E 0
  | .faulto => encCtrl 0x1F 0
  | .mark => encReg0 0x66B
  | .fmark => encReg0 0x66C
  | .syncf => encReg0 0x66F
  | .atadd src1 src2 dst => encReg3 0x612 src1 src2 dst
  | .atmod src1 src2 dst => encReg3 0x610 src1 src2 dst
  | .dcctl src1 src2 dst => encReg3 0x65C src1 src2 dst
  | .halt src1 => encReg1 0x65D src1
  | .icctl src1 src2 dst => encReg3 0x65B src1 src2 dst
  | .intctl src1 dst => encRegDst 0x658 src1 dst
  | .intdis => encReg0 0x5B4
  | .inten => encReg0 0x5B5
  | .modac src1 src2 dst => encReg3 0x645 src1 src2 dst
  | .modpc src1 src2 dst => encReg3 0x655 src1 src2 dst
  | .modtc src1 src2 dst => encReg3 0x654 src1 src2 dst
  | .sysctl src1 src2 dst => encReg3 0x659 src1 src2 dst

end Sys2Proof
end

