-- ==== Sys2Proof/Config.lean ====
section
/-! DEFINITION. What an implementation fixes and what the manual leaves open: the parts of the family
(spec/00_scope.md R2, R8), the size of a fault record (R655) and the free values (notes/assumptions/2.md). -/

namespace Sys2Proof

/-- The three parts in scope (00_scope R1, R2). -/
inductive Part where
  | ja | jf | jd
  deriving DecidableEq, Repr

/-- `ICACHE_BYTES` (00_scope R8). -/
def Part.icacheBytes : Part → Nat
  | .ja => 2048
  | .jf => 4096
  | .jd => 4096

/-- `DCACHE_BYTES` (00_scope R8). -/
def Part.dcacheBytes : Part → Nat
  | .ja => 1024
  | .jf => 2048
  | .jd => 2048

/-- `ICACHE_LOG2_SETS` (00_scope R8): the field of icctl status. -/
def Part.icacheLog2Sets : Part → Nat
  | .ja => 6
  | .jf => 7
  | .jd => 7

/-- `DCACHE_LOG2_LINES` (00_scope R8): the field of dcctl status. -/
def Part.dcacheLog2Lines : Part → Nat
  | .ja => 6
  | .jf => 7
  | .jd => 7

/-- `ICACHE_LOCK_WORDS` (00_scope R8): the words of one lockable way of the instruction cache. -/
def Part.lockWords : Part → Nat
  | .ja => 256
  | .jf => 512
  | .jd => 512

namespace Config

/-- `ICACHE_WAYS` (00_scope R8). -/
def icacheWays : Nat := 2

/-- The data cache is direct mapped (48_processor_management R589). -/
def dcacheWays : Nat := 1

/-- The binary logarithm of the words of a cache line (48_processor_management R589). -/
def cacheLineLog2Words : Nat := 2

/-- `CACHE_LINE_BYTES` (00_scope R8) of both caches. -/
def cacheLineBytes : Nat := 4 * 2 ^ cacheLineLog2Words

/-- FREE VALUE. The word the hardware produces at a point where the spec determines none, for draw number `draw` of the
run and place `site` within the instruction. It has no body: no proof can know a value of it (notes/assumptions/2.md). -/
opaque freeWord (draw site : Nat) : Word

/-- FREE VALUE. A choice the spec leaves to the hardware, indexed as `freeWord` (notes/assumptions/2.md). -/
opaque freeBool (draw site : Nat) : Bool

/-- FREE VALUE. A number the spec leaves to the hardware, without a bound (notes/assumptions/2.md, 40.md). -/
opaque freeNat (draw site : Nat) : Nat

/-- A free byte. -/
def freeByte (draw site : Nat) : Byte := (freeWord draw site).truncate 8

/-- `FAULT_RECORD_BYTES` of 60_exceptions R655. -/
def faultRecordBytes : Word := 48

end Config
end Sys2Proof
end

