-- ==== Sys2Proof/Machine/State.lean ====
section
/-! DEFINITION. The state of the machine: everything spec/10_state.md and spec/60_exceptions.md name, the platform
(spec/20_memory.md R82) and the inputs still to come, as plain data; the reasons a step can stop; the state after reset
(spec/70_reset_and_hazards.md R724 in the parameter form of R729). -/

namespace Sys2Proof.Machine

/-- Why the machine stops with a fault of the model's own (the faults of the architecture are calls, not stops). -/
inductive Fault where
  /-- An access or a fetch at an address where the platform has no memory (92_eei_decisions D13). Raised by every data
  access, table access, spill, fill and fetch. Safe: nothing is claimed of the hardware there. -/
  | absentMemory (addr : Word)
  deriving DecidableEq, Repr

/-- Why the model has no next state. All are safe: nothing is claimed of the hardware there. -/
inductive Refusal where
  /-- An instruction without a meaning. Raised by no arm of `exec`. -/
  | notModelled (mnemonic : String)
  /-- An unaligned access that runs from one region of the address map into another (93 U13). -/
  | straddle (addr : Word)
  /-- A store to a reserved memory-mapped register (93 U9). -/
  | reservedMmrStore (addr : Word)
  /-- `ret` with PFP_DIRTY set (45_call_return R509 a, 93 U29). -/
  | pfpDirty
  /-- A spill, `flushreg` or `ret` that finds the frame chain broken (45_call_return R509 b, 93 U29). -/
  | frameChain
  /-- `modpc` that changes a reserved bit of PC (48 R604, 93 U26). -/
  | modpcReserved
  /-- `ret` that would restore a PC image with a reserved bit set (00_scope R11, 93 general convention). -/
  | pcImageReserved
  /-- `ret` from the initial frame, whose PFP nothing has set (70_reset R724, R730). -/
  | initialFrame
  /-- A system procedure table entry of type 01 or 11 (45_call_return R512, 93 U30). -/
  | reservedSptEntry
  /-- A fault table entry of kind 01 or 11 (60_exceptions R650, 93 U30). -/
  | reservedFaultEntry
  /-- A system-call entry of the fault table whose second word is not the prescribed 0000027FH (60_exceptions R650,
  00_scope R11, the general convention of 93). -/
  | faultEntryWord (word : Word)
  /-- A fault table entry that names a procedure above 259 (60_exceptions R652). -/
  | faultProcedureNumber
  /-- A TRACE fault whose table entry is not a system call to a supervisor procedure (60_exceptions R652). -/
  | traceEntry
  /-- A table access, record store, spill or fill in MMR space (60_exceptions R655, 92 D26; 45_call_return R505). -/
  | implicitMmr (addr : Word)
  /-- A record or table store into write-protected internal RAM (60_exceptions R655, 92 D26). -/
  | implicitProtected (addr : Word)
  /-- An interrupt stack pointer that is no multiple of 16 at a hardware reset (70_reset R730). -/
  | ispMisaligned (isp : Word)
  /-- A fault while a fault or an interrupt is being delivered (60_exceptions R657, 92 D26): a spill that the delivery
  makes into write-protected internal RAM (20_memory R87, notes/assumptions/65.md). -/
  | faultInDelivery
  deriving DecidableEq, Repr

/-- The contents of a register: a word, or a free value drawn once (10_state R26; notes/assumptions/2.md). -/
inductive Slot where
  | val (w : Word)
  | free (draw site : Nat)
  deriving DecidableEq, Repr

/-- A byte of memory that holds byte `lane` of a free word. -/
structure FreeByte where
  draw : Nat
  site : Nat
  lane : Nat
  deriving DecidableEq, Repr

/-- Memory as listed bytes; an unlisted byte reads as 0 (notes/assumptions/5.md). `freeBytes` are the bytes that hold a
free value; no address is in both lists. -/
structure Memory where
  cells : List Host.Cell
  freeBytes : List (Nat × FreeByte)
  deriving DecidableEq, Repr

/-- One register set of the local register cache (10_state R60). `link` is the address the new frame's PFP names, `save`
the address it is spilled to; they differ only in the case of 45_call_return R506 (notes/assumptions/35.md). -/
structure CachedFrame where
  link : Word
  save : Word
  regs : Vector Slot 16
  deriving DecidableEq, Repr

/-- The frame mechanism (10_state R60): RCACHE oldest first, RCW[10:8], CUR_FRAME, PFP_DIRTY. `unsetPfp` is the address of
the initial frame as long as its PFP is what the reset left there (70_reset R724, R730; notes/assumptions/64.md). -/
structure Frames where
  cache : List CachedFrame
  reserved : BitVec 3
  current : Word
  pfpDirty : Bool
  unsetPfp : Option Word
  deriving DecidableEq, Repr

/-- The cached pointers (10_state R59): PRCB_PTR, SPT_BASE, INT_TABLE_BASE, FAULT_TABLE_BASE, CTRL_TABLE_BASE, ISP, SSP. -/
structure Tables where
  prcb : Word
  spt : Word
  interrupt : Word
  fault : Word
  control : Word
  isp : Word
  ssp : Word
  deriving DecidableEq, Repr

/-- DLMCON, LMADRn, LMMRn, the PMCON registers and BCON (10_state R54). -/
structure MemConfig where
  dlmcon : Word
  lmadr0 : Word
  lmadr1 : Word
  lmmr0 : Word
  lmmr1 : Word
  pmcon : Vector Word 8
  bcon : Word
  deriving DecidableEq, Repr

/-- Which breakpoint registers may be modified (10_state R62, 48 R613). -/
structure Rights where
  ipb0 : Bool
  ipb1 : Bool
  dab0 : Bool
  dab1 : Bool
  bpcon : Bool
  deriving DecidableEq, Repr

/-- The breakpoint registers (10_state R54), the rights, and whether one was written since reset (60_exceptions R702). -/
structure Breakpoints where
  ipb0 : Word
  ipb1 : Word
  dab0 : Word
  dab1 : Word
  bpcon : Word
  rights : Rights
  written : Bool
  deriving DecidableEq, Repr

/-- The interrupt controller (10_state R54, R62; 60_exceptions R681, R684, R692) and the halt flag. `pins` are the levels
of the eight pins (1 high), `vector` what the pins present in expanded mode, `nmiFrame` the frame of the NMI handler,
`latency` how many more instructions may execute before a deliverable interrupt is delivered (R680, 70_reset R750). -/
structure Interrupts where
  ipnd : Word
  imsk : Word
  icon : Word
  imap0 : Word
  imap1 : Word
  imap2 : Word
  swPriority : BitVec 5
  pins : BitVec 8
  vector : Option Byte
  nmiPending : Bool
  nmiFrame : Option Word
  halted : Bool
  latency : Option Nat
  deriving DecidableEq, Repr

/-- A timer (10_state R55). -/
structure Timer where
  trr : Word
  tcr : Word
  tmr : Word
  deriving DecidableEq, Repr

/-- A byte of memory was written: its address, the draw of the step that wrote it, the value it had before. -/
structure StaleByte where
  addr : Nat
  time : Nat
  old : Byte
  deriving DecidableEq, Repr

/-- What the fetch buffer holds (20_memory R112): a 16-byte block of code, as memory was at `time` or later. -/
structure FetchBuffer where
  block : Nat
  time : Nat
  deriving DecidableEq, Repr

/-- The cache state a program can see (10_state R61, 20_memory R123): enables, instruction cache lock, and the writes
behind which a stale copy may exist, oldest first (`dataStale`: by another master; `codeStale`: since the last
invalidate; `bufferStale`: what the fetch buffer may still hold after an invalidate), and the fetch buffer. -/
structure Caches where
  dataEnabled : Bool
  instrEnabled : Bool
  instrLocked : Bool
  dataStale : List StaleByte
  codeStale : List StaleByte
  bufferStale : List StaleByte
  buffer : Option FetchBuffer
  deriving DecidableEq, Repr

/-- The windows in which the old PC.te (R745) or TC (R746) may still be in force, as instructions left. -/
structure TraceDelay where
  teWindow : Nat
  teOld : Bool
  tcWindow : Nat
  tcOld : Word
  deriving DecidableEq, Repr

/-- What stands at an external address (20_memory R82). -/
inductive MemKind where
  | ram | rom | device | absent
  deriving DecidableEq, Repr

/-- A range of external addresses of one kind, both ends included. -/
structure MemRange where
  first : Nat
  last : Nat
  kind : MemKind
  deriving DecidableEq, Repr

/-- The platform: `PART`, `EXT_MEM` (an address in no range is RAM), `BIG_ENDIAN_INIT`, `DEVICE_ID`
(92_eei_decisions, open parameters). -/
structure Platform where
  part : Part
  ranges : List MemRange
  bigEndianInit : Bool
  deviceId : Word
  deriving DecidableEq, Repr

/-- What the outside can do between two instructions (60_exceptions R694, R714; 20_memory R122; 70_reset R731). -/
inductive Event where
  /-- The levels of the eight interrupt pins, 1 high. -/
  | pins (levels : BitVec 8)
  /-- The vector the pins present in expanded mode, or none. -/
  | vector (v : Option Byte)
  /-- A falling edge on the NMI pin. -/
  | nmi
  /-- A number of clocks of timer 0 or of timer 1. -/
  | clock0 (clocks : Nat)
  | clock1 (clocks : Nat)
  /-- Another bus master writes a byte of external memory. -/
  | busWrite (addr : Word) (b : Byte)
  /-- The reset pin. -/
  | reset
  deriving DecidableEq, Repr

/-- The state of the machine. -/
structure State where
  /-- g0 to g15 (10_state R20). -/
  globals : Vector Slot 16
  /-- r0 to r15 of the current frame (10_state R20). -/
  locals : Vector Slot 16
  /-- The instruction pointer (R32). -/
  ip : Word
  /-- The arithmetic controls (R36). -/
  ac : Word
  /-- The process controls (R42). -/
  pc : Word
  /-- The trace controls (R49, R50). -/
  tc : Word
  /-- The local register cache and frame bookkeeping (R60). -/
  frames : Frames
  /-- The cached pointers (R59). -/
  tables : Tables
  /-- `UNALIGNED_FAULT_MASKED` (R62, 20_memory R104). -/
  unalignedMasked : Bool
  /-- Memory configuration registers (R54, 20_memory R108). -/
  config : MemConfig
  /-- Breakpoint registers and rights (R54, R62). -/
  bp : Breakpoints
  /-- Interrupt controller, software priority, halt (R54, R62). -/
  intr : Interrupts
  /-- Timer 0 (R55). -/
  timer0 : Timer
  /-- Timer 1 (R55). -/
  timer1 : Timer
  /-- The DEVICEID register (R54). -/
  deviceId : Word
  /-- Cache enables, lock and staleness markers (R61, 20_memory R123). -/
  cache : Caches
  /-- The delay windows of modpc and modtc (70_reset R745, R746). -/
  trace : TraceDelay
  /-- Memory: internal RAM and external memory (20_memory R80). -/
  mem : Memory
  /-- The platform: part and memory map (20_memory R82). -/
  plat : Platform
  /-- Batches of environment events still to come, one per step (60_exceptions R694). -/
  inputs : List (List Event)
  /-- The number of the next draw of free values (notes/assumptions/2.md). -/
  free : Nat
  deriving DecidableEq, Repr

/-! One named update per field; lemmas about them are in Sys2Proof/Laws/State.lean. -/

def State.withGlobals (s : State) (v : Vector Slot 16) : State := { s with globals := v }
def State.withLocals (s : State) (v : Vector Slot 16) : State := { s with locals := v }
def State.withIp (s : State) (v : Word) : State := { s with ip := v }
def State.withAc (s : State) (v : Word) : State := { s with ac := v }
def State.withPc (s : State) (v : Word) : State := { s with pc := v }
def State.withTc (s : State) (v : Word) : State := { s with tc := v }
def State.withFrames (s : State) (v : Frames) : State := { s with frames := v }
def State.withTables (s : State) (v : Tables) : State := { s with tables := v }
def State.withUnalignedMasked (s : State) (v : Bool) : State := { s with unalignedMasked := v }
def State.withConfig (s : State) (v : MemConfig) : State := { s with config := v }
def State.withBp (s : State) (v : Breakpoints) : State := { s with bp := v }
def State.withIntr (s : State) (v : Interrupts) : State := { s with intr := v }
def State.withTimer0 (s : State) (v : Timer) : State := { s with timer0 := v }
def State.withTimer1 (s : State) (v : Timer) : State := { s with timer1 := v }
def State.withDeviceId (s : State) (v : Word) : State := { s with deviceId := v }
def State.withCache (s : State) (v : Caches) : State := { s with cache := v }
def State.withTrace (s : State) (v : TraceDelay) : State := { s with trace := v }
def State.withMem (s : State) (v : Memory) : State := { s with mem := v }
def State.withPlat (s : State) (v : Platform) : State := { s with plat := v }
def State.withInputs (s : State) (v : List (List Event)) : State := { s with inputs := v }
def State.withFree (s : State) (v : Nat) : State := { s with free := v }

/-- The word of a register: the free value has no known word. -/
def Slot.get : Slot → Word
  | .val w => w
  | .free draw site => Config.freeWord draw site

/-- The machine right after reset: R724 with the initialization results of R729 as parameters, whose values are the
model's choice (notes/assumptions/3.md, 4.md, 5.md, 6.md, 8.md). SSP is M32[SPT_BASE + 12] of the memory below (R729). PC is
R48's word. -/
def State.reset : State where
  globals := (Vector.replicate 16 (Slot.val 0)).set 15 (.val 0x0000A000)
  locals := (Vector.replicate 16 (Slot.val 0)).set 1 (.val 0x0000A040)
  ip := 0x00001000
  ac := 0x00001000
  pc := 0x001F2002
  tc := 0
  frames := { cache := [], reserved := 0, current := 0x0000A000, pfpDirty := false, unsetPfp := some 0x0000A000 }
  tables := { prcb := 0x00002000, spt := 0x00004000, interrupt := 0x00007000, fault := 0x00005000
              control := 0x00002100, isp := 0x0000A000, ssp := 0 }
  unalignedMasked := true
  config := { dlmcon := 0, lmadr0 := 0, lmadr1 := 0, lmmr0 := 0, lmmr1 := 0, pmcon := Vector.replicate 8 0, bcon := 0 }
  bp := { ipb0 := 0, ipb1 := 0, dab0 := 0, dab1 := 0, bpcon := 0
          rights := { ipb0 := false, ipb1 := false, dab0 := false, dab1 := false, bpcon := false }, written := false }
  intr := { ipnd := 0, imsk := 0, icon := 0, imap0 := 0, imap1 := 0, imap2 := 0, swPriority := 0, pins := 0xFF
            vector := none, nmiPending := false, nmiFrame := none, halted := false, latency := none }
  timer0 := { trr := 0, tcr := 0, tmr := 0 }
  timer1 := { trr := 0, tcr := 0, tmr := 0 }
  deviceId := 0
  cache := { dataEnabled := false, instrEnabled := true, instrLocked := false, dataStale := [], codeStale := []
             bufferStale := [], buffer := none }
  trace := { teWindow := 0, teOld := false, tcWindow := 0, tcOld := 0 }
  mem := { cells := [], freeBytes := [] }
  plat := { part := .jf, ranges := [], bigEndianInit := false, deviceId := 0 }
  inputs := []
  free := 0

end Sys2Proof.Machine
end

