-- ==== Sys2Proof/Machine/Monad.lean ====
section
/-! DEFINITION. The faults of the architecture by name (spec/60_exceptions.md R641) and the form of an instruction's
action: a function of the state that may raise a fault, and what the action reports when it completes. -/

namespace Sys2Proof.Machine

/-- The faults an instruction can raise on itself (R641, R642). TRACE faults other than prereturn are signalled after
completion (R701) and are no value of this type. -/
inductive FaultKind where
  | invalidOpcode | unimplemented | unaligned | invalidOperand
  | overflow | zeroDivide | range | length | mismatch | prereturn
  deriving DecidableEq, Repr

/-- The fault type number (R641): TRACE 1, OPERATION 2, ARITHMETIC 3, CONSTRAINT 5, PROTECTION 7, TYPE 0AH. -/
def FaultKind.typeNumber : FaultKind → BitVec 8
  | .invalidOpcode => 2
  | .unimplemented => 2
  | .unaligned => 2
  | .invalidOperand => 2
  | .overflow => 3
  | .zeroDivide => 3
  | .range => 5
  | .length => 7
  | .mismatch => 0xA
  | .prereturn => 1

/-- The subtype value (R641). -/
def FaultKind.subtype : FaultKind → BitVec 8
  | .invalidOpcode => 1
  | .unimplemented => 2
  | .unaligned => 3
  | .invalidOperand => 4
  | .overflow => 1
  | .zeroDivide => 2
  | .range => 1
  | .length => 2
  | .mismatch => 1
  | .prereturn => 0x20

/-- Whether the saved RIP is the next sequential instruction (R655): the instruction has completed. -/
def FaultKind.resumesNext : FaultKind → Bool
  | .overflow => true
  | .unaligned => true
  | .range => true
  | .zeroDivide => true
  | .invalidOpcode => false
  | .unimplemented => false
  | .invalidOperand => false
  | .length => false
  | .mismatch => false
  | .prereturn => false

/-- How an action ends before its end: `raise` of R640, or a stop of the model. -/
inductive Exit where
  | raise (k : FaultKind)
  | fault (f : Fault)
  | refuse (r : Refusal)
  deriving DecidableEq, Repr

/-- An action: it reads and changes the state; what it assigned before a `raise` stays (R640). -/
abbrev M := EStateM Exit State

/-- `raise TYPE.SUBTYPE` (R640). -/
def raise {α : Type} (k : FaultKind) : M α := throw (.raise k)

/-- Stop with a fault of the model's own. -/
def stopFault {α : Type} (f : Fault) : M α := throw (.fault f)

/-- Stop with a refusal. -/
def refuse {α : Type} (r : Refusal) : M α := throw (.refuse r)

/-- What a completed action reports (R680, R700, R701, R745): the trace events it signals beside the instruction event,
as TC mode bits; whether it forces a mark event (`fmark`); whether it set the IP itself; whether it is a branching
instruction for the windows of R745; whether pending interrupts must be checked before the next instruction; whether a
return restored a pending trace fault (R703). -/
structure Done where
  events : BitVec 8 := 0
  forceMark : Bool := false
  transfer : Bool := false
  branch : Bool := false
  poll : Bool := false
  pendingTrace : Bool := false
  deriving DecidableEq, Repr

/-- The trace event bits (R641, R700). -/
def evInstruction : BitVec 8 := 0x02
def evBranch : BitVec 8 := 0x04
def evCall : BitVec 8 := 0x08
def evReturn : BitVec 8 := 0x10
def evPrereturn : BitVec 8 := 0x20
def evSupervisor : BitVec 8 := 0x40
def evMark : BitVec 8 := 0x80

/-- The outcome of an action that ends a step. A fault raised while another is delivered is refused (R657). -/
def toOutcome (m : M Unit) (s : State) : Host.Outcome State Fault Refusal :=
  match m s with
  | .ok _ t => .next t
  | .error (.raise _) _ => .refused .faultInDelivery
  | .error (.fault f) _ => .fault f
  | .error (.refuse r) _ => .refused r

end Sys2Proof.Machine
end

