-- ==== Sys2Proof/Machine/Memory.lean ====
section
/-! DEFINITION. Memory as data in one canonical form, the regions of the address map (spec/20_memory.md R82, R97), byte
order (R100, R101), the platform's memory kinds, the staleness markers of the caches (R122, R125) and the reads and
writes of 1, 2 and 4 bytes that they make up. -/

namespace Sys2Proof.Machine

/-! Sorted lists of address and datum. -/

/-- The datum listed at an address. -/
def tableGet {α : Type} : List (Nat × α) → Nat → Option α
  | [], _ => none
  | (k, v) :: rest, a => if k = a then some v else tableGet rest a

/-- List `v` at `a`, in rising order. -/
def tableSet {α : Type} : List (Nat × α) → Nat → α → List (Nat × α)
  | [], a, v => [(a, v)]
  | (k, w) :: rest, a, v =>
    if a < k then (a, v) :: (k, w) :: rest
    else if a = k then (a, v) :: rest
    else (k, w) :: tableSet rest a v

/-- Remove what is listed at `a`. -/
def tableErase {α : Type} : List (Nat × α) → Nat → List (Nat × α)
  | [], _ => []
  | (k, w) :: rest, a => if k = a then rest else (k, w) :: tableErase rest a

/-- Every listed address is above `lo`, and they rise strictly. -/
def tableAbove {α : Type} : Nat → List (Nat × α) → Bool
  | _, [] => true
  | lo, (k, _) :: rest => decide (lo < k) && tableAbove k rest

/-- The addresses of a list rise strictly. -/
def tableSorted {α : Type} : List (Nat × α) → Bool
  | [] => true
  | (k, _) :: rest => tableAbove k rest

/-! Bytes that may be free values. -/

/-- A byte to be stored: known, or a lane of a free word. -/
inductive MByte where
  | val (b : Byte)
  | free (f : FreeByte)
  deriving DecidableEq, Repr

/-- Byte `lane` of a word, lane 0 the least significant. -/
def byteLane (w : Word) (lane : Nat) : Byte := w.extractLsb' (8 * lane) 8

/-- The value of a free byte. -/
def FreeByte.get (f : FreeByte) : Byte := byteLane (Config.freeWord f.draw f.site) f.lane

/-- The value of a byte to be stored. -/
def MByte.get : MByte → Byte
  | .val b => b
  | .free f => f.get

/-- Byte `lane` of a register's contents. -/
def Slot.byte (v : Slot) (lane : Nat) : MByte :=
  match v with
  | .val w => .val (byteLane w lane)
  | .free draw site => .free ⟨draw, site, lane⟩

/-- The byte at an address; an unlisted address reads as 0 (notes/assumptions/5.md). -/
def Memory.read (m : Memory) (a : Nat) : Byte :=
  match tableGet m.freeBytes a with
  | some f => f.get
  | none => (tableGet m.cells a).getD 0

/-- Store a byte, keeping the canonical form. -/
def Memory.put (m : Memory) (a : Nat) (v : MByte) : Memory :=
  match v with
  | .val b => { cells := if b = 0 then tableErase m.cells a else tableSet m.cells a b
                freeBytes := tableErase m.freeBytes a }
  | .free f => { cells := tableErase m.cells a, freeBytes := tableSet m.freeBytes a f }

/-- The canonical form: both lists rise strictly, no listed byte is the 0 of an unlisted one, no address is in both. -/
def Memory.wf (m : Memory) : Bool :=
  tableSorted m.cells && tableSorted m.freeBytes && m.cells.all (fun c => c.2 != 0) &&
    m.freeBytes.all (fun f => (tableGet m.cells f.1).isNone)

/-! Sites of free values within one instruction (notes/assumptions/2.md). -/

namespace Site
def src1 : Nat := 0
def src2 : Nat := 1
def srcDst : Nat := 2
def base : Nat := 3
def index : Nat := 4
def result (i : Nat) : Nat := 16 + i
def newLocal (i : Nat) : Nat := 32 + i
def newSave (i : Nat) : Nat := 48 + i
def record (i : Nat) : Nat := 64 + i
def savedRip : Nat := 96
def pendingSubtype : Nat := 97
def pendingIp : Nat := 98
def saveAddress : Nat := 99
def traceEnable : Nat := 100
def traceModes : Nat := 101
def breakpoint : Nat := 102
def deliver : Nat := 103
def tie : Nat := 104
def teKept : Nat := 105
def tcKept : Nat := 106
def tcBits : Nat := 107
def mmr : Nat := 108
def resetWord (i : Nat) : Nat := 128 + i
def dump (i : Nat) : Nat := 4096 + i
/-- Choices and values that belong to an address. -/
def address (a : Nat) (kind : Nat) : Nat := 65536 + 8 * a + kind
end Site

/-! The address map (R82, R97). -/

/-- The three regions of R97. -/
inductive Region where
  | internalRam | external | mmr
  deriving DecidableEq, Repr

/-- The region an address lies in (R97). -/
def regionOf (a : Word) : Region :=
  if 0xFF000000 ≤ a.toNat then .mmr else if a.toNat ≤ 0x3FF then .internalRam else .external

/-- The kind of the first range that holds an address, RAM if none does. -/
def kindIn (a : Nat) : List MemRange → MemKind
  | [] => .ram
  | r :: rest => if r.first ≤ a ∧ a ≤ r.last then r.kind else kindIn a rest

/-- What stands at an address: internal RAM is RAM, external addresses are as the platform says (R82, D13). -/
def State.kindAt (s : State) (a : Word) : MemKind :=
  if regionOf a = .external then kindIn a.toNat s.plat.ranges else .ram

/-- The first of `n` bytes from `a` where there is no memory. -/
def State.absentIn (s : State) (a : Word) : Nat → Option Word
  | 0 => none
  | n + 1 => if s.kindAt a = .absent then some a else s.absentIn (a + 1) n

/-- `DLMCON.be` (R100, R108). -/
def State.bigEndian (s : State) : Bool := s.config.dlmcon.getLsbD 0

/-! Cacheability (R108, R116, R117; notes/assumptions/26.md). -/

/-- Whether template `n` matches an address (R108). -/
def templateMatches (lmadr lmmr a : Word) : Bool :=
  lmmr.getLsbD 0 && ((a &&& lmmr) >>> 12 == (lmadr &&& lmmr) >>> 12)

/-- Whether a data access at an address may use the data cache (R116, R117). -/
def State.cacheable (s : State) (a : Word) : Bool :=
  let m0 := templateMatches s.config.lmadr0 s.config.lmmr0 a
  let m1 := templateMatches s.config.lmadr1 s.config.lmmr1 a
  s.cache.dataEnabled && decide (regionOf a = .external) &&
    (if m0 || m1 then (!m0 || s.config.lmadr0.getLsbD 1) && (!m1 || s.config.lmadr1.getLsbD 1)
     else s.config.dlmcon.getLsbD 1)

/-! Reads. -/

/-- The byte of memory at an address, past every cache. -/
def State.byteAt (s : State) (a : Word) : Byte := s.mem.read a.toNat

/-- Whether one of the writes listed is to the byte at an address. -/
def staleAt (l : List StaleByte) (a : Nat) : Bool := l.any (fun e => e.addr == a)

/-- The byte at an address as it was at time `time`, `cur` its value now: what it held before the first write of that time
or later. -/
def byteAsOf (l : List StaleByte) (time a : Nat) (cur : Byte) : Byte :=
  match l with
  | [] => cur
  | e :: rest => if e.addr = a ∧ time ≤ e.time then e.old else byteAsOf rest time a cur

/-- A copy of a word of memory may have been made at any time since the first write listed: a free choice of one of the
times its bytes were written, before that write, or of now (20_memory R122, R125; notes/assumptions/23.md, 24.md). All
bytes of a word are of one time. -/
def staleByte (l : List StaleByte) (draw kind a : Nat) (cur : Byte) : Byte :=
  if staleAt l a then
    let times := (l.filter (fun e => e.addr / 4 == a / 4)).map StaleByte.time
    match times[(Config.freeWord draw (Site.address (a / 4) kind)).toNat % (times.length + 1)]? with
    | some time => byteAsOf l time a cur
    | none => cur
  else cur

/-- A data read of one byte: a device byte is a free value (D13, notes/assumptions/21.md), a byte another master wrote
may read as an old value while the access is cacheable (R122, U14). -/
def State.peek8 (cached : Bool) (s : State) (a : Word) : Byte :=
  if s.kindAt a = .device then Config.freeByte s.free (Site.address a.toNat 0)
  else if cached && s.cacheable a then staleByte s.cache.dataStale s.free 1 a.toNat (s.byteAt a)
  else s.byteAt a

/-- Two bytes, the one at the lower address first, as a half word (R100, R101). -/
def join16 (be : Bool) (b0 b1 : Byte) : BitVec 16 := if be then b0 ++ b1 else b1 ++ b0

/-- Four bytes in address order as a word (R100, R101). -/
def join32 (be : Bool) (b0 b1 b2 b3 : Byte) : Word := if be then b0 ++ b1 ++ b2 ++ b3 else b3 ++ b2 ++ b1 ++ b0

/-- `MemRead(a, 2)` of memory (R101). -/
def State.peek16 (cached : Bool) (s : State) (a : Word) : BitVec 16 :=
  join16 s.bigEndian (s.peek8 cached a) (s.peek8 cached (a + 1))

/-- `MemRead(a, 4)` of memory (R101). -/
def State.peek32 (cached : Bool) (s : State) (a : Word) : Word :=
  join32 s.bigEndian (s.peek8 cached a) (s.peek8 cached (a + 1)) (s.peek8 cached (a + 2)) (s.peek8 cached (a + 3))

/-! Writes. -/

/-- Note the value of a byte that is about to be written by the step of draw `draw`. -/
def markStale (l : List StaleByte) (a : Nat) (cur : Byte) (draw : Nat) : List StaleByte := l ++ [⟨a, draw, cur⟩]

/-- Forget the writes of one byte. -/
def dropStale (l : List StaleByte) (a : Nat) : List StaleByte := l.filter (fun e => e.addr != a)

/-- The processor's own write of one byte. A write to ROM changes nothing and a device is outside the machine
(notes/assumptions/21.md). An external write makes the byte's code copies stale (R125) and keeps the data cache
coherent (R121). -/
def State.poke8 (s : State) (a : Word) (v : MByte) : State :=
  match regionOf a with
  | .mmr => s
  | .internalRam => s.withMem (s.mem.put a.toNat v)
  | .external =>
    if s.kindAt a = .ram then
      (s.withMem (s.mem.put a.toNat v)).withCache
        { s.cache with codeStale := markStale s.cache.codeStale a.toNat (s.byteAt a) s.free
                       dataStale := dropStale s.cache.dataStale a.toNat }
    else s

/-- A write of one byte of external RAM by another bus master: no cache observes it (R122, R125). -/
def State.busWrite (s : State) (a : Word) (b : Byte) : State :=
  if regionOf a = .external ∧ s.kindAt a = .ram then
    (s.withMem (s.mem.put a.toNat (.val b))).withCache
      { s.cache with codeStale := markStale s.cache.codeStale a.toNat (s.byteAt a) s.free
                     dataStale := markStale s.cache.dataStale a.toNat (s.byteAt a) s.free }
  else s

/-- The lane of the byte at offset `i` of an `n`-byte item (R100). -/
def laneAt (be : Bool) (n i : Nat) : Nat := if be then n - 1 - i else i

/-- `MemWrite(a, 1, v)` of memory. -/
def State.poke1 (s : State) (a : Word) (v : Slot) : State := s.poke8 a (v.byte 0)

/-- `MemWrite(a, 2, v)` of memory (R101). -/
def State.poke16 (s : State) (a : Word) (v : Slot) : State :=
  (s.poke8 a (v.byte (laneAt s.bigEndian 2 0))).poke8 (a + 1) (v.byte (laneAt s.bigEndian 2 1))

/-- `MemWrite(a, 4, v)` of memory (R101). -/
def State.poke32 (s : State) (a : Word) (v : Slot) : State :=
  (((s.poke8 a (v.byte (laneAt s.bigEndian 4 0))).poke8 (a + 1) (v.byte (laneAt s.bigEndian 4 1))).poke8
    (a + 2) (v.byte (laneAt s.bigEndian 4 2))).poke8 (a + 3) (v.byte (laneAt s.bigEndian 4 3))

/-- Consecutive words from `a` upwards (R99, R101). -/
def State.pokeWords (s : State) (a : Word) : List Slot → State
  | [] => s
  | v :: rest => (s.poke32 a v).pokeWords (a + 4) rest

/-! Checks before an access. -/

/-- An access of `n` bytes that is not to MMR space: one that leaves its region, which only an unaligned one can, is
refused (R97, 93 U13), one that meets no memory stops (D13). -/
def checkRange (a : Word) (n : Nat) : M Unit := do
  let s ← get
  if regionOf a ≠ regionOf (a + BitVec.ofNat 32 (n - 1)) then refuse (.straddle a)
  else match s.absentIn a n with
    | some b => stopFault (.absentMemory b)
    | none => pure ()

/-- An access the processor makes by itself (a table word, a word of a record, of a spill or of a fill): not in MMR space
(R655, D26; 45_call_return R505). -/
def checkImplicit (a : Word) (n : Nat) : M Unit :=
  if regionOf a = .mmr then refuse (.implicitMmr a) else checkRange a n

/-- `n` words from `a` upwards, each an access of its own (R97, 45_call_return R505). -/
def checkWords (a : Word) : Nat → M Unit
  | 0 => pure ()
  | n + 1 => do
    checkImplicit a 4
    checkWords (a + 4) n

/-- A word the processor reads by itself. A table whose base is not word aligned (20_memory R88) has its entries read where
they then lie, without a fault (DESIGN CHOICE, notes/assumptions/47.md). -/
def readImplicit (cached : Bool) (a : Word) : M Word := do
  checkImplicit a 4
  let s ← get
  pure (s.peek32 cached a)

/-- Whether a byte of internal RAM is write-protected in a mode (R87, R108): `BCON.irp` is bit 1, `BCON.sirp` bit 2. -/
def State.protectedByte (s : State) (supervisor : Bool) (a : Word) : Bool :=
  decide (regionOf a = .internalRam) &&
    (if a.toNat < 0x40 then !supervisor || s.config.bcon.getLsbD 2 else !supervisor && s.config.bcon.getLsbD 1)

/-- Whether one of `n` bytes from `a` is write-protected (notes/assumptions/22.md). -/
def State.protectedIn (s : State) (supervisor : Bool) (a : Word) : Nat → Bool
  | 0 => false
  | n + 1 => s.protectedByte supervisor a || s.protectedIn supervisor (a + 1) n

/-- Words the processor writes by itself while it delivers a fault or an interrupt, judged in the mode given: a store that
would fault is refused (60_exceptions R655, R657; D26). -/
def writeImplicit (supervisor : Bool) (a : Word) (vs : List Slot) : M Unit := do
  checkWords a vs.length
  let s ← get
  if s.protectedIn supervisor a (4 * vs.length) then refuse (.implicitProtected a)
  else modify (fun s => s.pokeWords a vs)

end Sys2Proof.Machine
end

