-- ==== Sys2Proof/Machine/Operands.lean ====
section
/-! DEFINITION. Registers and operands: spec/10_state.md R20 to R29, spec/30_encoding.md R143 to R153. -/

namespace Sys2Proof.Machine

/-- The contents of register `n` (R143). -/
def State.slot (s : State) (n : RegNum) : Slot :=
  if h : n.toNat < 16 then s.locals[n.toNat] else s.globals[n.toNat - 16]'(by have := n.isLt; omega)

/-- The word in register `n`. -/
def State.reg (s : State) (n : RegNum) : Word := (s.slot n).get

/-- A write of r0: PFP_DIRTY is set (45_call_return R509), and the PFP of the initial frame is no longer what the reset left
there (70_reset R730). -/
def Frames.pfpWritten (f : Frames) : Frames :=
  { f with pfpDirty := true, unsetPfp := if f.unsetPfp = some f.current then none else f.unsetPfp }

/-- Write register `n` (30_encoding R143). -/
def State.setSlot (s : State) (n : RegNum) (v : Slot) : State :=
  if h : n.toNat < 16 then
    let t := s.withLocals (s.locals.set n.toNat v)
    if n = 0 then t.withFrames t.frames.pfpWritten else t
  else s.withGlobals (s.globals.set (n.toNat - 16) v (by have := n.isLt; omega))

/-- Write a word to register `n`. -/
def State.setReg (s : State) (n : RegNum) (v : Word) : State := s.setSlot n (.val v)

/-- What an operand field that names register `n` reads: r2 reads as a free value (R25, U6). -/
def State.srcSlot (s : State) (site : Nat) (n : RegNum) : Slot := if n = 2 then .free s.free site else s.slot n

/-- The word an operand field that names register `n` reads. -/
def State.src (s : State) (site : Nat) (n : RegNum) : Word := (s.srcSlot site n).get

/-- The value of a source operand: a register, or a zero-extended literal (R29, R144). -/
def operandValue (o : Operand) (site : Nat) (s : State) : Word :=
  match o with
  | .reg n => s.src site n
  | .lit v => v.zeroExtend 32

/-- g15, the frame pointer (R22). -/
def fpReg : RegNum := 31

/-- g14, the link register of `bal` (44_branch R447). -/
def linkReg : RegNum := 30

/-- The multiplier of an index mode as a shift count (R151). -/
def scaleShift : Scale → Nat
  | .x1 => 0
  | .x2 => 1
  | .x4 => 2
  | .x8 => 3
  | .x16 => 4

/-- The effective address (R149 to R152); all sums are modulo 2^32. -/
def efa (m : MemOperand) (s : State) : Word :=
  match m with
  | .absOffset off => off.zeroExtend 32
  | .absDisp d => d
  | .indirect b => s.src Site.base b
  | .indOffset b off => s.src Site.base b + off.zeroExtend 32
  | .indDisp b d => s.src Site.base b + d
  | .indIndex b i sc => s.src Site.base b + (s.src Site.index i <<< scaleShift sc)
  | .indIndexDisp b i sc d => s.src Site.base b + (s.src Site.index i <<< scaleShift sc) + d
  | .indexDisp i sc d => (s.src Site.index i <<< scaleShift sc) + d
  | .ipDisp d => s.ip + d + 8

/-- The length in bytes of a MEM instruction (R142). -/
def memLength (m : MemOperand) : Word := if m.secondWord.isSome then 8 else 4

/-- A group of `n` registers must start at a number that is a multiple of 2 (pairs) or 4 (R27). -/
def misaligned (n : RegNum) (alignment : Nat) : Bool := n.toNat % alignment != 0

/-- Register `i` of the group that starts at `n`, within its file (R27, notes/assumptions/13.md). -/
def groupReg (n : RegNum) (i : Nat) : Option RegNum :=
  if n.toNat % 16 + i < 16 then some (n + BitVec.ofNat 5 i) else none

/-- Whether the group of `count` registers at `n` contains r2. -/
def groupHasRip (n : RegNum) (count : Nat) : Bool := decide (n.toNat ≤ 2 ∧ 2 < n.toNat + count)

/-- An instruction that names r2 as a destination raises OPERATION.UNIMPLEMENTED (R25, 70_reset R749); the group is of
`count` registers (notes/assumptions/9.md). -/
def checkDst (n : RegNum) (count : Nat := 1) : M Unit :=
  if groupHasRip n count then raise .unimplemented else pure ()

/-- `dst <- v`. -/
def setDst (n : RegNum) (v : Word) : M Unit := modify (fun s => s.setReg n v)

/-- Write a list of slots to the registers of a group, lowest first; numbers past the file are skipped. -/
def State.setGroup (s : State) (n : RegNum) (i : Nat) : List Slot → State
  | [] => s
  | v :: rest =>
    (match groupReg n i with
     | some r => s.setSlot r v
     | none => s).setGroup n (i + 1) rest

/-- The slots of a group, lowest first, as an operand reads them. -/
def State.group (s : State) (site : Nat) (n : RegNum) : Nat → List Slot
  | 0 => []
  | k + 1 => s.srcSlot site n :: s.group (site + 1) (n + 1) k

/-- `count` free values for a result the spec leaves undefined (U20 to U22). -/
def freeSlots (draw : Nat) (count : Nat) : List Slot := (List.range count).map (fun i => Slot.free draw (Site.result i))

/-- `dst .. <- undefined_value` (U20 to U22). -/
def setUndefined (n : RegNum) (count : Nat) : M Unit :=
  modify (fun s => s.setGroup n 0 (freeSlots s.free count))

end Sys2Proof.Machine
end

