-- ==== Sys2Proof/Machine/Flags.lean ====
section
/-! DEFINITION. The fields of AC, PC and TC and every flag computation: spec/10_state.md R36 to R51, the overflow tests of
spec/41_arithmetic.md, the comparisons of spec/43_compare_test.md R400. -/

namespace Sys2Proof.Machine

/-- The bits of `new` selected by `mask`, the others from `old`. -/
def merge (mask new old : Word) : Word := (new &&& mask) ||| (old &&& ~~~mask)

/-! AC (R36). -/

/-- The defined bits of AC: cc 2:0, of 8, om 12, nif 15. -/
def acMask : Word := 0x00009107

/-- `AC.cc`. -/
def State.cc (s : State) : BitVec 3 := s.ac.extractLsb' 0 3

/-- `AC.om`: 1 masks the integer overflow fault. -/
def State.overflowMasked (s : State) : Bool := s.ac.getLsbD 12

/-- `AC.cc <- c`. -/
def State.setCc (s : State) (c : BitVec 3) : State := s.withAc (merge 7 (c.zeroExtend 32) s.ac)

/-- `AC.of <- 1`. -/
def State.setOverflowFlag (s : State) : State := s.withAc (s.ac ||| 0x100)

/-- `cond(mask)` (R37). -/
def cond (mask : BitVec 3) (s : State) : Bool := (mask &&& s.cc) != 0#3 || mask == s.cc

/-- `integer_overflow()` (R39). -/
def integerOverflow : M Unit := do
  let s ← get
  if s.overflowMasked then set s.setOverflowFlag else raise .overflow

/-- Call `integer_overflow()` when `b` holds. -/
def overflowIf (b : Bool) : M Unit := if b then integerOverflow else pure ()

/-- The overflow test of an addition (41 R285): operands of one sign, result of the other. -/
def addOverflows (src1 src2 : Word) : Bool :=
  src2.msb == src1.msb && src2.msb != (src2 + src1).msb

/-- The overflow test of a subtraction `src2 - src1` (41 R305). -/
def subOverflows (src1 src2 : Word) : Bool :=
  src2.msb != src1.msb && src2.msb != (src2 - src1).msb

/-- Whether an exact result fits in 32 bits as an integer (41 R307). -/
def fitsInt (v : Int) : Bool := decide (-2147483648 ≤ v ∧ v ≤ 2147483647)

/-- The 33-bit sum of `addc` (41 R283). -/
def carrySum (src1 src2 : Word) (carry : Bool) : BitVec 33 :=
  src1.zeroExtend 33 + src2.zeroExtend 33 + (BitVec.ofBool carry).zeroExtend 33

/-- The condition code of `addc` and `subc`: bit 1 carry, bit 0 overflow (R37, 41 R283, R303). -/
def carryCc (carry overflow : Bool) : BitVec 3 := 0#1 ++ BitVec.ofBool carry ++ BitVec.ofBool overflow

/-- The code of a comparison (43 R400): 100 less, 010 equal, 001 greater, by integers. -/
def compareInt (a b : Int) : BitVec 3 := if a < b then 4#3 else if a = b then 2#3 else 1#3

/-- The ordinal comparison of the low `n` bits of src1 against src2 (43 R405). -/
def compareOrdinal (n : Nat) (src1 src2 : Word) : BitVec 3 :=
  compareInt ((src1.setWidth n).toNat : Int) ((src2.setWidth n).toNat : Int)

/-- The integer comparison of the low `n` bits of src1 against src2 (43 R405). -/
def compareInteger (n : Nat) (src1 src2 : Word) : BitVec 3 :=
  compareInt (src1.setWidth n).toInt (src2.setWidth n).toInt

/-- The true/false form of the condition code (R37). -/
def truthCc (b : Bool) : BitVec 3 := if b then 2#3 else 0#3

/-! PC (R42). -/

/-- The defined bits of PC: te 0, em 1, tfp 10, s 13, p 20:16. -/
def pcMask : Word := 0x001F2403

/-- `PC.te`. -/
def pcTe (pc : Word) : Bool := pc.getLsbD 0

/-- `PC.em` = supervisor. -/
def pcSupervisor (pc : Word) : Bool := pc.getLsbD 1

/-- `PC.tfp`. -/
def pcTfp (pc : Word) : Bool := pc.getLsbD 10

/-- `PC.s` = interrupted. -/
def pcInterrupted (pc : Word) : Bool := pc.getLsbD 13

/-- `PC.p`. -/
def pcPriority (pc : Word) : BitVec 5 := pc.extractLsb' 16 5

/-- The machine is in supervisor mode. -/
def State.supervisor (s : State) : Bool := pcSupervisor s.pc

/-- PC with `te` replaced. -/
def pcSetTe (pc : Word) (te : Bool) : Word := merge 1 (if te then 1 else 0) pc

/-- PC with `em` replaced. -/
def pcSetSupervisor (pc : Word) (b : Bool) : Word := merge 2 (if b then 2 else 0) pc

/-- PC with `tfp` replaced. -/
def pcSetTfp (pc : Word) (b : Bool) : Word := merge 0x400 (if b then 0x400 else 0) pc

/-- PC of an interrupt handler of priority `p` (60 R689): supervisor, interrupted, te and tfp cleared. -/
def pcForInterrupt (pc : Word) (p : BitVec 5) : Word :=
  merge pcMask (0x2002 ||| (p.zeroExtend 32 <<< 16)) pc

/-! TC (R49, R50). -/

/-- The bits of TC the machine holds: modes 7:1, event flags 23:17. -/
def tcMask : Word := 0x00FE00FE

/-- Whether a mode bit of TC is set. -/
def tcMode (tc : Word) (ev : BitVec 8) : Bool := (tc.setWidth 8 &&& ev) != 0#8

/-- TC with the flags of events set (60 R701): flag n + 16 for event bit n. -/
def tcSetEvents (tc : Word) (ev : BitVec 8) : Word := tc ||| ((ev.zeroExtend 32 <<< 16) &&& tcMask)

/-- `PC.te` as tracing sees it: in the window after a `modpc` the old or the new value (70_reset R745). -/
def State.traceOn (s : State) : Bool :=
  if s.trace.teWindow = 0 then pcTe s.pc
  else if Config.freeBool s.free Site.traceEnable then s.trace.teOld else pcTe s.pc

/-- The TC modes as tracing sees them (70_reset R746). -/
def State.traceModes (s : State) : Word :=
  if s.trace.tcWindow = 0 then s.tc
  else if Config.freeBool s.free Site.traceModes then s.trace.tcOld else s.tc

/-- Change `PC` outside `modpc`: the change is seen at once, so a window of `modpc` ends (10_state R47, log 32). -/
def State.setPcNow (s : State) (pc : Word) : State := (s.withPc pc).withTrace { s.trace with teWindow := 0 }

/-- One instruction has passed: the windows count non-branching instructions (70_reset R745, R746, log 56). -/
def TraceDelay.pass (t : TraceDelay) (branch : Bool) : TraceDelay :=
  if branch then t else { t with teWindow := t.teWindow - 1, tcWindow := t.tcWindow - 1 }

end Sys2Proof.Machine
end

