-- ==== Sys2Proof/Machine/Mmr.lean ====
section
/-! DEFINITION. The memory-mapped registers (spec/10_state.md R52 to R57) and the data accesses of instructions, routed by
address (spec/20_memory.md R93 to R97; spec/40_data_movement.md R202). -/

namespace Sys2Proof.Machine

/-- The registers of R54 and R55. -/
inductive MmrName where
  | dlmcon | lmadr0 | lmmr0 | lmadr1 | lmmr1 | ipb0 | ipb1 | dab0 | dab1 | bpcon
  | ipnd | imsk | icon | imap0 | imap1 | imap2
  | pmcon (k : Fin 8) | bcon | prcb | isp | ssp | deviceId
  | trr0 | tcr0 | tmr0 | trr1 | tcr1 | tmr1
  deriving DecidableEq, Repr

/-- Addresses as offsets from FF000000H (R54, R55). -/
def mmrTable : List (Nat × MmrName) :=
  [(0x0300, MmrName.trr0), (0x0304, MmrName.tcr0), (0x0308, MmrName.tmr0),
   (0x0310, MmrName.trr1), (0x0314, MmrName.tcr1), (0x0318, MmrName.tmr1),
   (0x8100, MmrName.dlmcon), (0x8108, MmrName.lmadr0), (0x810C, MmrName.lmmr0),
   (0x8110, MmrName.lmadr1), (0x8114, MmrName.lmmr1), (0x8400, MmrName.ipb0), (0x8404, MmrName.ipb1),
   (0x8420, MmrName.dab0), (0x8424, MmrName.dab1), (0x8440, MmrName.bpcon),
   (0x8500, MmrName.ipnd), (0x8504, MmrName.imsk), (0x8510, MmrName.icon),
   (0x8520, MmrName.imap0), (0x8524, MmrName.imap1), (0x8528, MmrName.imap2),
   (0x8600, MmrName.pmcon 0), (0x8608, MmrName.pmcon 1), (0x8610, MmrName.pmcon 2), (0x8618, MmrName.pmcon 3),
   (0x8620, MmrName.pmcon 4), (0x8628, MmrName.pmcon 5), (0x8630, MmrName.pmcon 6), (0x8638, MmrName.pmcon 7),
   (0x86FC, MmrName.bcon), (0x8700, MmrName.prcb), (0x8704, MmrName.isp), (0x8708, MmrName.ssp),
   (0x8710, MmrName.deviceId)]

/-- The register at an MMR address, none where the space is reserved. -/
def mmrAt (a : Word) : Option MmrName := findOpcode (a.toNat - 0xFF000000) mmrTable

/-- FF008000H and above is supervisor space (R52). -/
def supervisorSpace (a : Word) : Bool := decide (0xFF008000 ≤ a.toNat)

/-! The pins of the interrupt controller (60_exceptions R681, R692). -/

/-- The pins that are dedicated-mode sources (60 R692): all, none, or pins 5 to 7 in mixed mode (log 41). -/
def dedicatedPins (icon : Word) : BitVec 8 :=
  if icon.extractLsb' 0 2 = 0#2 then 0xFF else if icon.extractLsb' 0 2 = 2#2 then 0xE0 else 0

/-- The pins whose low level is a request (60 R692): dedicated and detected by level. -/
def levelPins (icon : Word) : BitVec 8 := dedicatedPins icon &&& ~~~(icon.extractLsb' 2 8)

/-- The dedicated pins detected by level that are low: they stay pending when they are delivered (60 R681). -/
def Interrupts.levelLow (i : Interrupts) : BitVec 8 := ~~~i.pins &&& levelPins i.icon

/-- The pending word the controller sees: IPND and the level pins that are low (60 R681, R692). -/
def Interrupts.pending (i : Interrupts) : Word :=
  i.ipnd ||| i.levelLow.zeroExtend 32

/-- The word in a register. IPND reads with the level-detected pins that are low (60 R681). -/
def State.mmr (s : State) : MmrName → Word
  | .dlmcon => s.config.dlmcon
  | .lmadr0 => s.config.lmadr0
  | .lmmr0 => s.config.lmmr0
  | .lmadr1 => s.config.lmadr1
  | .lmmr1 => s.config.lmmr1
  | .ipb0 => s.bp.ipb0
  | .ipb1 => s.bp.ipb1
  | .dab0 => s.bp.dab0
  | .dab1 => s.bp.dab1
  | .bpcon => s.bp.bpcon
  | .ipnd => s.intr.pending
  | .imsk => s.intr.imsk
  | .icon => s.intr.icon
  | .imap0 => s.intr.imap0
  | .imap1 => s.intr.imap1
  | .imap2 => s.intr.imap2
  | .pmcon k => s.config.pmcon[k]
  | .bcon => s.config.bcon
  | .prcb => s.tables.prcb
  | .isp => s.tables.isp
  | .ssp => s.tables.ssp
  | .deviceId => s.deviceId
  | .trr0 => s.timer0.trr
  | .tcr0 => s.timer0.tcr
  | .tmr0 => s.timer0.tmr
  | .trr1 => s.timer1.trr
  | .tcr1 => s.timer1.tcr
  | .tmr1 => s.timer1.tmr

/-- Write a register: a read-only one ignores it (R53), TMRn clears its `tc` bit (60 R714), a breakpoint register notes
that it was written (60 R702). -/
def State.setMmr (s : State) (v : Word) : MmrName → State
  | .dlmcon => s.withConfig { s.config with dlmcon := v }
  | .lmadr0 => s.withConfig { s.config with lmadr0 := v }
  | .lmmr0 => s.withConfig { s.config with lmmr0 := v }
  | .lmadr1 => s.withConfig { s.config with lmadr1 := v }
  | .lmmr1 => s.withConfig { s.config with lmmr1 := v }
  | .ipb0 => s.withBp { s.bp with ipb0 := v, written := true }
  | .ipb1 => s.withBp { s.bp with ipb1 := v, written := true }
  | .dab0 => s.withBp { s.bp with dab0 := v, written := true }
  | .dab1 => s.withBp { s.bp with dab1 := v, written := true }
  | .bpcon => s.withBp { s.bp with bpcon := v, written := true }
  | .ipnd => s.withIntr { s.intr with ipnd := v }
  | .imsk => s.withIntr { s.intr with imsk := v }
  | .icon => s.withIntr { s.intr with icon := v }
  | .imap0 => s.withIntr { s.intr with imap0 := v }
  | .imap1 => s.withIntr { s.intr with imap1 := v }
  | .imap2 => s.withIntr { s.intr with imap2 := v }
  | .pmcon k => s.withConfig { s.config with pmcon := s.config.pmcon.set k v }
  | .bcon => s.withConfig { s.config with bcon := v }
  | .prcb => s
  | .isp => s.withTables { s.tables with isp := v }
  | .ssp => s.withTables { s.tables with ssp := v }
  | .deviceId => s
  | .trr0 => s.withTimer0 { s.timer0 with trr := v }
  | .tcr0 => s.withTimer0 { s.timer0 with tcr := v }
  | .tmr0 => s.withTimer0 { s.timer0 with tmr := v &&& ~~~1 }
  | .trr1 => s.withTimer1 { s.timer1 with trr := v }
  | .tcr1 => s.withTimer1 { s.timer1 with tcr := v }
  | .tmr1 => s.withTimer1 { s.timer1 with tmr := v &&& ~~~1 }

/-- Sysctl-RwG registers (R53, R54): readable only by `sysctl`. -/
def MmrName.sysctlOnly : MmrName → Bool
  | .ipb0 => true
  | .ipb1 => true
  | _ => false

/-- Whether the program holds the rights a WwG register needs (R53); true for every other register. -/
def State.mmrGranted (s : State) : MmrName → Bool
  | .ipb0 => s.bp.rights.ipb0
  | .ipb1 => s.bp.rights.ipb1
  | .dab0 => s.bp.rights.dab0
  | .dab1 => s.bp.rights.dab1
  | .bpcon => s.bp.rights.bpcon
  | _ => true

/-- Whether a timer register is allocated to supervisor only by its `sup` bit (60 R713, R714). -/
def State.timerProtected (s : State) : MmrName → Bool
  | .trr0 => s.timer0.tmr.getLsbD 3
  | .tcr0 => s.timer0.tmr.getLsbD 3
  | .tmr0 => s.timer0.tmr.getLsbD 3
  | .trr1 => s.timer1.tmr.getLsbD 3
  | .tcr1 => s.timer1.tmr.getLsbD 3
  | .tmr1 => s.timer1.tmr.getLsbD 3
  | _ => false

/-- The side effect of a read: TMRn clears its `tc` bit (60 R714). -/
def State.afterMmrRead (s : State) : MmrName → State
  | .tmr0 => s.withTimer0 { s.timer0 with tmr := s.timer0.tmr &&& ~~~1 }
  | .tmr1 => s.withTimer1 { s.timer1 with tmr := s.timer1.tmr &&& ~~~1 }
  | _ => s

/-- The access must be word aligned (R93 step 1). -/
def checkMmrAligned (a : Word) : M Unit :=
  if a.extractLsb' 0 2 ≠ 0#2 then raise .unimplemented else pure ()

/-- A word load from MMR space (R93, R95): a reserved location (U8) and a Sysctl-RwG register (U11) read as a free
value. -/
def mmrLoad (a : Word) : M Word := do
  checkMmrAligned a
  let s ← get
  match mmrAt a with
  | none => pure (Config.freeWord s.free Site.mmr)
  | some r =>
    if r.sysctlOnly then pure (Config.freeWord s.free Site.mmr)
    else do
      set (s.afterMmrRead r)
      pure (s.mmr r)

/-- The checks of a word store to MMR space, in the order of R93 to R95: alignment, privilege (R94), then the register's
own conditions; a reserved location refuses (U9). -/
def checkMmrStore (a : Word) : M MmrName := do
  checkMmrAligned a
  let s ← get
  match mmrAt a with
  | none => refuse (.reservedMmrStore a)
  | some r =>
    if supervisorSpace a && !s.supervisor then raise .mismatch
    else if s.timerProtected r && !s.supervisor then raise .mismatch
    else if !s.mmrGranted r then raise .unimplemented
    else pure r

/-- A word store to MMR space. -/
def mmrStore (a v : Word) : M Unit := do
  let r ← checkMmrStore a
  modify (fun s => s.setMmr v r)

/-! Loads and stores of instructions. -/

/-- The checks of a load of `n` bytes (R93, R97, R202): only an aligned word may come from MMR space. -/
def checkLoad (a : Word) (n : Nat) : M Unit :=
  if regionOf a = .mmr then raise .unimplemented else checkRange a n

/-- A word load: an MMR or memory (R97), where a cacheable one may be stale. -/
def readWord (cached : Bool) (a : Word) : M Word :=
  if regionOf a = .mmr then mmrLoad a
  else do
    checkRange a 4
    let s ← get
    pure (s.peek32 cached a)

/-- A word load of an instruction. -/
def loadWord (a : Word) : M Word := readWord true a

/-- Step 1 of a store of `n` bytes (R202): MMR space takes only `st` (R93), protected RAM raises TYPE.MISMATCH (R87), before
an access that leaves its region is refused (DESIGN CHOICE, notes/assumptions/22.md). -/
def checkProtected (a : Word) (n : Nat) : M Unit :=
  if regionOf a = .mmr then raise .unimplemented
  else do
    let s ← get
    if s.protectedIn s.supervisor a n then raise .mismatch else pure ()

/-- A word store: an MMR or memory (R97, R221). -/
def storeWord (a : Word) (v : Slot) : M Unit :=
  if regionOf a = .mmr then mmrStore a v.get
  else do
    checkProtected a 4
    checkRange a 4
    modify (fun s => s.poke32 a v)

/-- OPERATION.UNALIGNED after the access, unless it is masked (20_memory R104): `bits` low address bits must be 0. -/
def unalignedTrap (a : Word) (bits : Nat) : M Unit := do
  let s ← get
  if a.toNat % 2 ^ bits ≠ 0 ∧ s.unalignedMasked = false then raise .unaligned else pure ()

end Sys2Proof.Machine
end

