-- ==== Sys2Proof/Machine/Ops.lean ====
section
/-! DEFINITION. The operations that instructions and implicit calls share: the register cache and the call operation
(spec/45_call_return.md R503 to R509), taking a fault and returning from a handler (spec/60_exceptions.md R650 to R656),
interrupts (R680 to R693), tracing (R700 to R704) and the completion of an instruction. -/

namespace Sys2Proof.Machine

/-- Round up to the next multiple of 16 (R503, SALIGN = 1). -/
def roundUp16 (a : Word) : Word := (a + 15) &&& 0xFFFFFFF0

/-- Set the IP by a transfer of control: the low two bits are dropped (10_state R34), and code after an invalidate is now
fetched from memory (20_memory R125, D15). -/
def State.jump (s : State) (target : Word) : State :=
  (s.withIp (target &&& 0xFFFFFFFC)).withCache { s.cache with bufferStale := [] }

/-! The local register cache (R505 to R509). -/

/-- PFP.a, the frame address in r0 (R507). -/
def State.pfpAddress (s : State) : Word := s.reg 0 &&& 0xFFFFFFF0

/-- FP, the address of the current frame in g15; the processor never uses the low four bits written there (R503 step 3,
R506; 70_reset R749 c). -/
def State.fpAddress (s : State) : Word := s.reg fpReg &&& 0xFFFFFFF0

/-- Whether the last cached set belongs to the frame that r0 names, if there is one (R509 b). -/
def State.chainIntact (s : State) : Bool :=
  match s.frames.cache.getLast? with
  | none => true
  | some f => f.link == s.pfpAddress

/-- Write a suspended set to its save area (R505): 16 word stores, which raise TYPE.MISMATCH and store nothing where the
area is write-protected internal RAM (20_memory R87, notes/assumptions/65.md). -/
def spillSet (f : CachedFrame) : M Unit := do
  let s ← get
  if s.protectedIn s.supervisor f.save 64 then raise .mismatch
  else do
    checkWords f.save 16
    modify (fun t => t.pokeWords f.save f.regs.toList)

/-- `spill_oldest()` (R505). -/
def spillOldest : M Unit := do
  let s ← get
  if s.chainIntact then
    match s.frames.cache with
    | [] => pure ()
    | f :: rest => do
      spillSet f
      modify (fun t => t.withFrames { t.frames with cache := rest })
  else refuse .frameChain

/-- Spill until the cache is empty (R524), `n` bounding the number of sets. -/
def spillAll : Nat → M Unit
  | 0 => pure ()
  | n + 1 => do
    let s ← get
    match s.frames.cache with
    | [] => pure ()
    | _ :: _ => do
      spillOldest
      spillAll n

/-- Whether the set about to be pushed makes the cache spill its oldest (R505): it is the eighth, or the code is not a
high-priority interrupt handler and only the reserved frames are left. -/
def State.pushSpills (s : State) : Bool :=
  let n := s.frames.cache.length + 1
  n == 8 || (n == 8 - s.frames.reserved.toNat && (decide ((pcPriority s.pc).toNat < 28) || !pcInterrupted s.pc))

/-- The suspended set of the current frame as it enters the cache, r2 holding the return address (R503 steps 1 and 2).
Where software has moved FP away from CUR_FRAME the save address is a free choice of the two (R506, U28). -/
def State.suspended (s : State) (rip : Slot) : CachedFrame :=
  let link := s.fpAddress
  { link := link
    save := if link = s.frames.current then link
            else if Config.freeBool s.free Site.saveAddress then s.frames.current else link
    regs := s.locals.set 2 rip }

/-- `push_frame` (R505). The chain of sets already cached is checked when one of them is spilled (log 35). -/
def pushFrame (f : CachedFrame) : M Unit := do
  let s ← get
  if s.pushSpills then
    match s.frames.cache with
    | [] => spillSet f
    | old :: rest =>
      if s.chainIntact then do
        spillSet old
        modify (fun t => t.withFrames { t.frames with cache := rest ++ [f] })
      else refuse .frameChain
  else set (s.withFrames { s.frames with cache := s.frames.cache ++ [f] })

/-- The locals of a new frame (R503, 10_state R26): r0 and r1 as the call sets them, r2 to r15 free values. -/
def newLocals (draw : Nat) (pfp sp : Word) : Vector Slot 16 :=
  ((Vector.ofFn (fun i : Fin 16 => Slot.free draw (Site.newLocal i.val))).set 0 (.val pfp)).set 1 (.val sp)

/-- The register save area of a new frame, as unpredictable as its registers (10_state R26, 93 U7): a free value per word,
where there is RAM (notes/assumptions/10.md). -/
def newSaveArea (draw : Nat) : List Slot := (List.range 16).map (fun i => Slot.free draw (Site.newSave i))

/-- `PFP.p` of a call (R504): call trace mode enabled, by PC.te and TC as they are, in a window of R745 or R746 too
(notes/assumptions/33.md). -/
def State.callTraced (s : State) : Bool := pcTe s.pc && tcMode s.tc evCall

/-- The PFP a call writes: the caller's FP, the prereturn flag, the return type (R503 step 3, R504). -/
def State.linkWord (s : State) (rt : BitVec 3) : Word :=
  s.fpAddress ||| (if s.callTraced then 8 else 0) ||| rt.zeroExtend 32

/-- The new frame of a call at `fp` (R503 steps 3 to 5). -/
def State.enterFrame (s : State) (pfp fp target : Word) : State :=
  ((((s.pokeWords fp (newSaveArea s.free)).withLocals (newLocals s.free pfp (fp + 64))).withGlobals
    (s.globals.set 15 (.val fp))).withFrames
    { s.frames with current := fp, pfpDirty := false
                    unsetPfp := if s.frames.unsetPfp = some fp then none else s.frames.unsetPfp }).withFree (s.free + 1)
    |>.jump target

/-- `do_call(return_ip, target_ip, rt, stack_base)` (R503). -/
def doCall (rip : Slot) (target : Word) (rt : BitVec 3) (base : Word) : M Unit := do
  let s ← get
  pushFrame (s.suspended rip)
  modify (fun t => t.enterFrame (s.linkWord rt) (roundUp16 base) target)

/-- The call operation after a change of PC (R515, R522): a spill is judged in the new mode, and one that faults leaves PC
changed (60_exceptions R640). -/
def switchCall (pc : Word) (rip : Slot) (target : Word) (rt : BitVec 3) (base : Word) : M Unit := do
  modify (fun s => s.setPcNow pc)
  doCall rip target rt base

/-- `pop_frame` (R505): the last cached set, or 16 words of the save area. -/
def popFrame (addr : Word) : M Unit := do
  let s ← get
  match s.frames.cache.getLast? with
  | some f =>
    if f.link = addr then
      set ((s.withLocals f.regs).withFrames { s.frames with cache := s.frames.cache.dropLast })
    else refuse .frameChain
  | none => do
    checkWords addr 16
    let t ← get
    set (t.withLocals (Vector.ofFn (fun i : Fin 16 => Slot.val (t.peek32 true (addr + BitVec.ofNat 32 (4 * i.val))))))

/-- `get_FP_and_IP()` (R507, R523). -/
def returnToFrame : M Unit := do
  let s ← get
  let fp := s.pfpAddress
  popFrame fp
  modify (fun t => ((t.withGlobals (t.globals.set 15 (.val fp))).withFrames
    { t.frames with current := fp, pfpDirty := false }).jump (t.reg 2))

/-! Taking a fault (60_exceptions R650 to R655, R703). -/

/-- The second word of a system-call entry of the fault table (R650). -/
def systemEntryWord : Word := 0x0000027F

/-- What the fault table selects: the handler's address, and whether the call switches to supervisor mode (R650 to R652).
A TRACE fault must select a supervisor procedure (R652). The second word of a system-call entry must have the
encoding R650 prescribes, another is refused (00_scope R11), that of a local entry is reserved and not read
(notes/assumptions/28.md). -/
def faultTarget (typeNumber : BitVec 8) : M (Word × Bool) := do
  let s ← get
  let entry ← readImplicit true (s.tables.fault + typeNumber.zeroExtend 32 * 8)
  if entry.extractLsb' 0 2 = 0#2 then
    if typeNumber = 1 then refuse .traceEntry else pure (entry, false)
  else if entry.extractLsb' 0 2 = 2#2 then do
    let second ← readImplicit true (s.tables.fault + typeNumber.zeroExtend 32 * 8 + 4)
    let n := entry >>> 2
    if second ≠ systemEntryWord then refuse (.faultEntryWord second)
    else if 259 < n.toNat then refuse .faultProcedureNumber
    else do
      let proc ← readImplicit true (s.tables.spt + 48 + 4 * n)
      if proc.extractLsb' 0 2 = 2#2 then pure (proc, !s.supervisor)
      else if proc.extractLsb' 0 2 = 0#2 then
        if typeNumber = 1 then refuse .traceEntry else pure (proc, false)
      else refuse .reservedSptEntry
  else refuse .reservedFaultEntry

/-- The fault record from its lowest word to its highest (R655): eight free words, PC, AC, type and subtype, the address of
the faulting instruction. -/
def faultRecord (draw : Nat) (pc ac typeWord : Word) (ip : Slot) : List Slot :=
  (List.range 8).map (fun i => Slot.free draw (Site.record i)) ++ [.val pc, .val ac, .val typeWord, ip]

/-- The type word of the record: `(T << 16) | S` (R655). -/
def faultTypeWord (typeNumber subtype : BitVec 8) : Word :=
  (typeNumber.zeroExtend 32 <<< 16) ||| subtype.zeroExtend 32

/-- PC as a fault handler starts with it (R652, R703): a switching call sets `em` and loads `te` from SSP.te, a TRACE
fault clears `te`. -/
def State.handlerPc (s : State) (switches trace : Bool) : Word :=
  let pc := if switches then pcSetTe (pcSetSupervisor s.pc true) (s.tables.ssp.getLsbD 0) else s.pc
  if trace then pcSetTe pc false else pc

/-- Where the record of a fault handler starts (R651, R652): the supervisor stack base on a switch, else the current SP. -/
def State.faultStack (s : State) (switches : Bool) : Word :=
  roundUp16 (if switches then s.tables.ssp &&& 0xFFFFFFFC else s.reg 1)

/-- THE FAULT CALL (R650 to R655): `rip` is what the faulting frame's r2 receives, `ip` the faulting address of the
record, `deferred` whether a trace event is kept as `tfp` of the saved PC (R703, R704). -/
def faultCall (typeNumber subtype : BitVec 8) (rip ip : Slot) (deferred : Bool) : M Unit := do
  let (target, switches) ← faultTarget typeNumber
  let s ← get
  let base := s.faultStack switches
  let savedPc := if deferred then pcSetTfp s.pc true else s.pc
  writeImplicit (s.supervisor || switches) base
    (faultRecord s.free savedPc s.ac (faultTypeWord typeNumber subtype) ip)
  modify (fun t => if switches || typeNumber = 1 then t.setPcNow (t.handlerPc switches (typeNumber = 1)) else t)
  doCall rip target 1 (base + Config.faultRecordBytes)

/-! Interrupts (60_exceptions R680 to R693). -/

/-- The number of the most significant 1 bit below bit `n`. -/
def topBit (w : Word) : Nat → Option Nat
  | 0 => none
  | n + 1 => if w.getLsbD n then some n else topBit w n

/-- The word with bit `n` set. -/
def bitWord (n : Nat) : Word := BitVec.ofNat 32 (2 ^ n)

/-- The most significant 1 bit of a word, 0 if there is none: `SW_Int_Priority` of a pending-priorities word (48 R607). -/
def topPriority (w : Word) : BitVec 5 := BitVec.ofNat 5 ((topBit w 32).getD 0)

/-- The priority of a vector (R681). -/
def vectorPriority (v : Byte) : BitVec 5 := v.extractLsb' 3 5

/-- `deliverable` of R682 for a priority. -/
def State.deliverable (s : State) (p : BitVec 5) : Bool := decide ((pcPriority s.pc).toNat < p.toNat) || p == 31

/-- A hardware request: its vector, its IPND bit, and whether it is of a dedicated-mode source. -/
structure Request where
  vector : Byte
  bit : Nat
  dedicated : Bool
  deriving DecidableEq, Repr

/-- The map nibble of a dedicated source, by IPND bit (R692). -/
def Interrupts.mapNibble (i : Interrupts) (bit : Nat) : BitVec 4 :=
  if bit < 4 then i.imap0.extractLsb' (4 * bit) 4
  else if bit < 8 then i.imap1.extractLsb' (4 * (bit - 4)) 4
  else i.imap2.extractLsb' (16 + 4 * (bit - 12)) 4

/-- The vector of a dedicated source: `16 n + 2` (R692). -/
def Interrupts.dedicatedVector (i : Interrupts) (bit : Nat) : Byte := i.mapNibble bit ++ 2#4

/-- The requests of a list of dedicated sources that are pending and enabled. -/
def Interrupts.dedicatedRequests (i : Interrupts) : List Nat → List Request
  | [] => []
  | bit :: rest =>
    if i.pending.getLsbD bit && i.imsk.getLsbD bit && (decide (8 ≤ bit) || (dedicatedPins i.icon).getLsbD bit) then
      { vector := i.dedicatedVector bit, bit := bit, dedicated := true } :: i.dedicatedRequests rest
    else i.dedicatedRequests rest

/-- The request of the expanded-mode pins (R692, log 41). -/
def Interrupts.expandedRequests (i : Interrupts) : List Request :=
  match i.vector with
  | none => []
  | some v =>
    if (i.icon.extractLsb' 0 2 = 1#2 ∨ i.icon.extractLsb' 0 2 = 2#2) ∧ i.imsk.getLsbD 0 then
      [{ vector := v, bit := 0, dedicated := false }]
    else []

/-- The request with the highest vector, the first listed among equals (R683, log 41). -/
def bestRequest : List Request → Option Request
  | [] => none
  | r :: rest =>
    match bestRequest rest with
    | none => some r
    | some q => if r.vector.toNat < q.vector.toNat then some q else some r

/-- The highest hardware request (R682). -/
def Interrupts.hardware (i : Interrupts) : Option Request :=
  bestRequest (i.dedicatedRequests [0, 1, 2, 3, 4, 5, 6, 7, 12, 13] ++ i.expandedRequests)

/-- What `check_pending_interrupts` finds to deliver (R682). -/
inductive Source where
  | nmi
  | hardware (r : Request)
  | software
  deriving DecidableEq, Repr

/-- The choice of R682: NMI first and unconditionally, then, if interrupts are enabled, the higher of the hardware and the
software request, if it is deliverable; a tie is a free choice. -/
def State.pendingSource (s : State) : Option Source :=
  if s.intr.nmiPending && s.intr.nmiFrame.isNone then some .nmi
  else if s.intr.icon.getLsbD 10 then none
  else
    let sp := s.intr.swPriority
    match s.intr.hardware with
    | none => if sp ≠ 0 ∧ s.deliverable sp then some .software else none
    | some r =>
      let hp := vectorPriority r.vector
      if hp.toNat < sp.toNat ∨ (hp = sp ∧ Config.freeBool s.free Site.tie) then
        if s.deliverable sp then some .software else none
      else if s.deliverable hp then some (.hardware r) else none

/-- THE INTERRUPT CALL (R688 to R690): the frame's address is the answer. -/
def interruptCall (v : Byte) (target : Word) : M Word := do
  let s ← get
  let base := roundUp16 (if pcInterrupted s.pc then s.reg 1 else s.tables.isp)
  writeImplicit true base
    [.val s.pc, .val s.ac, .val (v.zeroExtend 32), .free s.free (Site.record 0)]
  modify (fun t => ((t.setPcNow (pcForInterrupt t.pc (vectorPriority v))).withIntr { t.intr with halted := false }))
  doCall (.val s.ip) target 7 (base + 16)
  pure (base + 16)

/-- The entry of a vector in the interrupt table (R686). -/
def vectorEntry (v : Byte) : M Word := do
  let s ← get
  readImplicit false (s.tables.interrupt + 36 + 4 * (v.zeroExtend 32 - 8))

/-- Delivery clears the IPND bit of a dedicated source, but not that of a pin that is detected by level and low (R681). -/
def Interrupts.clearsPending (i : Interrupts) (r : Request) : Bool :=
  r.dedicated && !(i.levelLow.zeroExtend 32).getLsbD r.bit

/-- Deliver a hardware request: clear its IPND bit where that is due, take the vector from the table or, with vector
caching, from internal RAM (R693), call, and carry out the mask operation of ICON.mo (R692). The vector that expanded-mode
pins present stays until the outside changes it (notes/assumptions/41.md). -/
def deliverHardware (r : Request) : M Unit := do
  let s ← get
  let cachedVector := s.intr.icon.getLsbD 13 && r.dedicated
  let target ←
    if cachedVector then pure (s.peek32 false (4 * (r.vector.extractLsb' 4 4).zeroExtend 32)) else vectorEntry r.vector
  if s.intr.clearsPending r then
    modify (fun t => t.withIntr { t.intr with ipnd := t.intr.ipnd &&& ~~~bitWord r.bit })
  let _ ← interruptCall r.vector target
  if s.intr.icon.getLsbD (if r.dedicated then 11 else 12) then
    modify (fun t => (t.setReg 3 s.intr.imsk).withIntr { t.intr with imsk := 0 })

/-- Deliver the NMI (R684): vector 248, the handler's address in internal RAM word 0. -/
def deliverNmi : M Unit := do
  let s ← get
  set (s.withIntr { s.intr with nmiPending := false })
  let fp ← interruptCall 248 (s.peek32 false 0)
  modify (fun t => t.withIntr { t.intr with nmiFrame := some fp })

/-- Deliver the posted software interrupt of the highest priority (R687). A word whose only set bit is bit 0 selects one of
vectors 0 to 7, whose entry is taken where the formula of R686 puts it (notes/assumptions/43.md). -/
def deliverSoftware : M Unit := do
  let s ← get
  let base := s.tables.interrupt
  let pend ← readImplicit false base
  match topBit pend 32 with
  | none => modify (fun t => t.withIntr { t.intr with swPriority := 0 })
  | some p => do
    let at_ := base + 4 + BitVec.ofNat 32 p
    checkImplicit at_ 1
    let b := s.peek8 false at_
    match topBit (b.zeroExtend 32) 8 with
    | none => modify (fun t => t.withIntr { t.intr with swPriority := 0 })
    | some k => do
      let b' := b &&& ~~~(bitWord k).setWidth 8
      let pend' := if b' = 0 then pend &&& ~~~bitWord p else pend
      modify (fun t => (t.poke8 at_ (.val b')))
      writeImplicit true base [.val pend']
      modify (fun t => t.withIntr { t.intr with swPriority := topPriority pend' })
      let v := BitVec.ofNat 8 (8 * p + k)
      let target ← vectorEntry v
      let _ ← interruptCall v target
      pure ()

/-- Deliver a source. -/
def deliver : Source → M Unit
  | .nmi => deliverNmi
  | .hardware r => deliverHardware r
  | .software => deliverSoftware

/-- `check_pending_interrupts()` (R682). -/
def checkPending : M Unit := do
  let s ← get
  match s.pendingSource with
  | none => pure ()
  | some src => deliver src

/-! Completion of an instruction (R640, R680, R700 to R704). -/

/-- A hardware breakpoint match: an oracle once a breakpoint register was written (R702, D24). -/
def State.breakpointMatch (s : State) : Bool := s.bp.written && Config.freeBool s.free Site.breakpoint

/-- Whether an instruction that began in `s` and completed in `t` is traced (R701): by PC.te as it was before the
instruction, so that a handler that runs with `te` clear is not traced, its `ret` included (R703), or, in the window of a
`modpc`, by the free choice of 70_reset R745 (notes/assumptions/66.md). -/
def State.tracedUntil (s t : State) : Bool := if t.trace.teWindow = 0 then s.traceOn else t.traceOn

/-- The trace events of a completed instruction whose modes are enabled, and the forced mark event (R700, R701), `on`
being whether the instruction is traced. -/
def State.traceEvents (s : State) (on : Bool) (events : BitVec 8) (forceMark : Bool) : BitVec 8 :=
  if on then
    ((events ||| evInstruction ||| (if s.breakpointMatch then evMark else 0)) &&& s.traceModes.setWidth 8) |||
      (if forceMark then evMark else 0)
  else 0

/-- The instruction is over: one draw and one instruction of the windows have passed (70_reset R745, R746). -/
def State.retire (s : State) (branch : Bool) : State := (s.withTrace (s.trace.pass branch)).withFree (s.free + 1)

/-- Set the event flags of TC (R701). -/
def State.signal (s : State) (events : BitVec 8) : State := s.withTc (tcSetEvents s.tc events)

/-- A completed action: advance the IP unless it was set (10_state R34), take the trace fault (R701) or the pending one
(R703), then check pending interrupts where that is demanded before the next instruction (R680). The trace fault of a
`halt` is called while the machine is halted (notes/assumptions/49.md). -/
def complete (ip len : Word) (on : Bool) (d : Done) : M Unit := do
  modify (fun s => if d.transfer then s else s.withIp (s.ip + len))
  let s ← get
  let events := s.traceEvents on d.events d.forceMark
  set (s.retire d.branch)
  if d.pendingTrace then modify (fun t => t.withPc (pcSetTfp t.pc false))
  if events ≠ 0 then
    modify (fun t => t.signal events)
    faultCall 1 events (.val s.ip) (.val ip) false
  else if d.pendingTrace then
    faultCall 1 ((Config.freeWord s.free Site.pendingSubtype).setWidth 8) (.val s.ip) (.free s.free Site.pendingIp) false
  if d.poll then checkPending

/-- The saved RIP of a fault (R655, D22): the next instruction, the `ret` itself for a prereturn trace (R701), else a free
value (log 11). -/
def savedRip (k : FaultKind) (draw : Nat) (ip len : Word) : Slot :=
  if k = .prereturn then .val ip else if k.resumesNext then .val (ip + len) else .free draw Site.savedRip

/-- An action that raised a fault: the fault call, with the trace events of a completed instruction kept as `tfp` (R704). -/
def faulted (ip len : Word) (k : FaultKind) : M Unit := do
  let s ← get
  let events := if k.resumesNext then s.traceEvents s.traceOn 0 false else 0
  set ((s.signal (if k = .prereturn then evPrereturn else events)).retire false)
  faultCall k.typeNumber k.subtype (savedRip k s.free ip len) (.val ip) (events ≠ 0)

/-- Run the action of an instruction of `len` bytes to the end of its step. -/
def run (len : Word) (action : M Done) (s : State) : Host.Outcome State Fault Refusal :=
  match action s with
  | .ok d t => toOutcome (complete s.ip len (s.tracedUntil t) d) t
  | .error (.raise k) t => toOutcome (faulted s.ip len k) t
  | .error (.fault f) _ => .fault f
  | .error (.refuse r) _ => .refused r

/-! Returning from a handler (45_call_return R523; 60_exceptions R656, R691). -/

/-- The saved PC and AC words of the record below the current frame (R523, R655, R690); the low four bits of g15 are ignored
(70_reset R749 c). -/
def savedControls : M (Word × Word) := do
  let s ← get
  let pc ← readImplicit true (s.fpAddress - 16)
  let ac ← readImplicit true (s.fpAddress - 12)
  pure (pc, ac)

/-- Restore AC, and PC if the return executes in supervisor mode; answers whether the restored PC holds a pending trace
fault (R523, R703). No other way in which PC comes to hold te and tfp raises one (DESIGN CHOICE,
notes/assumptions/68.md). Reserved bits of AC are not held (D20); a PC image with one set is refused (00_scope R11,
notes/assumptions/37.md). -/
def restoreControls (supervisor : Bool) (pc ac : Word) : M Bool := do
  modify (fun t => t.withAc (ac &&& acMask))
  if supervisor then
    if pc &&& ~~~pcMask ≠ 0 then refuse .pcImageReserved
    else do
      modify (fun t => t.setPcNow pc)
      pure (pcTe pc && pcTfp pc)
  else pure false

/-- A fault or an interrupt return: THE RETURN FROM AN EXCEPTION (R523, R656, R691). -/
def handlerReturn : M Bool := do
  let s ← get
  let (pc, ac) ← savedControls
  returnToFrame
  restoreControls s.supervisor pc ac

/-- A supervisor return (R523): in supervisor mode `te` takes the trace-on-return flag and the mode becomes user; in user
mode it is a local return. -/
def supervisorReturn (te : Bool) : M Unit := do
  modify (fun s => if s.supervisor then s.setPcNow (pcSetSupervisor (pcSetTe s.pc te) false) else s)
  returnToFrame

end Sys2Proof.Machine
end

