-- ==== Sys2Proof/Machine/Init.lean ====
section
/-! DEFINITION. Initialization: `Process_PRCB` and the control table (spec/70_reset_and_hazards.md R726 to R728), the
hardware reset and the software reinitialization (R731), the invalidation of the caches (spec/20_memory.md R125). -/

namespace Sys2Proof.Machine

/-- The addresses of the three words after the instruction at `ip` of `len` bytes, which the fetch buffer may hold
(20_memory R112, R125, D15). -/
def bufferBytes (ip len : Word) : List Nat := (List.range 12).map (fun i => (ip + len + BitVec.ofNat 32 i).toNat)

/-- Invalidate the instruction cache (48 R595, 20_memory R125): stale code remains only in the fetch buffer (D15). -/
def State.invalidateICache (s : State) (len : Word) : State :=
  s.withCache { s.cache with
    codeStale := []
    bufferStale := (s.cache.bufferStale ++ s.cache.codeStale).filter (fun c => (bufferBytes s.ip len).contains c.addr) }

/-- Invalidate the data cache (48 R587). -/
def State.invalidateDCache (s : State) : State := s.withCache { s.cache with dataStale := [] }

/-- A word of an initialization structure. -/
def initWord (a : Word) : M Word := readImplicit true a

/-- Eight PMCON words of the control table (R728), the first `n` of them. -/
def loadPmcon (c : Word) : Nat → M Unit
  | 0 => pure ()
  | n + 1 => do
    loadPmcon c n
    let v ← initWord (c + 0x20 + BitVec.ofNat 32 (8 * n))
    modify (fun s => s.withConfig { s.config with pmcon := s.config.pmcon.setIfInBounds n v })

/-- `load_control_table(c)` (R728, offsets R723). TC keeps the bits the machine holds (10_state R50). A window of `modtc`
(R746) that is open when a reinitialization loads TC goes on: tracing may still see the TC from before that `modtc` until it
closes (DESIGN CHOICE, notes/assumptions/32.md). -/
def loadControlTable (c : Word) : M Unit := do
  let imap0 ← initWord (c + 0x10)
  let imap1 ← initWord (c + 0x14)
  let imap2 ← initWord (c + 0x18)
  let icon ← initWord (c + 0x1C)
  modify (fun s => s.withIntr { s.intr with imap0 := imap0, imap1 := imap1, imap2 := imap2, icon := icon })
  loadPmcon c 8
  let tc ← initWord (c + 0x68)
  modify (fun s => s.withTc (tc &&& tcMask))
  let bcon ← initWord (c + 0x6C)
  modify (fun s => s.withConfig { s.config with bcon := bcon })

/-- `Process_PRCB(p)` (R726, offsets R722). The NMI vector is copied to internal RAM word 0. A pointer that is not a
multiple of 16 is used as it is (notes/assumptions/47.md). The store of word 0 is made where `BCON.sirp` protects it too
(DESIGN CHOICE, notes/assumptions/69.md). -/
def processPrcb (p : Word) : M Unit := do
  let fault ← initWord p
  let control ← initWord (p + 0x04)
  let ac ← initWord (p + 0x08)
  let faultConfig ← initWord (p + 0x0C)
  let interrupt ← initWord (p + 0x10)
  let spt ← initWord (p + 0x14)
  let isp ← initWord (p + 0x1C)
  let icacheConfig ← initWord (p + 0x20)
  let rcw ← initWord (p + 0x24)
  let ssp ← initWord (spt + 12)
  modify (fun s => ((((s.withTables
      { prcb := p, spt := spt, interrupt := interrupt, fault := fault, control := control, isp := isp, ssp := ssp }).withAc
      (ac &&& acMask)).withUnalignedMasked (faultConfig.getLsbD 30)).withCache
      { s.cache with instrEnabled := !icacheConfig.getLsbD 16 }).withFrames
      { s.frames with reserved := rcw.extractLsb' 8 3 })
  loadControlTable control
  let nmi ← initWord (interrupt + 36 + 4 * (248 - 8))
  modify (fun s => s.poke32 0 (.val nmi))

/-- Both caches disabled and invalid, the instruction cache unlocked (R731). -/
def State.resetCaches (s : State) (len : Word) : State :=
  let t := (s.invalidateICache len).invalidateDCache
  t.withCache { t.cache with dataEnabled := false, instrEnabled := false, instrLocked := false }

/-- `software_reinitialize` (R731, 48 R610): the IP is set by a transfer of control. -/
def softwareReinitialize (prcb ip : Word) : M Unit := do
  modify (fun s => s.resetCaches 4)
  processPrcb prcb
  modify (fun s => s.jump ip)

/-- Internal data RAM after a hardware reset: every byte a free value (R724). -/
def Memory.freeInternalRam (m : Memory) (draw : Nat) : Memory :=
  { cells := m.cells.filter (fun c => 0x3FF < c.1)
    freeBytes := (List.range 0x400).map (fun a => (a, ⟨draw, Site.address (a / 4) 4, a % 4⟩)) ++
      m.freeBytes.filter (fun c => 0x3FF < c.1) }

/-- What a hardware reset sets before it reads the boot record: R731 line by line, and a free value for everything R724
leaves unspecified (log 46); external memory keeps its contents. Of an NMI latched before the reset and of an NMI handler
in service R724 and R731 say nothing: the reset clears both (DESIGN CHOICE, notes/assumptions/46.md). -/
def State.resetCore (s : State) : State :=
  let w := fun i => Config.freeWord s.free (Site.resetWord i)
  { s with
    pc := 0x001F2002
    globals := Vector.ofFn (fun i : Fin 16 => Slot.free s.free (Site.resetWord (32 + i.val)))
    locals := Vector.ofFn (fun i : Fin 16 => Slot.free s.free (Site.resetWord (48 + i.val)))
    frames := { s.frames with cache := [], pfpDirty := false, unsetPfp := none }
    config := { s.config with
      dlmcon := merge 3 (if s.plat.bigEndianInit then 1 else 0) (w 0)
      lmadr0 := w 1, lmadr1 := w 2, lmmr0 := w 3 &&& ~~~1, lmmr1 := w 4 &&& ~~~1 }
    bp := { ipb0 := w 5, ipb1 := w 6, dab0 := w 7, dab1 := w 8, bpcon := w 9
            rights := { ipb0 := false, ipb1 := false, dab0 := false, dab1 := false, bpcon := false }, written := false }
    intr := { s.intr with imsk := 0, ipnd := w 10, swPriority := 0, nmiPending := false, nmiFrame := none
                          halted := false, latency := none }
    timer0 := { trr := w 11, tcr := w 12, tmr := 0 }
    timer1 := { trr := w 13, tcr := w 14, tmr := 0 }
    cache := { dataEnabled := false, instrEnabled := false, instrLocked := false, dataStale := [], codeStale := []
               bufferStale := [], buffer := none }
    trace := { teWindow := 0, teOld := false, tcWindow := 0, tcOld := 0 }
    mem := s.mem.freeInternalRam s.free
    deviceId := s.plat.deviceId
    free := s.free + 1 }

/-- `hardware_reset()` (R731), with the initial frame of R730. -/
def hardwareReset : M Unit := do
  modify State.resetCore
  let prcb ← initWord 0xFEFFFF44
  processPrcb prcb
  let ip ← initWord 0xFEFFFF40
  let s ← get
  let isp := s.tables.isp
  if isp &&& 0xF ≠ 0 then refuse (.ispMisaligned isp)
  else
    set ((((s.setReg 16 s.deviceId).setReg fpReg isp).setReg 1 (isp + 64)).withFrames
      { s.frames with current := isp, pfpDirty := false, unsetPfp := some isp } |>.jump ip)

end Sys2Proof.Machine
end

