-- ==== Sys2Proof/Machine/Cycle.lean ====
section
/-! DEFINITION. One step of the machine: the events of the outside (spec/60_exceptions.md R694, R714), the halted state
(spec/48_processor_management.md R584), the choice between delivering an interrupt and executing (R680), the fetch
(spec/20_memory.md R90, R92, R125; spec/30_encoding.md R164). -/

namespace Sys2Proof.Machine

/-- The clocks from a count to the next 0: a count of 0 is decremented to FFFFFFFFH (60 R714, notes/assumptions/45.md). -/
def clocksToZero (count : Word) : Nat := if count = 0 then 2 ^ 32 else count.toNat

/-- `n` clocks of a timer (60 R714): the new timer, and whether it reached terminal count. A single-shot timer that holds
0 has stopped; one that reloads goes on counting, from 0 too (notes/assumptions/45.md). -/
def Timer.clocks (t : Timer) (n : Nat) : Timer × Bool :=
  if t.tmr.getLsbD 1 = false ∨ (t.tmr.getLsbD 2 = false ∧ t.tcr = 0) then (t, false)
  else if n < clocksToZero t.tcr then ({ t with tcr := t.tcr - BitVec.ofNat 32 n }, false)
  else
    let count := if t.tmr.getLsbD 2 then t.trr - BitVec.ofNat 32 ((n - clocksToZero t.tcr) % clocksToZero t.trr) else 0
    ({ t with tcr := count, tmr := t.tmr ||| 1 }, true)

/-- Post a hardware request in IPND (60 R681). -/
def State.post (s : State) (bits : Word) : State := s.withIntr { s.intr with ipnd := s.intr.ipnd ||| bits }

/-- New levels on the interrupt pins (60 R681, R692): a falling edge posts an edge-detected dedicated pin; the bit of a
level-detected one follows its level. -/
def Interrupts.newPins (i : Interrupts) (levels : BitVec 8) : Interrupts :=
  let edges := i.pins &&& ~~~levels &&& dedicatedPins i.icon &&& i.icon.extractLsb' 2 8
  let level := levelPins i.icon
  { i with
    pins := levels
    ipnd := merge (level.zeroExtend 32) ((~~~levels).zeroExtend 32) i.ipnd ||| edges.zeroExtend 32 }

/-- One event of the outside. -/
def applyEvent : Event → M Unit
  | .pins levels => modify (fun s => s.withIntr (s.intr.newPins levels))
  | .vector v => modify (fun s => s.withIntr { s.intr with vector := v })
  | .nmi => modify (fun s => s.withIntr { s.intr with nmiPending := true })
  | .clock0 n => modify (fun s =>
      let (t, hit) := s.timer0.clocks n
      if hit then (s.withTimer0 t).post (bitWord 12) else s.withTimer0 t)
  | .clock1 n => modify (fun s =>
      let (t, hit) := s.timer1.clocks n
      if hit then (s.withTimer1 t).post (bitWord 13) else s.withTimer1 t)
  | .busWrite a b => modify (fun s => s.busWrite a b)
  | .reset => hardwareReset

/-- A batch of events in order. -/
def applyEvents : List Event → M Unit
  | [] => pure ()
  | e :: rest => do
    applyEvent e
    applyEvents rest

/-- Take the next batch of inputs; free values of the step are drawn after those of its events. -/
def takeInputs : M Unit := do
  let s ← get
  match s.inputs with
  | [] => pure ()
  | batch :: rest => do
    set ((s.withInputs rest).withFree (s.free + 1))
    applyEvents batch
    modify (fun t => t.withFree (t.free + 1))

/-- The writes behind which a fetch from an address may be: those since the last invalidate or, while the instruction
cache is disabled, only those since the fetch buffer was filled, if it holds the block (20_memory R112, 48 R594); and
those that the fetch buffer may still be behind after an invalidate (20_memory R125, D15). -/
def State.codeCopies (s : State) (a : Nat) : List StaleByte :=
  s.cache.bufferStale ++
    if s.cache.instrEnabled then s.cache.codeStale
    else
      match s.cache.buffer with
      | some b => if b.block = a / 16 then s.cache.codeStale.filter (fun e => decide (b.time ≤ e.time)) else []
      | none => []

/-- A byte of code: where a stale copy may exist, an old or the new byte (20_memory R125, U15). -/
def State.codeByte (s : State) (a : Word) : Byte :=
  if s.kindAt a = .device then Config.freeByte s.free (Site.address a.toNat 5)
  else staleByte (s.codeCopies a.toNat) s.free 6 a.toNat (s.byteAt a)

/-- An instruction word in the byte order in force (20_memory R101, D2). -/
def State.codeWord (s : State) (a : Word) : Word :=
  join32 s.bigEndian (s.codeByte a) (s.codeByte (a + 1)) (s.codeByte (a + 2)) (s.codeByte (a + 3))

/-- The fetch buffer after a fetch from an address: it holds the block already, or is filled now, through the instruction
cache, whose copy may be older, while that is enabled (20_memory R112). -/
def State.bufferAfter (s : State) (a : Word) : FetchBuffer :=
  if s.cache.instrEnabled then ⟨a.toNat / 16, 0⟩
  else
    match s.cache.buffer with
    | some b => if b.block = a.toNat / 16 then b else ⟨a.toNat / 16, s.free⟩
    | none => ⟨a.toNat / 16, s.free⟩

/-- The state after a fetch from an address. -/
def State.fetched (s : State) (a : Word) : State := s.withCache { s.cache with buffer := some (s.bufferAfter a) }

/-- Fetch one instruction word: not from internal RAM or MMR space (20_memory R90, R92; 60 R645), not from absent memory
(D13). The fetch buffer then holds its block (20_memory R112). -/
def fetchWord (a : Word) : M Word := do
  let s ← get
  if regionOf a ≠ .external then raise .unimplemented
  else match s.absentIn a 4 with
    | some b => stopFault (.absentMemory b)
    | none => do
      set (s.fetched a)
      pure (s.codeWord a)

/-- Fetch and decode the instruction at IP (30_encoding R164, R157). -/
def fetch : M Instr := do
  let s ← get
  let w0 ← fetchWord s.ip
  let w1 ← if needsSecondWord w0 then fetchWord (s.ip + 4) else pure 0
  match decode w0 w1 with
  | .ok i => pure i
  | .error _ => raise .invalidOpcode

/-- Execute the instruction at IP: a fetch or decode fault is taken on it (60 R643 items 1 and 2). -/
def fetchAndRun (exec : Instr → State → Host.Outcome State Fault Refusal) (s : State) :
    Host.Outcome State Fault Refusal :=
  match fetch s with
  | .ok i t => exec i t
  | .error (.raise k) t => toOutcome (faulted t.ip 4 k) t
  | .error (.fault f) _ => .fault f
  | .error (.refuse r) _ => .refused r

/-- How many instructions may still execute before the deliverable interrupt is delivered. -/
def State.withLatency (s : State) (l : Option Nat) : State := s.withIntr { s.intr with latency := l }

/-- The latency of a deliverable interrupt: the one that runs, or a free number that is drawn now. So delivering it and
executing the next instruction are a free choice at each step (60 R680), and an interrupt that stays deliverable is
delivered in the end (70_reset R750, notes/assumptions/40.md). -/
def State.deliveryLatency (s : State) : Nat := s.intr.latency.getD (Config.freeNat s.free Site.deliver)

/-- The step after its inputs. A halted machine delivers a deliverable interrupt or stays (48 R584). -/
def cycle (exec : Instr → State → Host.Outcome State Fault Refusal) (s : State) : Host.Outcome State Fault Refusal :=
  match s.pendingSource with
  | some src =>
    if s.intr.halted then toOutcome (deliver src) (s.withLatency none)
    else
      match s.deliveryLatency with
      | 0 => toOutcome (deliver src) (s.withLatency none)
      | n + 1 => fetchAndRun exec (s.withLatency (some n))
  | none =>
    if s.intr.halted then .next ((s.withLatency none).withFree (s.free + 1))
    else fetchAndRun exec (s.withLatency none)

/-- One step: the inputs, then the cycle. -/
def stepWith (exec : Instr → State → Host.Outcome State Fault Refusal) (s : State) :
    Host.Outcome State Fault Refusal :=
  match takeInputs s with
  | .ok _ t => cycle exec t
  | .error (.raise _) _ => .refused .faultInDelivery
  | .error (.fault f) _ => .fault f
  | .error (.refuse r) _ => .refused r

/-- Store the eight bytes of two words at IP and forget stale copies of them, for `State.withFetchWord`. -/
def State.placeCode (s : State) (w0 w1 : Word) : State :=
  let put := fun (m : Memory) (i : Nat) (w : Word) =>
    m.put (s.ip + BitVec.ofNat 32 i).toNat (.val (byteLane w (laneAt s.bigEndian 4 (i % 4))))
  let m := put (put (put (put (put (put (put (put s.mem 0 w0) 1 w0) 2 w0) 3 w0) 4 w1) 5 w1) 6 w1) 7 w1
  let keep := fun (c : StaleByte) => !((List.range 8).map (fun i => (s.ip + BitVec.ofNat 32 i).toNat)).contains c.addr
  (s.withMem m).withCache { s.cache with
    codeStale := s.cache.codeStale.filter keep, bufferStale := s.cache.bufferStale.filter keep }

end Sys2Proof.Machine
end

