-- ==== Sys2Proof/Machine/Forms.lean ====
section
/-! DEFINITION. The shapes of action that several instructions share: spec/30_encoding.md R144, R145. -/

namespace Sys2Proof.Machine

/-- The slot a source operand reads. -/
def operandSlot (o : Operand) (site : Nat) (s : State) : Slot :=
  match o with
  | .reg n => s.srcSlot site n
  | .lit v => .val (v.zeroExtend 32)

/-- `dst <- f src1 src2`. -/
def binary (f : Word → Word → Word) (src1 src2 : Operand) (dst : RegNum) : M Done := do
  checkDst dst
  let s ← get
  setDst dst (f (operandValue src1 Site.src1 s) (operandValue src2 Site.src2 s))
  pure {}

/-- `dst <- f src1 src2`, then `integer_overflow()` when `overflows src1 src2` (10_state R39: the destination is written
first). -/
def binaryOverflow (f : Word → Word → Word) (overflows : Word → Word → Bool) (src1 src2 : Operand) (dst : RegNum) :
    M Done := do
  checkDst dst
  let s ← get
  let a := operandValue src1 Site.src1 s
  let b := operandValue src2 Site.src2 s
  setDst dst (f a b)
  overflowIf (overflows a b)
  pure {}

/-- An action made only when `cond(mask)` holds; the destination is checked in either case (log 9). -/
def whenCond (mask : BitVec 3) (dst : RegNum) (action : M Done) : M Done := do
  checkDst dst
  let s ← get
  if cond mask s then action else pure {}

/-- `AC.cc <- f src1 src2`. -/
def compareOp (f : Word → Word → BitVec 3) (src1 src2 : Operand) : M Done := do
  modify (fun s => s.setCc (f (operandValue src1 Site.src1 s) (operandValue src2 Site.src2 s)))
  pure {}

/-- The report of a branching instruction that transferred control (60 R700). -/
def branched : Done := { events := evBranch, transfer := true, branch := true }

/-- The report of a branching instruction that went on to the next one (44 R441, log 56). -/
def notTaken : Done := { branch := true }

end Sys2Proof.Machine
end

