-- ==== Sys2Proof/Machine/Arithmetic.lean ====
section
/-! DEFINITION. Addition, subtraction, multiplication and division: spec/41_arithmetic.md R260 to R314. -/

namespace Sys2Proof.Machine

/-- The exact signed product (41 R307). -/
def productInt (a b : Word) : Int := b.toInt * a.toInt

/-- The quotient of integers, truncated toward zero (41 R309). -/
def quotientInt (a b : Word) : Int := b.toInt.tdiv a.toInt

/-- The remainder of integers, with the sign of src2 (41 R311). -/
def remainderInt (a b : Word) : Int := b.toInt - quotientInt a b * a.toInt

/-- The modulo of integers, with the sign of src1 (41 R312). -/
def moduloInt (a b : Word) : Int :=
  let r := remainderInt a b
  if b.toInt * a.toInt < 0 ∧ r ≠ 0 then r + a.toInt else r

/-- An operation by a divisor src1 whose zero raises ARITHMETIC.ZERO_DIVIDE (41 R263). With `writes` the destination is
first left undefined (U20). -/
def divideBy (writes : Bool) (f : Word → Word → Word) (src1 src2 : Operand) (dst : RegNum) : M Done := do
  checkDst dst
  let s ← get
  let a := operandValue src1 Site.src1 s
  if a = 0 then do
    if writes then setUndefined dst 1
    raise .zeroDivide
  else do
    setDst dst (f a (operandValue src2 Site.src2 s))
    pure {}

/-- The 64-bit value of the register pair that a src2 field names, none for a literal or an odd register
(41 R314, R322, D18). -/
def pairValue (o : Operand) (s : State) : Option (BitVec 64) :=
  match o with
  | .lit _ => none
  | .reg n =>
    if misaligned n 2 then none
    else some (s.src (Site.result 9) (n + 1) ++ s.src (Site.result 8) n)

/-- `addc` (41_arithmetic R283). -/
def execAddc (src1 src2 : Operand) (dst : RegNum) (s : State) : Host.Outcome State Fault Refusal :=
  run 4 (do
    checkDst dst
    let t ← get
    let a := operandValue src1 Site.src1 t
    let b := operandValue src2 Site.src2 t
    let sum := carrySum a b (t.cc.getLsbD 1)
    let r := sum.setWidth 32
    set ((t.setReg dst r).setCc (carryCc (sum.getLsbD 32) (b.msb == a.msb && b.msb != r.msb)))
    pure {}) s

/-- `addo` (41_arithmetic R284). -/
def execAddo (src1 src2 : Operand) (dst : RegNum) (s : State) : Host.Outcome State Fault Refusal :=
  run 4 (binary (fun a b => b + a) src1 src2 dst) s

/-- `addi` (41_arithmetic R285). -/
def execAddi (src1 src2 : Operand) (dst : RegNum) (s : State) : Host.Outcome State Fault Refusal :=
  run 4 (binaryOverflow (fun a b => b + a) addOverflows src1 src2 dst) s

/-- `subc` (41_arithmetic R303). -/
def execSubc (src1 src2 : Operand) (dst : RegNum) (s : State) : Host.Outcome State Fault Refusal :=
  run 4 (do
    checkDst dst
    let t ← get
    let a := operandValue src1 Site.src1 t
    let b := operandValue src2 Site.src2 t
    let sum := carrySum (~~~a) b (t.cc.getLsbD 1)
    let r := sum.setWidth 32
    set ((t.setReg dst r).setCc (carryCc (sum.getLsbD 32) (b.msb != a.msb && b.msb != r.msb)))
    pure {}) s

/-- `subo` (41_arithmetic R304). -/
def execSubo (src1 src2 : Operand) (dst : RegNum) (s : State) : Host.Outcome State Fault Refusal :=
  run 4 (binary (fun a b => b - a) src1 src2 dst) s

/-- `subi` (41_arithmetic R305). -/
def execSubi (src1 src2 : Operand) (dst : RegNum) (s : State) : Host.Outcome State Fault Refusal :=
  run 4 (binaryOverflow (fun a b => b - a) subOverflows src1 src2 dst) s

/-- `mulo` (41_arithmetic R306). -/
def execMulo (src1 src2 : Operand) (dst : RegNum) (s : State) : Host.Outcome State Fault Refusal :=
  run 4 (binary (fun a b => b * a) src1 src2 dst) s

/-- `muli` (41_arithmetic R307). -/
def execMuli (src1 src2 : Operand) (dst : RegNum) (s : State) : Host.Outcome State Fault Refusal :=
  run 4 (binaryOverflow (fun a b => BitVec.ofInt 32 (productInt a b)) (fun a b => !fitsInt (productInt a b))
    src1 src2 dst) s

/-- `divo` (41_arithmetic R308). -/
def execDivo (src1 src2 : Operand) (dst : RegNum) (s : State) : Host.Outcome State Fault Refusal :=
  run 4 (divideBy false (fun a b => b / a) src1 src2 dst) s

/-- `divi` (41_arithmetic R309): the one quotient that overflows is -2^31 / -1. -/
def execDivi (src1 src2 : Operand) (dst : RegNum) (s : State) : Host.Outcome State Fault Refusal :=
  run 4 (do
    let t ← get
    let d ← divideBy true (fun a b => BitVec.ofInt 32 (quotientInt a b)) src1 src2 dst
    overflowIf (!fitsInt (quotientInt (operandValue src1 Site.src1 t) (operandValue src2 Site.src2 t)))
    pure d) s

/-- `remo` (41_arithmetic R310). -/
def execRemo (src1 src2 : Operand) (dst : RegNum) (s : State) : Host.Outcome State Fault Refusal :=
  run 4 (divideBy false (fun a b => b % a) src1 src2 dst) s

/-- `remi` (41_arithmetic R311). -/
def execRemi (src1 src2 : Operand) (dst : RegNum) (s : State) : Host.Outcome State Fault Refusal :=
  run 4 (divideBy false (fun a b => BitVec.ofInt 32 (remainderInt a b)) src1 src2 dst) s

/-- `modi` (41_arithmetic R312). -/
def execModi (src1 src2 : Operand) (dst : RegNum) (s : State) : Host.Outcome State Fault Refusal :=
  run 4 (divideBy true (fun a b => BitVec.ofInt 32 (moduloInt a b)) src1 src2 dst) s

/-- `emul` (41_arithmetic R313). -/
def execEmul (src1 src2 : Operand) (dst : RegNum) (s : State) : Host.Outcome State Fault Refusal :=
  run 4 (do
    if misaligned dst 2 then do
      setUndefined dst 2
      raise .invalidOperand
    else do
      checkDst dst 2
      let t ← get
      let p : BitVec 64 := (operandValue src1 Site.src1 t).zeroExtend 64 * (operandValue src2 Site.src2 t).zeroExtend 64
      set (t.setGroup dst 0 [.val (p.extractLsb' 0 32), .val (p.extractLsb' 32 32)])
      pure {}) s

/-- `ediv` (41_arithmetic R314). -/
def execEdiv (src1 src2 : Operand) (dst : RegNum) (s : State) : Host.Outcome State Fault Refusal :=
  run 4 (do
    let t ← get
    match pairValue src2 t, misaligned dst 2 with
    | some n, false => do
      checkDst dst 2
      let a := operandValue src1 Site.src1 t
      if a = 0 then do
        setUndefined dst 2
        raise .zeroDivide
      else if a.toNat ≤ n.toNat / 2 ^ 32 then do
        setUndefined dst 2
        pure {}
      else do
        set (t.setGroup dst 0 [.val (BitVec.ofNat 32 (n.toNat % a.toNat)), .val (BitVec.ofNat 32 (n.toNat / a.toNat))])
        pure {}
    | _, _ => do
      setUndefined dst 2
      raise .invalidOperand) s


end Sys2Proof.Machine
end

