-- ==== Sys2Proof/Machine/Atomic.lean ====
section
/-! DEFINITION. Atomic instructions: spec/47_atomic.md R570 to R574. -/

namespace Sys2Proof.Machine

/-- The word address of an atomic instruction (47 R571). -/
def atomicAddress (a : Word) : Word := a &&& 0xFFFFFFFC

/-- An atomic read and write of a word of memory: answers the old word (47 R570, R572, R573). The read is non-cacheable
(20_memory R117). -/
def atomicUpdate (a : Word) (f : Word → Word) : M Word := do
  checkProtected a 4
  checkRange a 4
  let s ← get
  let old := s.peek32 false a
  set (s.poke32 a (.val (f old)))
  pure old

/-- The same on a memory-mapped register (47 R571): the MMR fault model of a store; a Sysctl-RwG register reads as a free
value. -/
def atomicMmr (a : Word) (f : Word → Word) : M Word := do
  let r ← checkMmrStore a
  let s ← get
  let old := if r.sysctlOnly then Config.freeWord s.free Site.mmr else s.mmr r
  set ((s.afterMmrRead r).setMmr (f old) r)
  pure old

/-- `atadd` (47_atomic R572). -/
def execAtadd (src1 src2 : Operand) (dst : RegNum) (s : State) : Host.Outcome State Fault Refusal :=
  run 4 (do
    checkDst dst
    let t ← get
    let old ← atomicUpdate (atomicAddress (operandValue src1 Site.src1 t)) (fun v => v + operandValue src2 Site.src2 t)
    setDst dst old
    pure {}) s

/-- `atmod` (47_atomic R573). -/
def execAtmod (src1 src2 : Operand) (dst : RegNum) (s : State) : Host.Outcome State Fault Refusal :=
  run 4 (do
    checkDst dst
    let t ← get
    let a := atomicAddress (operandValue src1 Site.src1 t)
    let f := fun v => merge (operandValue src2 Site.src2 t) (t.src Site.srcDst dst) v
    let old ← if regionOf a = .mmr then atomicMmr a f else atomicUpdate a f
    setDst dst old
    pure {}) s


end Sys2Proof.Machine
end

