-- ==== Sys2Proof/Machine/Branch.lean ====
section
/-! DEFINITION. Branches: spec/44_branch.md R440 to R474. -/

namespace Sys2Proof.Machine

/-- `branch_ctrl()` and `branch_cobr()` (44 R440): the displacement is added to the address of the instruction. -/
def branchBy {n : Nat} (disp : BitVec n) : M Unit := modify (fun s => s.jump (s.ip + disp.signExtend 32))

/-- Branch when `b` holds, else go on (44 R441). -/
def branchIf {n : Nat} (b : Bool) (disp : BitVec n) : M Done :=
  if b then do
    branchBy disp
    pure branched
  else pure notTaken

/-- BRANCH<cc> (44 R451). -/
def branchCond (mask : BitVec 3) (disp : BitVec 24) : M Done := do
  let s ← get
  branchIf (cond mask s) disp

/-- Check a bit, set the condition code to its value, branch when it is `value` (44 R449, R450). -/
def branchBit (value : Bool) (src1 : Operand) (src2 : RegNum) (disp : BitVec 13) : M Done := do
  let s ← get
  let bit := (s.src Site.src2 src2 &&& (1 <<< ((operandValue src1 Site.src1 s).toNat % 32))) != 0
  set (s.setCc (truthCc bit))
  branchIf (bit == value) disp

/-- COMPARE AND BRANCH (44 R460). -/
def compareBranch (f : Word → Word → BitVec 3) (mask : BitVec 3) (src1 : Operand) (src2 : RegNum) (disp : BitVec 13) :
    M Done := do
  let s ← get
  let c := f (operandValue src1 Site.src1 s) (s.src Site.src2 src2)
  set (s.setCc c)
  branchIf (mask &&& c != 0) disp

/-- `b` (44_branch R445). -/
def execB (disp : BitVec 24) (s : State) : Host.Outcome State Fault Refusal :=
  run 4 (do
    branchBy disp
    pure branched) s

/-- `bx` (44_branch R446). -/
def execBx (targ : MemOperand) (s : State) : Host.Outcome State Fault Refusal :=
  run (memLength targ) (do
    modify (fun t => t.jump (efa targ t))
    pure branched) s

/-- `bal` (44_branch R447). -/
def execBal (disp : BitVec 24) (s : State) : Host.Outcome State Fault Refusal :=
  run 4 (do
    modify (fun t => t.setReg linkReg (t.ip + 4))
    branchBy disp
    pure branched) s

/-- `balx` (44_branch R448), the target being computed first (D17). -/
def execBalx (src : MemOperand) (dst : RegNum) (s : State) : Host.Outcome State Fault Refusal :=
  run (memLength src) (do
    checkDst dst
    modify (fun t => (t.setReg dst (t.ip + memLength src)).jump (efa src t))
    pure branched) s

/-- `bbc` (44_branch R449). -/
def execBbc (src1 : Operand) (src2 : RegNum) (disp : BitVec 13) (s : State) : Host.Outcome State Fault Refusal :=
  run 4 (branchBit false src1 src2 disp) s

/-- `bbs` (44_branch R450). -/
def execBbs (src1 : Operand) (src2 : RegNum) (disp : BitVec 13) (s : State) : Host.Outcome State Fault Refusal :=
  run 4 (branchBit true src1 src2 disp) s

/-- `bno` (44_branch R452). -/
def execBno (disp : BitVec 24) (s : State) : Host.Outcome State Fault Refusal :=
  run 4 (branchCond 0 disp) s

/-- `bg` (44_branch R453). -/
def execBg (disp : BitVec 24) (s : State) : Host.Outcome State Fault Refusal :=
  run 4 (branchCond 1 disp) s

/-- `be` (44_branch R454). -/
def execBe (disp : BitVec 24) (s : State) : Host.Outcome State Fault Refusal :=
  run 4 (branchCond 2 disp) s

/-- `bge` (44_branch R455). -/
def execBge (disp : BitVec 24) (s : State) : Host.Outcome State Fault Refusal :=
  run 4 (branchCond 3 disp) s

/-- `bl` (44_branch R456). -/
def execBl (disp : BitVec 24) (s : State) : Host.Outcome State Fault Refusal :=
  run 4 (branchCond 4 disp) s

/-- `bne` (44_branch R457). -/
def execBne (disp : BitVec 24) (s : State) : Host.Outcome State Fault Refusal :=
  run 4 (branchCond 5 disp) s

/-- `ble` (44_branch R458). -/
def execBle (disp : BitVec 24) (s : State) : Host.Outcome State Fault Refusal :=
  run 4 (branchCond 6 disp) s

/-- `bo` (44_branch R459). -/
def execBo (disp : BitVec 24) (s : State) : Host.Outcome State Fault Refusal :=
  run 4 (branchCond 7 disp) s

/-- `cmpobg` (44_branch R461). -/
def execCmpobg (src1 : Operand) (src2 : RegNum) (disp : BitVec 13) (s : State) : Host.Outcome State Fault Refusal :=
  run 4 (compareBranch (compareOrdinal 32) 1 src1 src2 disp) s

/-- `cmpobe` (44_branch R462). -/
def execCmpobe (src1 : Operand) (src2 : RegNum) (disp : BitVec 13) (s : State) : Host.Outcome State Fault Refusal :=
  run 4 (compareBranch (compareOrdinal 32) 2 src1 src2 disp) s

/-- `cmpobge` (44_branch R463). -/
def execCmpobge (src1 : Operand) (src2 : RegNum) (disp : BitVec 13) (s : State) : Host.Outcome State Fault Refusal :=
  run 4 (compareBranch (compareOrdinal 32) 3 src1 src2 disp) s

/-- `cmpobl` (44_branch R464). -/
def execCmpobl (src1 : Operand) (src2 : RegNum) (disp : BitVec 13) (s : State) : Host.Outcome State Fault Refusal :=
  run 4 (compareBranch (compareOrdinal 32) 4 src1 src2 disp) s

/-- `cmpobne` (44_branch R465). -/
def execCmpobne (src1 : Operand) (src2 : RegNum) (disp : BitVec 13) (s : State) : Host.Outcome State Fault Refusal :=
  run 4 (compareBranch (compareOrdinal 32) 5 src1 src2 disp) s

/-- `cmpoble` (44_branch R466). -/
def execCmpoble (src1 : Operand) (src2 : RegNum) (disp : BitVec 13) (s : State) : Host.Outcome State Fault Refusal :=
  run 4 (compareBranch (compareOrdinal 32) 6 src1 src2 disp) s

/-- `cmpibno` (44_branch R467). -/
def execCmpibno (src1 : Operand) (src2 : RegNum) (disp : BitVec 13) (s : State) : Host.Outcome State Fault Refusal :=
  run 4 (compareBranch (compareInteger 32) 0 src1 src2 disp) s

/-- `cmpibg` (44_branch R468). -/
def execCmpibg (src1 : Operand) (src2 : RegNum) (disp : BitVec 13) (s : State) : Host.Outcome State Fault Refusal :=
  run 4 (compareBranch (compareInteger 32) 1 src1 src2 disp) s

/-- `cmpibe` (44_branch R469). -/
def execCmpibe (src1 : Operand) (src2 : RegNum) (disp : BitVec 13) (s : State) : Host.Outcome State Fault Refusal :=
  run 4 (compareBranch (compareInteger 32) 2 src1 src2 disp) s

/-- `cmpibge` (44_branch R470). -/
def execCmpibge (src1 : Operand) (src2 : RegNum) (disp : BitVec 13) (s : State) : Host.Outcome State Fault Refusal :=
  run 4 (compareBranch (compareInteger 32) 3 src1 src2 disp) s

/-- `cmpibl` (44_branch R471). -/
def execCmpibl (src1 : Operand) (src2 : RegNum) (disp : BitVec 13) (s : State) : Host.Outcome State Fault Refusal :=
  run 4 (compareBranch (compareInteger 32) 4 src1 src2 disp) s

/-- `cmpibne` (44_branch R472). -/
def execCmpibne (src1 : Operand) (src2 : RegNum) (disp : BitVec 13) (s : State) : Host.Outcome State Fault Refusal :=
  run 4 (compareBranch (compareInteger 32) 5 src1 src2 disp) s

/-- `cmpible` (44_branch R473). -/
def execCmpible (src1 : Operand) (src2 : RegNum) (disp : BitVec 13) (s : State) : Host.Outcome State Fault Refusal :=
  run 4 (compareBranch (compareInteger 32) 6 src1 src2 disp) s

/-- `cmpibo` (44_branch R474). -/
def execCmpibo (src1 : Operand) (src2 : RegNum) (disp : BitVec 13) (s : State) : Host.Outcome State Fault Refusal :=
  run 4 (compareBranch (compareInteger 32) 7 src1 src2 disp) s


end Sys2Proof.Machine
end

