-- ==== Sys2Proof/Machine/Call.lean ====
section
/-! DEFINITION. Calls, returns and `flushreg`: spec/45_call_return.md R500 to R524. -/

namespace Sys2Proof.Machine

/-- The report of a call or return (60 R700). -/
def transferred (events : BitVec 8) : Done := { events := events, transfer := true, branch := true }

/-- The common action of `call` and `callx` (45 R520, R521). -/
def localCall (rip target : Word) : M Done := do
  let s ← get
  doCall (.val rip) target 0 (s.reg 1)
  pure (transferred evCall)

/-- A system procedure table entry of a `calls` (45 R512, R522). -/
def systemCall (entry : Word) : M Done := do
  let s ← get
  if entry.extractLsb' 0 2 = 0#2 then do
    doCall (.val (s.ip + 4)) entry 0 (s.reg 1)
    pure (transferred evCall)
  else if entry.extractLsb' 0 2 = 2#2 then do
    if s.supervisor then doCall (.val (s.ip + 4)) entry 0 (s.reg 1)
    else
      switchCall (pcSetTe (pcSetSupervisor s.pc true) (s.tables.ssp.getLsbD 0)) (.val (s.ip + 4)) entry
        (if pcTe s.pc then 3 else 2) (s.tables.ssp &&& 0xFFFFFFFC)
    pure (transferred (evCall ||| evSupervisor))
  else refuse .reservedSptEntry

/-- The return action that `PFP.rt` selects (45 R504, R523). The return from the frame of the NMI handler ends it (PRESUMED,
notes/assumptions/42.md), the low four bits of g15 being ignored (70_reset R749 c). -/
def returnBy (rt : BitVec 3) : M Done := do
  if rt = 0 then do
    returnToFrame
    pure (transferred evReturn)
  else if rt = 1 then do
    let pending ← handlerReturn
    pure { transferred evReturn with pendingTrace := pending }
  else if rt = 2 then do
    supervisorReturn false
    pure (transferred evReturn)
  else if rt = 3 then do
    supervisorReturn true
    pure (transferred evReturn)
  else if rt = 7 then do
    let s ← get
    let pending ← handlerReturn
    modify (fun t => if t.intr.nmiFrame = some s.fpAddress then t.withIntr { t.intr with nmiFrame := none } else t)
    pure { transferred evReturn with pendingTrace := pending, poll := true }
  else raise .unimplemented

/-- `call` (45_call_return R520). -/
def execCall (disp : BitVec 24) (s : State) : Host.Outcome State Fault Refusal :=
  run 4 (do
    let t ← get
    localCall (t.ip + 4) (t.ip + disp.signExtend 32)) s

/-- `callx` (45_call_return R521). -/
def execCallx (targ : MemOperand) (s : State) : Host.Outcome State Fault Refusal :=
  run (memLength targ) (do
    let t ← get
    localCall (t.ip + memLength targ) (efa targ t)) s

/-- `calls` (45_call_return R522). A system procedure table base that is not word aligned (R511) is used as it is
(DESIGN CHOICE, notes/assumptions/47.md). -/
def execCalls (src1 : Operand) (s : State) : Host.Outcome State Fault Refusal :=
  run 4 (do
    let t ← get
    let n := operandValue src1 Site.src1 t
    if 259 < n.toNat then raise .length
    else do
      let entry ← readImplicit true (t.tables.spt + 48 + 4 * n)
      systemCall entry) s

/-- `ret` (45_call_return R523). From the initial frame it is refused (70_reset R724, R730)
until r0 is written there or a call enters a frame at that address. It is not refused in a frame that software made current
by moving FP, once a call has returned there, although r0 was never written (DESIGN CHOICE, notes/assumptions/64.md). -/
def execRet (s : State) : Host.Outcome State Fault Refusal :=
  run 4 (do
    let t ← get
    if t.frames.pfpDirty then refuse .pfpDirty
    else if t.frames.unsetPfp = some t.frames.current then refuse .initialFrame
    else if (t.reg 0).getLsbD 3 && t.traceOn && tcMode t.traceModes evPrereturn then do
      set (t.withLocals (t.locals.set 0 (.val (t.reg 0 &&& ~~~8))))
      raise .prereturn
    else returnBy ((t.reg 0).extractLsb' 0 3)) s

/-- `flushreg` (45_call_return R524). -/
def execFlushreg (s : State) : Host.Outcome State Fault Refusal :=
  run 4 (do
    let t ← get
    spillAll t.frames.cache.length
    modify (fun u => u.withFrames { u.frames with pfpDirty := false })
    pure {}) s


end Sys2Proof.Machine
end

