-- ==== Sys2Proof/Machine/Compare.lean ====
section
/-! DEFINITION. Comparisons and condition tests: spec/43_compare_test.md R400 to R426. -/

namespace Sys2Proof.Machine

/-- Compare, then write src2 stepped by one (43 R412 to R415). -/
def compareStep (f : Word → Word → BitVec 3) (step : Word) (src1 src2 : Operand) (dst : RegNum) : M Done := do
  checkDst dst
  let s ← get
  let a := operandValue src1 Site.src1 s
  let b := operandValue src2 Site.src2 s
  set ((s.setReg dst (b + step)).setCc (f a b))
  pure {}

/-- Conditional compare (43 R416): only when `AC.cc[2]` is 0, and two-valued. -/
def compareIf (lessEqual : Word → Word → Bool) (src1 src2 : Operand) : M Done := do
  let s ← get
  if s.cc.getLsbD 2 then pure {}
  else compareOp (fun a b => if lessEqual a b then 2 else 1) src1 src2

/-- TEST<cc> (43 R418). -/
def testCond (mask : BitVec 3) (dst : RegNum) : M Done := do
  checkDst dst
  let s ← get
  setDst dst (if cond mask s then 1 else 0)
  pure {}

/-- `cmpo` (43_compare_test R406). -/
def execCmpo (src1 src2 : Operand) (s : State) : Host.Outcome State Fault Refusal :=
  run 4 (compareOp (compareOrdinal 32) src1 src2) s

/-- `cmpi` (43_compare_test R407). -/
def execCmpi (src1 src2 : Operand) (s : State) : Host.Outcome State Fault Refusal :=
  run 4 (compareOp (compareInteger 32) src1 src2) s

/-- `cmpob` (43_compare_test R408). -/
def execCmpob (src1 src2 : Operand) (s : State) : Host.Outcome State Fault Refusal :=
  run 4 (compareOp (compareOrdinal 8) src1 src2) s

/-- `cmpib` (43_compare_test R409). -/
def execCmpib (src1 src2 : Operand) (s : State) : Host.Outcome State Fault Refusal :=
  run 4 (compareOp (compareInteger 8) src1 src2) s

/-- `cmpos` (43_compare_test R410). -/
def execCmpos (src1 src2 : Operand) (s : State) : Host.Outcome State Fault Refusal :=
  run 4 (compareOp (compareOrdinal 16) src1 src2) s

/-- `cmpis` (43_compare_test R411). -/
def execCmpis (src1 src2 : Operand) (s : State) : Host.Outcome State Fault Refusal :=
  run 4 (compareOp (compareInteger 16) src1 src2) s

/-- `cmpdeco` (43_compare_test R412). -/
def execCmpdeco (src1 src2 : Operand) (dst : RegNum) (s : State) : Host.Outcome State Fault Refusal :=
  run 4 (compareStep (compareOrdinal 32) (BitVec.allOnes 32) src1 src2 dst) s

/-- `cmpdeci` (43_compare_test R413). -/
def execCmpdeci (src1 src2 : Operand) (dst : RegNum) (s : State) : Host.Outcome State Fault Refusal :=
  run 4 (compareStep (compareInteger 32) (BitVec.allOnes 32) src1 src2 dst) s

/-- `cmpinco` (43_compare_test R414). -/
def execCmpinco (src1 src2 : Operand) (dst : RegNum) (s : State) : Host.Outcome State Fault Refusal :=
  run 4 (compareStep (compareOrdinal 32) 1 src1 src2 dst) s

/-- `cmpinci` (43_compare_test R415). -/
def execCmpinci (src1 src2 : Operand) (dst : RegNum) (s : State) : Host.Outcome State Fault Refusal :=
  run 4 (compareStep (compareInteger 32) 1 src1 src2 dst) s

/-- `concmpo` (43_compare_test R416). -/
def execConcmpo (src1 src2 : Operand) (s : State) : Host.Outcome State Fault Refusal :=
  run 4 (compareIf (fun a b => decide (a.toNat ≤ b.toNat)) src1 src2) s

/-- `concmpi` (43_compare_test R417). -/
def execConcmpi (src1 src2 : Operand) (s : State) : Host.Outcome State Fault Refusal :=
  run 4 (compareIf (fun a b => decide (a.toInt ≤ b.toInt)) src1 src2) s

/-- `testno` (43_compare_test R419). -/
def execTestno (dst : RegNum) (s : State) : Host.Outcome State Fault Refusal :=
  run 4 (testCond 0 dst) s

/-- `testg` (43_compare_test R420). -/
def execTestg (dst : RegNum) (s : State) : Host.Outcome State Fault Refusal :=
  run 4 (testCond 1 dst) s

/-- `teste` (43_compare_test R421). -/
def execTeste (dst : RegNum) (s : State) : Host.Outcome State Fault Refusal :=
  run 4 (testCond 2 dst) s

/-- `testge` (43_compare_test R422). -/
def execTestge (dst : RegNum) (s : State) : Host.Outcome State Fault Refusal :=
  run 4 (testCond 3 dst) s

/-- `testl` (43_compare_test R423). -/
def execTestl (dst : RegNum) (s : State) : Host.Outcome State Fault Refusal :=
  run 4 (testCond 4 dst) s

/-- `testne` (43_compare_test R424). -/
def execTestne (dst : RegNum) (s : State) : Host.Outcome State Fault Refusal :=
  run 4 (testCond 5 dst) s

/-- `testle` (43_compare_test R425). -/
def execTestle (dst : RegNum) (s : State) : Host.Outcome State Fault Refusal :=
  run 4 (testCond 6 dst) s

/-- `testo` (43_compare_test R426). -/
def execTesto (dst : RegNum) (s : State) : Host.Outcome State Fault Refusal :=
  run 4 (testCond 7 dst) s


end Sys2Proof.Machine
end

