-- ==== Sys2Proof/Machine/Conditional.lean ====
section
/-! DEFINITION. The conditional classes SEL<cc>, ADD<cc> and SUB<cc>: spec/40_data_movement.md R230 to R238, spec/41_arithmetic.md R265 to R302. -/

namespace Sys2Proof.Machine

/-- SEL<cc> (40 R230): src2 if `cond(mask)`, else src1. -/
def select (mask : BitVec 3) (src1 src2 : Operand) (dst : RegNum) : M Done := do
  checkDst dst
  let s ← get
  setDst dst (if cond mask s then operandValue src2 Site.src2 s else operandValue src1 Site.src1 s)
  pure {}

/-- ADDO<cc> (41 R265). -/
def addOrdinalIf (mask : BitVec 3) (src1 src2 : Operand) (dst : RegNum) : M Done :=
  whenCond mask dst (binary (fun a b => a + b) src1 src2 dst)

/-- ADDI<cc> (41 R265). -/
def addIntegerIf (mask : BitVec 3) (src1 src2 : Operand) (dst : RegNum) : M Done :=
  whenCond mask dst (binaryOverflow (fun a b => a + b) addOverflows src1 src2 dst)

/-- SUBO<cc> (41 R286). -/
def subOrdinalIf (mask : BitVec 3) (src1 src2 : Operand) (dst : RegNum) : M Done :=
  whenCond mask dst (binary (fun a b => b - a) src1 src2 dst)

/-- SUBI<cc> (41 R286). -/
def subIntegerIf (mask : BitVec 3) (src1 src2 : Operand) (dst : RegNum) : M Done :=
  whenCond mask dst (binaryOverflow (fun a b => b - a) subOverflows src1 src2 dst)

/-- `selno` (40_data_movement R231). -/
def execSelno (src1 src2 : Operand) (dst : RegNum) (s : State) : Host.Outcome State Fault Refusal :=
  run 4 (select 0 src1 src2 dst) s

/-- `selg` (40_data_movement R232). -/
def execSelg (src1 src2 : Operand) (dst : RegNum) (s : State) : Host.Outcome State Fault Refusal :=
  run 4 (select 1 src1 src2 dst) s

/-- `sele` (40_data_movement R233). -/
def execSele (src1 src2 : Operand) (dst : RegNum) (s : State) : Host.Outcome State Fault Refusal :=
  run 4 (select 2 src1 src2 dst) s

/-- `selge` (40_data_movement R234). -/
def execSelge (src1 src2 : Operand) (dst : RegNum) (s : State) : Host.Outcome State Fault Refusal :=
  run 4 (select 3 src1 src2 dst) s

/-- `sell` (40_data_movement R235). -/
def execSell (src1 src2 : Operand) (dst : RegNum) (s : State) : Host.Outcome State Fault Refusal :=
  run 4 (select 4 src1 src2 dst) s

/-- `selne` (40_data_movement R236). -/
def execSelne (src1 src2 : Operand) (dst : RegNum) (s : State) : Host.Outcome State Fault Refusal :=
  run 4 (select 5 src1 src2 dst) s

/-- `selle` (40_data_movement R237). -/
def execSelle (src1 src2 : Operand) (dst : RegNum) (s : State) : Host.Outcome State Fault Refusal :=
  run 4 (select 6 src1 src2 dst) s

/-- `selo` (40_data_movement R238). -/
def execSelo (src1 src2 : Operand) (dst : RegNum) (s : State) : Host.Outcome State Fault Refusal :=
  run 4 (select 7 src1 src2 dst) s

/-- `addono` (41_arithmetic R266). -/
def execAddono (src1 src2 : Operand) (dst : RegNum) (s : State) : Host.Outcome State Fault Refusal :=
  run 4 (addOrdinalIf 0 src1 src2 dst) s

/-- `addog` (41_arithmetic R267). -/
def execAddog (src1 src2 : Operand) (dst : RegNum) (s : State) : Host.Outcome State Fault Refusal :=
  run 4 (addOrdinalIf 1 src1 src2 dst) s

/-- `addoe` (41_arithmetic R268). -/
def execAddoe (src1 src2 : Operand) (dst : RegNum) (s : State) : Host.Outcome State Fault Refusal :=
  run 4 (addOrdinalIf 2 src1 src2 dst) s

/-- `addoge` (41_arithmetic R269). -/
def execAddoge (src1 src2 : Operand) (dst : RegNum) (s : State) : Host.Outcome State Fault Refusal :=
  run 4 (addOrdinalIf 3 src1 src2 dst) s

/-- `addol` (41_arithmetic R270). -/
def execAddol (src1 src2 : Operand) (dst : RegNum) (s : State) : Host.Outcome State Fault Refusal :=
  run 4 (addOrdinalIf 4 src1 src2 dst) s

/-- `addone` (41_arithmetic R271). -/
def execAddone (src1 src2 : Operand) (dst : RegNum) (s : State) : Host.Outcome State Fault Refusal :=
  run 4 (addOrdinalIf 5 src1 src2 dst) s

/-- `addole` (41_arithmetic R272). -/
def execAddole (src1 src2 : Operand) (dst : RegNum) (s : State) : Host.Outcome State Fault Refusal :=
  run 4 (addOrdinalIf 6 src1 src2 dst) s

/-- `addoo` (41_arithmetic R273). -/
def execAddoo (src1 src2 : Operand) (dst : RegNum) (s : State) : Host.Outcome State Fault Refusal :=
  run 4 (addOrdinalIf 7 src1 src2 dst) s

/-- `addino` (41_arithmetic R274). -/
def execAddino (src1 src2 : Operand) (dst : RegNum) (s : State) : Host.Outcome State Fault Refusal :=
  run 4 (addIntegerIf 0 src1 src2 dst) s

/-- `addig` (41_arithmetic R275). -/
def execAddig (src1 src2 : Operand) (dst : RegNum) (s : State) : Host.Outcome State Fault Refusal :=
  run 4 (addIntegerIf 1 src1 src2 dst) s

/-- `addie` (41_arithmetic R276). -/
def execAddie (src1 src2 : Operand) (dst : RegNum) (s : State) : Host.Outcome State Fault Refusal :=
  run 4 (addIntegerIf 2 src1 src2 dst) s

/-- `addige` (41_arithmetic R277). -/
def execAddige (src1 src2 : Operand) (dst : RegNum) (s : State) : Host.Outcome State Fault Refusal :=
  run 4 (addIntegerIf 3 src1 src2 dst) s

/-- `addil` (41_arithmetic R278). -/
def execAddil (src1 src2 : Operand) (dst : RegNum) (s : State) : Host.Outcome State Fault Refusal :=
  run 4 (addIntegerIf 4 src1 src2 dst) s

/-- `addine` (41_arithmetic R279). -/
def execAddine (src1 src2 : Operand) (dst : RegNum) (s : State) : Host.Outcome State Fault Refusal :=
  run 4 (addIntegerIf 5 src1 src2 dst) s

/-- `addile` (41_arithmetic R280). -/
def execAddile (src1 src2 : Operand) (dst : RegNum) (s : State) : Host.Outcome State Fault Refusal :=
  run 4 (addIntegerIf 6 src1 src2 dst) s

/-- `addio` (41_arithmetic R281). -/
def execAddio (src1 src2 : Operand) (dst : RegNum) (s : State) : Host.Outcome State Fault Refusal :=
  run 4 (addIntegerIf 7 src1 src2 dst) s

/-- `subono` (41_arithmetic R287). -/
def execSubono (src1 src2 : Operand) (dst : RegNum) (s : State) : Host.Outcome State Fault Refusal :=
  run 4 (subOrdinalIf 0 src1 src2 dst) s

/-- `subog` (41_arithmetic R288). -/
def execSubog (src1 src2 : Operand) (dst : RegNum) (s : State) : Host.Outcome State Fault Refusal :=
  run 4 (subOrdinalIf 1 src1 src2 dst) s

/-- `suboe` (41_arithmetic R289). -/
def execSuboe (src1 src2 : Operand) (dst : RegNum) (s : State) : Host.Outcome State Fault Refusal :=
  run 4 (subOrdinalIf 2 src1 src2 dst) s

/-- `suboge` (41_arithmetic R290). -/
def execSuboge (src1 src2 : Operand) (dst : RegNum) (s : State) : Host.Outcome State Fault Refusal :=
  run 4 (subOrdinalIf 3 src1 src2 dst) s

/-- `subol` (41_arithmetic R291). -/
def execSubol (src1 src2 : Operand) (dst : RegNum) (s : State) : Host.Outcome State Fault Refusal :=
  run 4 (subOrdinalIf 4 src1 src2 dst) s

/-- `subone` (41_arithmetic R292). -/
def execSubone (src1 src2 : Operand) (dst : RegNum) (s : State) : Host.Outcome State Fault Refusal :=
  run 4 (subOrdinalIf 5 src1 src2 dst) s

/-- `subole` (41_arithmetic R293). -/
def execSubole (src1 src2 : Operand) (dst : RegNum) (s : State) : Host.Outcome State Fault Refusal :=
  run 4 (subOrdinalIf 6 src1 src2 dst) s

/-- `suboo` (41_arithmetic R294). -/
def execSuboo (src1 src2 : Operand) (dst : RegNum) (s : State) : Host.Outcome State Fault Refusal :=
  run 4 (subOrdinalIf 7 src1 src2 dst) s

/-- `subino` (41_arithmetic R295). -/
def execSubino (src1 src2 : Operand) (dst : RegNum) (s : State) : Host.Outcome State Fault Refusal :=
  run 4 (subIntegerIf 0 src1 src2 dst) s

/-- `subig` (41_arithmetic R296). -/
def execSubig (src1 src2 : Operand) (dst : RegNum) (s : State) : Host.Outcome State Fault Refusal :=
  run 4 (subIntegerIf 1 src1 src2 dst) s

/-- `subie` (41_arithmetic R297). -/
def execSubie (src1 src2 : Operand) (dst : RegNum) (s : State) : Host.Outcome State Fault Refusal :=
  run 4 (subIntegerIf 2 src1 src2 dst) s

/-- `subige` (41_arithmetic R298). -/
def execSubige (src1 src2 : Operand) (dst : RegNum) (s : State) : Host.Outcome State Fault Refusal :=
  run 4 (subIntegerIf 3 src1 src2 dst) s

/-- `subil` (41_arithmetic R299). -/
def execSubil (src1 src2 : Operand) (dst : RegNum) (s : State) : Host.Outcome State Fault Refusal :=
  run 4 (subIntegerIf 4 src1 src2 dst) s

/-- `subine` (41_arithmetic R300). -/
def execSubine (src1 src2 : Operand) (dst : RegNum) (s : State) : Host.Outcome State Fault Refusal :=
  run 4 (subIntegerIf 5 src1 src2 dst) s

/-- `subile` (41_arithmetic R301). -/
def execSubile (src1 src2 : Operand) (dst : RegNum) (s : State) : Host.Outcome State Fault Refusal :=
  run 4 (subIntegerIf 6 src1 src2 dst) s

/-- `subio` (41_arithmetic R302). -/
def execSubio (src1 src2 : Operand) (dst : RegNum) (s : State) : Host.Outcome State Fault Refusal :=
  run 4 (subIntegerIf 7 src1 src2 dst) s


end Sys2Proof.Machine
end

