-- ==== Sys2Proof/Machine/Debug.lean ====
section
/-! DEFINITION. Conditional faults, marks and `syncf`: spec/46_fault_debug.md R540 to R552. -/

namespace Sys2Proof.Machine

/-- FAULT<cc> (46 R541). -/
def faultCond (mask : BitVec 3) : M Done := do
  let s ← get
  if cond mask s then raise .range else pure {}

/-- `faultno` (46_fault_debug R542). -/
def execFaultno (s : State) : Host.Outcome State Fault Refusal :=
  run 4 (faultCond 0) s

/-- `faultg` (46_fault_debug R543). -/
def execFaultg (s : State) : Host.Outcome State Fault Refusal :=
  run 4 (faultCond 1) s

/-- `faulte` (46_fault_debug R544). -/
def execFaulte (s : State) : Host.Outcome State Fault Refusal :=
  run 4 (faultCond 2) s

/-- `faultge` (46_fault_debug R545). -/
def execFaultge (s : State) : Host.Outcome State Fault Refusal :=
  run 4 (faultCond 3) s

/-- `faultl` (46_fault_debug R546). -/
def execFaultl (s : State) : Host.Outcome State Fault Refusal :=
  run 4 (faultCond 4) s

/-- `faultne` (46_fault_debug R547). -/
def execFaultne (s : State) : Host.Outcome State Fault Refusal :=
  run 4 (faultCond 5) s

/-- `faultle` (46_fault_debug R548). -/
def execFaultle (s : State) : Host.Outcome State Fault Refusal :=
  run 4 (faultCond 6) s

/-- `faulto` (46_fault_debug R549). -/
def execFaulto (s : State) : Host.Outcome State Fault Refusal :=
  run 4 (faultCond 7) s

/-- `mark` (46_fault_debug R550): a trace event, or nothing where mark tracing is off. -/
def execMark (s : State) : Host.Outcome State Fault Refusal :=
  run 4 (pure { events := evMark }) s

/-- `fmark` (46_fault_debug R551): a trace event whatever the mark mode. -/
def execFmark (s : State) : Host.Outcome State Fault Refusal :=
  run 4 (pure { forceMark := true }) s

/-- `syncf` (46_fault_debug R552): every fault is precise, so there is nothing to wait for (D8). -/
def execSyncf (s : State) : Host.Outcome State Fault Refusal :=
  run 4 (pure {}) s


end Sys2Proof.Machine
end

