-- ==== Sys2Proof/Machine/Load.lean ====
section
/-! DEFINITION. Loads and `lda`: spec/40_data_movement.md R200 to R213. -/

namespace Sys2Proof.Machine

/-- A load of `n` bytes that widens one item (40 R202, R203): `read` makes the register's value from the address. -/
def loadItem (n bits : Nat) (read : State → Word → Word) (src : MemOperand) (dst : RegNum) : M Done := do
  checkDst dst
  let s ← get
  let a := efa src s
  checkLoad a n
  setDst dst (read s a)
  unalignedTrap a bits
  pure {}

/-- The words at consecutive addresses, as slots. -/
def State.peekWords (s : State) (a : Word) : Nat → List Slot
  | 0 => []
  | n + 1 => .val (s.peek32 true a) :: s.peekWords (a + 4) n

/-- A load of `count` words into a register group (40 R201, R202). -/
def loadGroup (count alignment bits : Nat) (src : MemOperand) (dst : RegNum) : M Done := do
  if misaligned dst alignment then raise .invalidOperand
  checkDst dst count
  let s ← get
  let a := efa src s
  checkLoad a (4 * count)
  set (s.setGroup dst 0 (s.peekWords a count))
  unalignedTrap a bits
  pure {}

/-- `ld` (40_data_movement R205). -/
def execLd (src : MemOperand) (dst : RegNum) (s : State) : Host.Outcome State Fault Refusal :=
  run (memLength src) (do
    checkDst dst
    let t ← get
    let a := efa src t
    let v ← loadWord a
    setDst dst v
    unalignedTrap a 2
    pure {}) s

/-- `ldob` (40_data_movement R206). -/
def execLdob (src : MemOperand) (dst : RegNum) (s : State) : Host.Outcome State Fault Refusal :=
  run (memLength src) (loadItem 1 0 (fun t a => (t.peek8 true a).zeroExtend 32) src dst) s

/-- `ldos` (40_data_movement R207). -/
def execLdos (src : MemOperand) (dst : RegNum) (s : State) : Host.Outcome State Fault Refusal :=
  run (memLength src) (loadItem 2 1 (fun t a => (t.peek16 true a).zeroExtend 32) src dst) s

/-- `ldib` (40_data_movement R208). -/
def execLdib (src : MemOperand) (dst : RegNum) (s : State) : Host.Outcome State Fault Refusal :=
  run (memLength src) (loadItem 1 0 (fun t a => (t.peek8 true a).signExtend 32) src dst) s

/-- `ldis` (40_data_movement R209). -/
def execLdis (src : MemOperand) (dst : RegNum) (s : State) : Host.Outcome State Fault Refusal :=
  run (memLength src) (loadItem 2 1 (fun t a => (t.peek16 true a).signExtend 32) src dst) s

/-- `ldl` (40_data_movement R210). -/
def execLdl (src : MemOperand) (dst : RegNum) (s : State) : Host.Outcome State Fault Refusal :=
  run (memLength src) (loadGroup 2 2 3 src dst) s

/-- `ldt` (40_data_movement R211). -/
def execLdt (src : MemOperand) (dst : RegNum) (s : State) : Host.Outcome State Fault Refusal :=
  run (memLength src) (loadGroup 3 4 4 src dst) s

/-- `ldq` (40_data_movement R212). -/
def execLdq (src : MemOperand) (dst : RegNum) (s : State) : Host.Outcome State Fault Refusal :=
  run (memLength src) (loadGroup 4 4 4 src dst) s

/-- `lda` (40_data_movement R213). -/
def execLda (src : MemOperand) (dst : RegNum) (s : State) : Host.Outcome State Fault Refusal :=
  run (memLength src) (do
    checkDst dst
    modify (fun t => t.setReg dst (efa src t))
    pure {}) s


end Sys2Proof.Machine
end

