-- ==== Sys2Proof/Machine/Logical.lean ====
section
/-! DEFINITION. Logical, bit, bit-field and byte instructions: spec/42_logical_bit_byte.md R350 to R374. -/

namespace Sys2Proof.Machine

/-- The bit that a bit-number operand selects: its low five bits (42 R351). -/
def bitOf (n : Word) : Word := 1 <<< (n.toNat % 32)

/-- An action on one operand: `dst <- f src1`. -/
def unary (f : Word → Word) (src1 : Operand) (dst : RegNum) : M Done := do
  checkDst dst
  let s ← get
  setDst dst (f (operandValue src1 Site.src1 s))
  pure {}

/-- The result and the condition code of a bit scan (42 R369, R372): the number of the top 1 bit of `v`. -/
def scan (v : Word) : Word × BitVec 3 :=
  match topBit v 32 with
  | some i => (BitVec.ofNat 32 i, 2)
  | none => (BitVec.allOnes 32, 0)

/-- A scan of `f src1` into dst and `AC.cc`. -/
def scanInto (f : Word → Word) (src1 : Operand) (dst : RegNum) : M Done := do
  checkDst dst
  let s ← get
  let r := scan (f (operandValue src1 Site.src1 s))
  set ((s.setReg dst r.1).setCc r.2)
  pure {}

/-- The mask of `extract`: `len` low ones, computed without truncation (42 R359). -/
def lowOnes (len : Word) : Word := BitVec.ofNat 32 (2 ^ (min len.toNat 32) - 1)

/-- Whether two words agree in some byte (42 R370). -/
def someByteEqual (a b : Word) : Bool :=
  byteLane a 0 == byteLane b 0 || byteLane a 1 == byteLane b 1 || byteLane a 2 == byteLane b 2 ||
    byteLane a 3 == byteLane b 3

/-- `alterbit` (42_logical_bit_byte R353). -/
def execAlterbit (src1 src2 : Operand) (dst : RegNum) (s : State) : Host.Outcome State Fault Refusal :=
  run 4 (do
    checkDst dst
    let t ← get
    let bit := bitOf (operandValue src1 Site.src1 t)
    let v := operandValue src2 Site.src2 t
    setDst dst (if t.cc.getLsbD 1 then v ||| bit else v &&& ~~~bit)
    pure {}) s

/-- `and` (42_logical_bit_byte R354). -/
def execAnd (src1 src2 : Operand) (dst : RegNum) (s : State) : Host.Outcome State Fault Refusal :=
  run 4 (binary (fun a b => b &&& a) src1 src2 dst) s

/-- `andnot` (42_logical_bit_byte R355). -/
def execAndnot (src1 src2 : Operand) (dst : RegNum) (s : State) : Host.Outcome State Fault Refusal :=
  run 4 (binary (fun a b => b &&& ~~~a) src1 src2 dst) s

/-- `clrbit` (42_logical_bit_byte R358). -/
def execClrbit (src1 src2 : Operand) (dst : RegNum) (s : State) : Host.Outcome State Fault Refusal :=
  run 4 (binary (fun a b => b &&& ~~~bitOf a) src1 src2 dst) s

/-- `nand` (42_logical_bit_byte R361). -/
def execNand (src1 src2 : Operand) (dst : RegNum) (s : State) : Host.Outcome State Fault Refusal :=
  run 4 (binary (fun a b => ~~~b ||| ~~~a) src1 src2 dst) s

/-- `nor` (42_logical_bit_byte R362). -/
def execNor (src1 src2 : Operand) (dst : RegNum) (s : State) : Host.Outcome State Fault Refusal :=
  run 4 (binary (fun a b => ~~~b &&& ~~~a) src1 src2 dst) s

/-- `notand` (42_logical_bit_byte R364). -/
def execNotand (src1 src2 : Operand) (dst : RegNum) (s : State) : Host.Outcome State Fault Refusal :=
  run 4 (binary (fun a b => ~~~b &&& a) src1 src2 dst) s

/-- `notbit` (42_logical_bit_byte R365). -/
def execNotbit (src1 src2 : Operand) (dst : RegNum) (s : State) : Host.Outcome State Fault Refusal :=
  run 4 (binary (fun a b => b ^^^ bitOf a) src1 src2 dst) s

/-- `notor` (42_logical_bit_byte R366). -/
def execNotor (src1 src2 : Operand) (dst : RegNum) (s : State) : Host.Outcome State Fault Refusal :=
  run 4 (binary (fun a b => ~~~b ||| a) src1 src2 dst) s

/-- `or` (42_logical_bit_byte R367). -/
def execOr (src1 src2 : Operand) (dst : RegNum) (s : State) : Host.Outcome State Fault Refusal :=
  run 4 (binary (fun a b => b ||| a) src1 src2 dst) s

/-- `ornot` (42_logical_bit_byte R368). -/
def execOrnot (src1 src2 : Operand) (dst : RegNum) (s : State) : Host.Outcome State Fault Refusal :=
  run 4 (binary (fun a b => b ||| ~~~a) src1 src2 dst) s

/-- `setbit` (42_logical_bit_byte R371). -/
def execSetbit (src1 src2 : Operand) (dst : RegNum) (s : State) : Host.Outcome State Fault Refusal :=
  run 4 (binary (fun a b => b ||| bitOf a) src1 src2 dst) s

/-- `xnor` (42_logical_bit_byte R373). -/
def execXnor (src1 src2 : Operand) (dst : RegNum) (s : State) : Host.Outcome State Fault Refusal :=
  run 4 (binary (fun a b => ~~~(b ||| a) ||| (b &&& a)) src1 src2 dst) s

/-- `xor` (42_logical_bit_byte R374). -/
def execXor (src1 src2 : Operand) (dst : RegNum) (s : State) : Host.Outcome State Fault Refusal :=
  run 4 (binary (fun a b => (b ||| a) &&& ~~~(b &&& a)) src1 src2 dst) s

/-- `bswap` (42_logical_bit_byte R356). -/
def execBswap (src1 : Operand) (dst : RegNum) (s : State) : Host.Outcome State Fault Refusal :=
  run 4 (unary (fun a => byteLane a 0 ++ byteLane a 1 ++ byteLane a 2 ++ byteLane a 3) src1 dst) s

/-- `not` (42_logical_bit_byte R363). -/
def execNot (src1 : Operand) (dst : RegNum) (s : State) : Host.Outcome State Fault Refusal :=
  run 4 (unary (fun a => ~~~a) src1 dst) s

/-- `chkbit` (42_logical_bit_byte R357). -/
def execChkbit (src1 src2 : Operand) (s : State) : Host.Outcome State Fault Refusal :=
  run 4 (compareOp (fun a b => truthCc (b &&& bitOf a != 0)) src1 src2) s

/-- `scanbyte` (42_logical_bit_byte R370). -/
def execScanbyte (src1 src2 : Operand) (s : State) : Host.Outcome State Fault Refusal :=
  run 4 (compareOp (fun a b => truthCc (someByteEqual a b)) src1 src2) s

/-- `scanbit` (42_logical_bit_byte R369). -/
def execScanbit (src1 : Operand) (dst : RegNum) (s : State) : Host.Outcome State Fault Refusal :=
  run 4 (scanInto (fun a => a) src1 dst) s

/-- `spanbit` (42_logical_bit_byte R372). -/
def execSpanbit (src1 : Operand) (dst : RegNum) (s : State) : Host.Outcome State Fault Refusal :=
  run 4 (scanInto (fun a => ~~~a) src1 dst) s

/-- `extract` (42_logical_bit_byte R359). -/
def execExtract (src1 src2 : Operand) (dst : RegNum) (s : State) : Host.Outcome State Fault Refusal :=
  run 4 (do
    checkDst dst
    let t ← get
    setDst dst ((t.src Site.srcDst dst >>> ((operandValue src1 Site.src1 t).toNat % 32)) &&&
      lowOnes (operandValue src2 Site.src2 t))
    pure {}) s

/-- `modify` (42_logical_bit_byte R360). -/
def execModify (src1 src2 : Operand) (dst : RegNum) (s : State) : Host.Outcome State Fault Refusal :=
  run 4 (do
    checkDst dst
    let t ← get
    setDst dst (merge (operandValue src1 Site.src1 t) (operandValue src2 Site.src2 t) (t.src Site.srcDst dst))
    pure {}) s


end Sys2Proof.Machine
end

