-- ==== Sys2Proof/Machine/Management.lean ====
section
/-! DEFINITION. Processor management: spec/48_processor_management.md R580 to R614. -/

namespace Sys2Proof.Machine

/-- A supervisor-only instruction in user mode raises TYPE.MISMATCH (48 R580). -/
def requireSupervisor : M Unit := do
  let s ← get
  if s.supervisor then pure () else raise .mismatch

/-- `global_interrupt_enable` (48 R583): ICON.gie (bit 10) is 0. -/
def State.interruptsEnabled (s : State) : Bool := !s.intr.icon.getLsbD 10

/-- Write `global_interrupt_enable` (48 R583). -/
def State.enableInterrupts (s : State) (b : Bool) : State :=
  s.withIntr { s.intr with icon := merge 0x400 (if b then 0 else 0x400) s.intr.icon }

/-- The status word of a cache (48 R589, R597): the enable bit, then the logarithms of the bytes of a word, the words of a
line and the sets, then the ways less one. -/
def cacheStatus (log2Sets ways : Nat) (enabled : Bool) : Word :=
  (if enabled then 1 else 0) ||| (2 <<< 4) ||| (BitVec.ofNat 32 Config.cacheLineLog2Words <<< 8) |||
    (BitVec.ofNat 32 log2Sets <<< 12) ||| (BitVec.ofNat 32 (ways - 1) <<< 16)

/-- The words of one cache set in a dump (48 R590, R599): Set_Data, then per way a tag, the valid bits (bits 4:0, the rest
read as zero) and four data words; what the spec leaves to the implementation is a free value (U23, log 25). -/
def dumpSet (draw : Nat) (setData : Slot) (ways set : Nat) : List Slot :=
  setData :: (List.range ways).flatMap (fun w =>
    let site := fun k => Site.dump (32 * set + 8 * w + k)
    [.free draw (site 1), .val (Config.freeWord draw (site 2) &&& 0x1F)] ++
      (List.range 4).map (fun k => Slot.free draw (site (3 + k))))

/-- Ordinary word stores at rising addresses. -/
def storeWords (a : Word) : List Slot → M Unit
  | [] => pure ()
  | v :: rest => do
    storeWord a v
    storeWords (a + 4) rest

/-- The store-sets function of `dcctl` and `icctl` (48 R590, R599): `sets` is the number of sets, `range` the operand with
the set numbers. -/
def dumpCache (sets ways : Nat) (setData : Nat → Nat → Slot) (range addr : Word) : M Unit := do
  let s ← get
  let first := (range.extractLsb' 0 16).toNat
  let last := min (range.extractLsb' 16 16).toNat (sets - 1)
  if last < first then raise .invalidOperand
  else if addr.extractLsb' 0 2 ≠ 0#2 then raise .invalidOperand
  else
    storeWords addr <|
      ((List.range' first (last + 1 - first)).flatMap (fun k => dumpSet s.free (setData s.free k) ways k))

/-- Invalidate and unlock the instruction cache (48 R595, R608). -/
def State.purgeICache (s : State) : State :=
  let t := s.invalidateICache 4
  t.withCache { t.cache with instrLocked := false }

/-- Load and lock `count` ways, 0 or 1 (48 R596, R609): the code read must exist (D13). Code in internal data RAM or MMR
space, of which the rules say nothing, is locked as well (notes/assumptions/47.md). -/
def loadAndLock (addr : Word) (count : Nat) : M Unit := do
  modify State.purgeICache
  let s ← get
  if count = 0 then pure ()
  else match s.absentIn (addr &&& 0xFFFFFFF0) (4 * s.plat.part.lockWords) with
    | some b => stopFault (.absentMemory b)
    | none => set (s.withCache { s.cache with instrLocked := true })

/-- TC as software reads it: every bit outside 7:1 reads as a free value (10_state R50, log 14). -/
def State.tcRead (s : State) : Word := merge 0xFE s.tc (Config.freeWord s.free Site.tcBits)

/-- The window that a `modpc` opens when it changes `te` (70_reset R745): this instruction and the next four. -/
def State.openTeWindow (s : State) : State :=
  s.withTrace { s.trace with
    teWindow := 5
    teOld := if 0 < s.trace.teWindow ∧ Config.freeBool s.free Site.teKept then s.trace.teOld else pcTe s.pc }

/-- The window that a `modtc` opens when it changes a mode (70_reset R746). -/
def State.openTcWindow (s : State) : State :=
  s.withTrace { s.trace with
    tcWindow := 5
    tcOld := if 0 < s.trace.tcWindow ∧ Config.freeBool s.free Site.tcKept then s.trace.tcOld else s.tc }

/-- Set one bit of a byte of the interrupt table (48 R607): a data access of one byte, with the faults of one (20_memory
R87, R93, R97). -/
def postByte (a : Word) (bit : Byte) : M Unit := do
  checkLoad a 1
  checkProtected a 1
  modify (fun s => s.poke8 a (.val (s.peek8 false a ||| bit)))

/-- `sysctl` message 0 (48 R607): post a software interrupt in the interrupt table, or only rescan for priority 0. Its
accesses are data accesses and fault as those do: TYPE.MISMATCH where the table lies in protected internal RAM (20_memory
R87), the byte of the vector staying as stored where only the word is protected (60_exceptions R640;
notes/assumptions/67.md). -/
def postSoftware (vector : Byte) : M Unit := do
  let s ← get
  let base := s.tables.interrupt
  let p := vectorPriority vector
  let pend ← readWord false base
  if p ≠ 0 then
    postByte (base + 4 + p.zeroExtend 32) ((bitWord (vector.extractLsb' 0 3).toNat).setWidth 8)
  let pend' := if p = 0 then pend else pend ||| bitWord p.toNat
  storeWord base (.val pend')
  modify (fun t => t.withIntr { t.intr with swPriority := topPriority pend' })

/-- `sysctl` message 2 (48 R609): a load and lock leaves the cache enabled or disabled as it was. -/
def configureICache (mode : Byte) (addr : Word) : M Unit :=
  if mode.getLsbD 0 then modify (fun s => s.withCache { s.cache with instrEnabled := false })
  else if mode = 0 then modify (fun s => s.withCache { s.cache with instrEnabled := true })
  else if mode = 4 ∨ mode = 6 then loadAndLock addr 1
  else raise .invalidOperand

/-- `sysctl` message 5 (48 R612): answers the old word. -/
def modifyMmr (addr value mask : Word) : M Word := do
  let r ← checkMmrStore addr
  let s ← get
  let old := s.mmr r
  set ((s.afterMmrRead r).setMmr (merge mask value old) r)
  pure old

/-- `dcctl` (48_processor_management R585). -/
def execDcctl (src1 src2 : Operand) (dst : RegNum) (s : State) : Host.Outcome State Fault Refusal :=
  run 4 (do
    requireSupervisor
    let t ← get
    let f := (operandValue src1 Site.src1 t).setWidth 8
    if f = 0 then do
      set (t.withCache { t.cache with dataEnabled := false })
      pure {}
    else if f = 1 then do
      set (t.withCache { t.cache with dataEnabled := true })
      pure {}
    else if f = 2 ∨ f = 3 then do
      set t.invalidateDCache
      pure {}
    else if f = 4 then do
      checkDst dst
      setDst dst (cacheStatus t.plat.part.dcacheLog2Lines Config.dcacheWays t.cache.dataEnabled)
      pure {}
    else if f = 6 then do
      dumpCache (2 ^ t.plat.part.dcacheLog2Lines) Config.dcacheWays (fun draw k => .free draw (Site.dump (32 * k)))
        (t.src Site.srcDst dst) (operandValue src2 Site.src2 t)
      pure {}
    else raise .invalidOperand) s

/-- `halt` (48_processor_management R592). -/
def execHalt (src1 : Operand) (s : State) : Host.Outcome State Fault Refusal :=
  run 4 (do
    requireSupervisor
    let t ← get
    let v := operandValue src1 Site.src1 t
    if 2 < v.toNat then raise .invalidOperand
    else do
      let u := if v = 0 then t.enableInterrupts false else if v = 1 then t.enableInterrupts true else t
      set (u.withIntr { u.intr with halted := true })
      pure {}) s

/-- `icctl` (48_processor_management R593). A load and lock of more than one block changes nothing before its fault
(notes/assumptions/50.md). -/
def execIcctl (src1 src2 : Operand) (dst : RegNum) (s : State) : Host.Outcome State Fault Refusal :=
  run 4 (do
    requireSupervisor
    let t ← get
    let f := (operandValue src1 Site.src1 t).setWidth 8
    if f = 0 then do
      set (t.withCache { t.cache with instrEnabled := false })
      pure {}
    else if f = 1 then do
      set (t.withCache { t.cache with instrEnabled := true })
      pure {}
    else if f = 2 then do
      set t.purgeICache
      pure {}
    else if f = 3 then do
      let count := t.src Site.srcDst dst
      if 1 < count.toNat then raise .invalidOperand
      else do
        loadAndLock (operandValue src2 Site.src2 t) count.toNat
        pure {}
    else if f = 4 then do
      checkDst dst
      setDst dst (cacheStatus t.plat.part.icacheLog2Sets Config.icacheWays t.cache.instrEnabled)
      pure {}
    else if f = 5 then do
      checkDst dst
      setDst dst (1 ||| (BitVec.ofNat 32 t.plat.part.lockWords <<< 8) ||| (if t.cache.instrLocked then 0x01000000 else 0))
      pure {}
    else if f = 6 then do
      dumpCache (2 ^ t.plat.part.icacheLog2Sets) Config.icacheWays
        (fun draw k => .val (Config.freeWord draw (Site.dump (32 * k)) &&& 1)) (t.src Site.srcDst dst) (operandValue src2 Site.src2 t)
      pure {}
    else raise .invalidOperand) s

/-- `intctl` (48_processor_management R600). -/
def execIntctl (src1 : Operand) (dst : RegNum) (s : State) : Host.Outcome State Fault Refusal :=
  run 4 (do
    requireSupervisor
    let t ← get
    let v := operandValue src1 Site.src1 t
    if 2 < v.toNat then raise .invalidOperand
    else do
      checkDst dst
      let u := if v = 0 then t.enableInterrupts false else if v = 1 then t.enableInterrupts true else t
      set (u.setReg dst (if t.interruptsEnabled then 1 else 0))
      pure { poll := v == 1 }) s

/-- `intdis` (48_processor_management R601). -/
def execIntdis (s : State) : Host.Outcome State Fault Refusal :=
  run 4 (do
    requireSupervisor
    modify (fun t => t.enableInterrupts false)
    pure {}) s

/-- `inten` (48_processor_management R602). -/
def execInten (s : State) : Host.Outcome State Fault Refusal :=
  run 4 (do
    requireSupervisor
    modify (fun t => t.enableInterrupts true)
    pure { poll := true }) s

/-- `modac` (48_processor_management R603). -/
def execModac (src1 src2 : Operand) (dst : RegNum) (s : State) : Host.Outcome State Fault Refusal :=
  run 4 (do
    checkDst dst
    let t ← get
    let v := merge (operandValue src1 Site.src1 t) (operandValue src2 Site.src2 t) t.ac
    set ((t.setReg dst t.ac).withAc (v &&& acMask))
    pure {}) s

/-- `modpc` (48_processor_management R604). Where it leaves PC with te and tfp both set, no pending trace fault is raised: tfp
is stored (DESIGN CHOICE, notes/assumptions/68.md). -/
def execModpc (src1 src2 : Operand) (dst : RegNum) (s : State) : Host.Outcome State Fault Refusal :=
  run 4 (do
    let t ← get
    let _ := operandValue src1 Site.src1 t
    let mask := operandValue src2 Site.src2 t
    if mask = 0 then do
      checkDst dst
      setDst dst t.pc
      pure {}
    else do
      requireSupervisor
      checkDst dst
      let v := merge mask (t.src Site.srcDst dst) t.pc
      if (v ^^^ t.pc) &&& ~~~pcMask ≠ 0 then refuse .modpcReserved
      else do
        let u := if pcTe v = pcTe t.pc then t else t.openTeWindow
        set ((u.withPc v).setReg dst t.pc)
        pure { poll := decide ((pcPriority v).toNat < (pcPriority t.pc).toNat) }) s

/-- `modtc` (48_processor_management R605). -/
def execModtc (src1 src2 : Operand) (dst : RegNum) (s : State) : Host.Outcome State Fault Refusal :=
  run 4 (do
    checkDst dst
    let t ← get
    let v := merge (operandValue src1 Site.src1 t &&& tcMask) (operandValue src2 Site.src2 t) t.tc
    let u := if v.setWidth 8 = t.tc.setWidth 8 then t else t.openTcWindow
    set ((u.withTc v).setReg dst t.tcRead)
    pure {}) s

/-- `sysctl` (48_processor_management R606). -/
def execSysctl (src1 src2 : Operand) (dst : RegNum) (s : State) : Host.Outcome State Fault Refusal :=
  run 4 (do
    requireSupervisor
    let t ← get
    let v1 := operandValue src1 Site.src1 t
    let v2 := operandValue src2 Site.src2 t
    let message : Byte := v1.extractLsb' 8 8
    if message = 0 then do
      postSoftware (v1.setWidth 8)
      pure { poll := true }
    else if message = 1 then do
      set t.purgeICache
      pure {}
    else if message = 2 then do
      configureICache (v1.setWidth 8) v2
      pure {}
    else if message = 3 then do
      softwareReinitialize (t.src Site.srcDst dst) v2
      pure { transfer := true }
    else if message = 5 then do
      checkDst dst
      let old ← modifyMmr (0xFF000000 ||| (v1 >>> 16)) v2 (t.src Site.srcDst dst)
      setDst dst old
      pure {}
    else if message = 6 then do
      checkDst dst
      set ((t.withBp { t.bp with rights := ⟨true, true, true, true, true⟩ }).setReg dst 0x22)
      pure {}
    else raise .invalidOperand) s

end Sys2Proof.Machine
end

