-- ==== Sys2Proof/Machine/Move.lean ====
section
/-! DEFINITION. Register moves: spec/40_data_movement.md R214 to R218. -/

namespace Sys2Proof.Machine

/-- The slots a move of `count` registers copies: a register group, or a literal with zeros above it (40 R214). -/
def moveSlots (o : Operand) (count : Nat) (s : State) : List Slot :=
  match o with
  | .reg n => s.group (Site.result 8) n count
  | .lit v => .val (v.zeroExtend 32) :: List.replicate (count - 1) (.val 0)

/-- Whether a source operand names a register that is no start of a group (40 R214, D19: a literal never does). -/
def operandMisaligned (o : Operand) (alignment : Nat) : Bool :=
  match o with
  | .reg n => misaligned n alignment
  | .lit _ => false

/-- MOVE of `count` registers (40 R214). -/
def moveGroup (count alignment : Nat) (src1 : Operand) (dst : RegNum) : M Done := do
  if operandMisaligned src1 alignment || misaligned dst alignment then do
    setUndefined dst count
    raise .invalidOperand
  else do
    checkDst dst count
    modify (fun s => s.setGroup dst 0 (moveSlots src1 count s))
    pure {}

/-- `mov` (40_data_movement R215). -/
def execMov (src1 : Operand) (dst : RegNum) (s : State) : Host.Outcome State Fault Refusal :=
  run 4 (moveGroup 1 1 src1 dst) s

/-- `movl` (40_data_movement R216). -/
def execMovl (src1 : Operand) (dst : RegNum) (s : State) : Host.Outcome State Fault Refusal :=
  run 4 (moveGroup 2 2 src1 dst) s

/-- `movt` (40_data_movement R217). -/
def execMovt (src1 : Operand) (dst : RegNum) (s : State) : Host.Outcome State Fault Refusal :=
  run 4 (moveGroup 3 4 src1 dst) s

/-- `movq` (40_data_movement R218). -/
def execMovq (src1 : Operand) (dst : RegNum) (s : State) : Host.Outcome State Fault Refusal :=
  run 4 (moveGroup 4 4 src1 dst) s


end Sys2Proof.Machine
end

