-- ==== Sys2Proof/Machine/Shift.lean ====
section
/-! DEFINITION. Shifts and rotates: spec/41_arithmetic.md R315 to R322. -/

namespace Sys2Proof.Machine

/-- The loop of `shli` (41 R318): the value it stops at and the count left. -/
def shliLoop : Nat → Word → Word × Nat
  | 0, v => (v, 0)
  | n + 1, v => if v.getLsbD 31 == v.getLsbD 30 then shliLoop n (v <<< 1) else (v, n + 1)

/-- The count of a shift: lengths above 32 count as 32 (41 R315). -/
def shiftCount (len : Word) : Nat := min len.toNat 32

/-- `shlo` (41_arithmetic R316). -/
def execShlo (src1 src2 : Operand) (dst : RegNum) (s : State) : Host.Outcome State Fault Refusal :=
  run 4 (binary (fun len v => if len.toNat < 32 then v <<< len.toNat else 0) src1 src2 dst) s

/-- `shro` (41_arithmetic R317). -/
def execShro (src1 src2 : Operand) (dst : RegNum) (s : State) : Host.Outcome State Fault Refusal :=
  run 4 (binary (fun len v => if len.toNat < 32 then v >>> len.toNat else 0) src1 src2 dst) s

/-- `shli` (41_arithmetic R318). -/
def execShli (src1 src2 : Operand) (dst : RegNum) (s : State) : Host.Outcome State Fault Refusal :=
  run 4 (binaryOverflow (fun len v => (shliLoop (shiftCount len) v).1)
    (fun len v => decide (0 < (shliLoop (shiftCount len) v).2)) src1 src2 dst) s

/-- `shri` (41_arithmetic R319). -/
def execShri (src1 src2 : Operand) (dst : RegNum) (s : State) : Host.Outcome State Fault Refusal :=
  run 4 (binary (fun len v => v.sshiftRight (shiftCount len)) src1 src2 dst) s

/-- `shrdi` (41_arithmetic R320). -/
def execShrdi (src1 src2 : Operand) (dst : RegNum) (s : State) : Host.Outcome State Fault Refusal :=
  run 4 (binary (fun len v => BitVec.ofInt 32 (v.toInt.tdiv (2 ^ shiftCount len))) src1 src2 dst) s

/-- `rotate` (41_arithmetic R321). -/
def execRotate (src1 src2 : Operand) (dst : RegNum) (s : State) : Host.Outcome State Fault Refusal :=
  run 4 (binary (fun len v => v.rotateLeft (len.toNat % 32)) src1 src2 dst) s

/-- `eshro` (41_arithmetic R322). -/
def execEshro (src1 src2 : Operand) (dst : RegNum) (s : State) : Host.Outcome State Fault Refusal :=
  run 4 (do
    let t ← get
    match pairValue src2 t with
    | some n => do
      checkDst dst
      setDst dst ((n >>> ((operandValue src1 Site.src1 t).toNat % 32)).setWidth 32)
      pure {}
    | none => do
      setUndefined dst 1
      raise .invalidOperand) s


end Sys2Proof.Machine
end

