-- ==== Sys2Proof/Machine/Store.lean ====
section
/-! DEFINITION. Stores: spec/40_data_movement.md R220 to R229. -/

namespace Sys2Proof.Machine

/-- A store of one item of `n` bytes from the low bits of a register (40 R202, R203). An unaligned one that runs from
protected internal RAM into external memory raises TYPE.MISMATCH: the check of R202's store step 1 comes before the refusal
of 93 U13 (DESIGN CHOICE, notes/assumptions/22.md). -/
def storeItem (n : Nat) (write : State → Word → Slot → State) (src : RegNum) (dst : MemOperand) : M Word := do
  let s ← get
  let a := efa dst s
  checkProtected a n
  checkRange a n
  set (write s a (s.srcSlot Site.srcDst src))
  pure a

/-- A store of a register group (40 R201, R202). Protected RAM is tested before the register number, as R202 and the actions of
R227 to R229 order it, not as the list of 60 R643 can be read (DEDUCED, notes/assumptions/63.md). -/
def storeGroup (count alignment bits : Nat) (src : RegNum) (dst : MemOperand) : M Done := do
  let s ← get
  let a := efa dst s
  checkProtected a (4 * count)
  if misaligned src alignment then raise .invalidOperand
  checkRange a (4 * count)
  set (s.pokeWords a (s.group (Site.result 8) src count))
  unalignedTrap a bits
  pure {}

/-- The test of `stib` and `stis` on the bits above the stored width (40 R222): neither all 0 nor all 1. -/
def storeOverflows (n : Nat) (v : Word) : Bool :=
  let high := v.sshiftRight n
  let upper := v >>> n
  upper != 0 && !(high == BitVec.allOnes 32)

/-- `st` (40_data_movement R221). -/
def execSt (src : RegNum) (dst : MemOperand) (s : State) : Host.Outcome State Fault Refusal :=
  run (memLength dst) (do
    let t ← get
    let a := efa dst t
    storeWord a (t.srcSlot Site.srcDst src)
    unalignedTrap a 2
    pure {}) s

/-- `stob` (40_data_movement R223). -/
def execStob (src : RegNum) (dst : MemOperand) (s : State) : Host.Outcome State Fault Refusal :=
  run (memLength dst) (do
    let _ ← storeItem 1 State.poke1 src dst
    pure {}) s

/-- `stos` (40_data_movement R224). -/
def execStos (src : RegNum) (dst : MemOperand) (s : State) : Host.Outcome State Fault Refusal :=
  run (memLength dst) (do
    let a ← storeItem 2 State.poke16 src dst
    unalignedTrap a 1
    pure {}) s

/-- `stib` (40_data_movement R225). -/
def execStib (src : RegNum) (dst : MemOperand) (s : State) : Host.Outcome State Fault Refusal :=
  run (memLength dst) (do
    let t ← get
    let _ ← storeItem 1 State.poke1 src dst
    overflowIf (storeOverflows 8 (t.src Site.srcDst src))
    pure {}) s

/-- `stis` (40_data_movement R226). -/
def execStis (src : RegNum) (dst : MemOperand) (s : State) : Host.Outcome State Fault Refusal :=
  run (memLength dst) (do
    let t ← get
    let a ← storeItem 2 State.poke16 src dst
    unalignedTrap a 1
    overflowIf (storeOverflows 16 (t.src Site.srcDst src))
    pure {}) s

/-- `stl` (40_data_movement R227). -/
def execStl (src : RegNum) (dst : MemOperand) (s : State) : Host.Outcome State Fault Refusal :=
  run (memLength dst) (storeGroup 2 2 3 src dst) s

/-- `stt` (40_data_movement R228). -/
def execStt (src : RegNum) (dst : MemOperand) (s : State) : Host.Outcome State Fault Refusal :=
  run (memLength dst) (storeGroup 3 4 4 src dst) s

/-- `stq` (40_data_movement R229). -/
def execStq (src : RegNum) (dst : MemOperand) (s : State) : Host.Outcome State Fault Refusal :=
  run (memLength dst) (storeGroup 4 4 4 src dst) s


end Sys2Proof.Machine
end

