-- ==== Sys2Proof/Machine/Dispatch.lean ====
section
/-! DEFINITION. One arm per instruction, each one call of its meaning. -/

namespace Sys2Proof.Machine

def exec (i : Instr) (s : State) : Host.Outcome State Fault Refusal :=
  match i with
  | .ld src dst => Sys2Proof.Machine.execLd src dst s
  | .ldob src dst => Sys2Proof.Machine.execLdob src dst s
  | .ldos src dst => Sys2Proof.Machine.execLdos src dst s
  | .ldib src dst => Sys2Proof.Machine.execLdib src dst s
  | .ldis src dst => Sys2Proof.Machine.execLdis src dst s
  | .ldl src dst => Sys2Proof.Machine.execLdl src dst s
  | .ldt src dst => Sys2Proof.Machine.execLdt src dst s
  | .ldq src dst => Sys2Proof.Machine.execLdq src dst s
  | .lda src dst => Sys2Proof.Machine.execLda src dst s
  | .mov src1 dst => Sys2Proof.Machine.execMov src1 dst s
  | .movl src1 dst => Sys2Proof.Machine.execMovl src1 dst s
  | .movt src1 dst => Sys2Proof.Machine.execMovt src1 dst s
  | .movq src1 dst => Sys2Proof.Machine.execMovq src1 dst s
  | .st src dst => Sys2Proof.Machine.execSt src dst s
  | .stob src dst => Sys2Proof.Machine.execStob src dst s
  | .stos src dst => Sys2Proof.Machine.execStos src dst s
  | .stib src dst => Sys2Proof.Machine.execStib src dst s
  | .stis src dst => Sys2Proof.Machine.execStis src dst s
  | .stl src dst => Sys2Proof.Machine.execStl src dst s
  | .stt src dst => Sys2Proof.Machine.execStt src dst s
  | .stq src dst => Sys2Proof.Machine.execStq src dst s
  | .selno src1 src2 dst => Sys2Proof.Machine.execSelno src1 src2 dst s
  | .selg src1 src2 dst => Sys2Proof.Machine.execSelg src1 src2 dst s
  | .sele src1 src2 dst => Sys2Proof.Machine.execSele src1 src2 dst s
  | .selge src1 src2 dst => Sys2Proof.Machine.execSelge src1 src2 dst s
  | .sell src1 src2 dst => Sys2Proof.Machine.execSell src1 src2 dst s
  | .selne src1 src2 dst => Sys2Proof.Machine.execSelne src1 src2 dst s
  | .selle src1 src2 dst => Sys2Proof.Machine.execSelle src1 src2 dst s
  | .selo src1 src2 dst => Sys2Proof.Machine.execSelo src1 src2 dst s
  | .addono src1 src2 dst => Sys2Proof.Machine.execAddono src1 src2 dst s
  | .addog src1 src2 dst => Sys2Proof.Machine.execAddog src1 src2 dst s
  | .addoe src1 src2 dst => Sys2Proof.Machine.execAddoe src1 src2 dst s
  | .addoge src1 src2 dst => Sys2Proof.Machine.execAddoge src1 src2 dst s
  | .addol src1 src2 dst => Sys2Proof.Machine.execAddol src1 src2 dst s
  | .addone src1 src2 dst => Sys2Proof.Machine.execAddone src1 src2 dst s
  | .addole src1 src2 dst => Sys2Proof.Machine.execAddole src1 src2 dst s
  | .addoo src1 src2 dst => Sys2Proof.Machine.execAddoo src1 src2 dst s
  | .addino src1 src2 dst => Sys2Proof.Machine.execAddino src1 src2 dst s
  | .addig src1 src2 dst => Sys2Proof.Machine.execAddig src1 src2 dst s
  | .addie src1 src2 dst => Sys2Proof.Machine.execAddie src1 src2 dst s
  | .addige src1 src2 dst => Sys2Proof.Machine.execAddige src1 src2 dst s
  | .addil src1 src2 dst => Sys2Proof.Machine.execAddil src1 src2 dst s
  | .addine src1 src2 dst => Sys2Proof.Machine.execAddine src1 src2 dst s
  | .addile src1 src2 dst => Sys2Proof.Machine.execAddile src1 src2 dst s
  | .addio src1 src2 dst => Sys2Proof.Machine.execAddio src1 src2 dst s
  | .addc src1 src2 dst => Sys2Proof.Machine.execAddc src1 src2 dst s
  | .addo src1 src2 dst => Sys2Proof.Machine.execAddo src1 src2 dst s
  | .addi src1 src2 dst => Sys2Proof.Machine.execAddi src1 src2 dst s
  | .subono src1 src2 dst => Sys2Proof.Machine.execSubono src1 src2 dst s
  | .subog src1 src2 dst => Sys2Proof.Machine.execSubog src1 src2 dst s
  | .suboe src1 src2 dst => Sys2Proof.Machine.execSuboe src1 src2 dst s
  | .suboge src1 src2 dst => Sys2Proof.Machine.execSuboge src1 src2 dst s
  | .subol src1 src2 dst => Sys2Proof.Machine.execSubol src1 src2 dst s
  | .subone src1 src2 dst => Sys2Proof.Machine.execSubone src1 src2 dst s
  | .subole src1 src2 dst => Sys2Proof.Machine.execSubole src1 src2 dst s
  | .suboo src1 src2 dst => Sys2Proof.Machine.execSuboo src1 src2 dst s
  | .subino src1 src2 dst => Sys2Proof.Machine.execSubino src1 src2 dst s
  | .subig src1 src2 dst => Sys2Proof.Machine.execSubig src1 src2 dst s
  | .subie src1 src2 dst => Sys2Proof.Machine.execSubie src1 src2 dst s
  | .subige src1 src2 dst => Sys2Proof.Machine.execSubige src1 src2 dst s
  | .subil src1 src2 dst => Sys2Proof.Machine.execSubil src1 src2 dst s
  | .subine src1 src2 dst => Sys2Proof.Machine.execSubine src1 src2 dst s
  | .subile src1 src2 dst => Sys2Proof.Machine.execSubile src1 src2 dst s
  | .subio src1 src2 dst => Sys2Proof.Machine.execSubio src1 src2 dst s
  | .subc src1 src2 dst => Sys2Proof.Machine.execSubc src1 src2 dst s
  | .subo src1 src2 dst => Sys2Proof.Machine.execSubo src1 src2 dst s
  | .subi src1 src2 dst => Sys2Proof.Machine.execSubi src1 src2 dst s
  | .mulo src1 src2 dst => Sys2Proof.Machine.execMulo src1 src2 dst s
  | .muli src1 src2 dst => Sys2Proof.Machine.execMuli src1 src2 dst s
  | .divo src1 src2 dst => Sys2Proof.Machine.execDivo src1 src2 dst s
  | .divi src1 src2 dst => Sys2Proof.Machine.execDivi src1 src2 dst s
  | .remo src1 src2 dst => Sys2Proof.Machine.execRemo src1 src2 dst s
  | .remi src1 src2 dst => Sys2Proof.Machine.execRemi src1 src2 dst s
  | .modi src1 src2 dst => Sys2Proof.Machine.execModi src1 src2 dst s
  | .emul src1 src2 dst => Sys2Proof.Machine.execEmul src1 src2 dst s
  | .ediv src1 src2 dst => Sys2Proof.Machine.execEdiv src1 src2 dst s
  | .shlo src1 src2 dst => Sys2Proof.Machine.execShlo src1 src2 dst s
  | .shro src1 src2 dst => Sys2Proof.Machine.execShro src1 src2 dst s
  | .shli src1 src2 dst => Sys2Proof.Machine.execShli src1 src2 dst s
  | .shri src1 src2 dst => Sys2Proof.Machine.execShri src1 src2 dst s
  | .shrdi src1 src2 dst => Sys2Proof.Machine.execShrdi src1 src2 dst s
  | .rotate src1 src2 dst => Sys2Proof.Machine.execRotate src1 src2 dst s
  | .eshro src1 src2 dst => Sys2Proof.Machine.execEshro src1 src2 dst s
  | .alterbit src1 src2 dst => Sys2Proof.Machine.execAlterbit src1 src2 dst s
  | .and src1 src2 dst => Sys2Proof.Machine.execAnd src1 src2 dst s
  | .andnot src1 src2 dst => Sys2Proof.Machine.execAndnot src1 src2 dst s
  | .bswap src1 dst => Sys2Proof.Machine.execBswap src1 dst s
  | .chkbit src1 src2 => Sys2Proof.Machine.execChkbit src1 src2 s
  | .clrbit src1 src2 dst => Sys2Proof.Machine.execClrbit src1 src2 dst s
  | .extract src1 src2 dst => Sys2Proof.Machine.execExtract src1 src2 dst s
  | .modify src1 src2 dst => Sys2Proof.Machine.execModify src1 src2 dst s
  | .nand src1 src2 dst => Sys2Proof.Machine.execNand src1 src2 dst s
  | .nor src1 src2 dst => Sys2Proof.Machine.execNor src1 src2 dst s
  | .not src1 dst => Sys2Proof.Machine.execNot src1 dst s
  | .notand src1 src2 dst => Sys2Proof.Machine.execNotand src1 src2 dst s
  | .notbit src1 src2 dst => Sys2Proof.Machine.execNotbit src1 src2 dst s
  | .notor src1 src2 dst => Sys2Proof.Machine.execNotor src1 src2 dst s
  | .or src1 src2 dst => Sys2Proof.Machine.execOr src1 src2 dst s
  | .ornot src1 src2 dst => Sys2Proof.Machine.execOrnot src1 src2 dst s
  | .scanbit src1 dst => Sys2Proof.Machine.execScanbit src1 dst s
  | .scanbyte src1 src2 => Sys2Proof.Machine.execScanbyte src1 src2 s
  | .setbit src1 src2 dst => Sys2Proof.Machine.execSetbit src1 src2 dst s
  | .spanbit src1 dst => Sys2Proof.Machine.execSpanbit src1 dst s
  | .xnor src1 src2 dst => Sys2Proof.Machine.execXnor src1 src2 dst s
  | .xor src1 src2 dst => Sys2Proof.Machine.execXor src1 src2 dst s
  | .cmpo src1 src2 => Sys2Proof.Machine.execCmpo src1 src2 s
  | .cmpi src1 src2 => Sys2Proof.Machine.execCmpi src1 src2 s
  | .cmpob src1 src2 => Sys2Proof.Machine.execCmpob src1 src2 s
  | .cmpib src1 src2 => Sys2Proof.Machine.execCmpib src1 src2 s
  | .cmpos src1 src2 => Sys2Proof.Machine.execCmpos src1 src2 s
  | .cmpis src1 src2 => Sys2Proof.Machine.execCmpis src1 src2 s
  | .cmpdeco src1 src2 dst => Sys2Proof.Machine.execCmpdeco src1 src2 dst s
  | .cmpdeci src1 src2 dst => Sys2Proof.Machine.execCmpdeci src1 src2 dst s
  | .cmpinco src1 src2 dst => Sys2Proof.Machine.execCmpinco src1 src2 dst s
  | .cmpinci src1 src2 dst => Sys2Proof.Machine.execCmpinci src1 src2 dst s
  | .concmpo src1 src2 => Sys2Proof.Machine.execConcmpo src1 src2 s
  | .concmpi src1 src2 => Sys2Proof.Machine.execConcmpi src1 src2 s
  | .testno dst => Sys2Proof.Machine.execTestno dst s
  | .testg dst => Sys2Proof.Machine.execTestg dst s
  | .teste dst => Sys2Proof.Machine.execTeste dst s
  | .testge dst => Sys2Proof.Machine.execTestge dst s
  | .testl dst => Sys2Proof.Machine.execTestl dst s
  | .testne dst => Sys2Proof.Machine.execTestne dst s
  | .testle dst => Sys2Proof.Machine.execTestle dst s
  | .testo dst => Sys2Proof.Machine.execTesto dst s
  | .b disp => Sys2Proof.Machine.execB disp s
  | .bx targ => Sys2Proof.Machine.execBx targ s
  | .bal disp => Sys2Proof.Machine.execBal disp s
  | .balx src dst => Sys2Proof.Machine.execBalx src dst s
  | .bbc src1 src2 disp => Sys2Proof.Machine.execBbc src1 src2 disp s
  | .bbs src1 src2 disp => Sys2Proof.Machine.execBbs src1 src2 disp s
  | .bno disp => Sys2Proof.Machine.execBno disp s
  | .bg disp => Sys2Proof.Machine.execBg disp s
  | .be disp => Sys2Proof.Machine.execBe disp s
  | .bge disp => Sys2Proof.Machine.execBge disp s
  | .bl disp => Sys2Proof.Machine.execBl disp s
  | .bne disp => Sys2Proof.Machine.execBne disp s
  | .ble disp => Sys2Proof.Machine.execBle disp s
  | .bo disp => Sys2Proof.Machine.execBo disp s
  | .cmpobg src1 src2 disp => Sys2Proof.Machine.execCmpobg src1 src2 disp s
  | .cmpobe src1 src2 disp => Sys2Proof.Machine.execCmpobe src1 src2 disp s
  | .cmpobge src1 src2 disp => Sys2Proof.Machine.execCmpobge src1 src2 disp s
  | .cmpobl src1 src2 disp => Sys2Proof.Machine.execCmpobl src1 src2 disp s
  | .cmpobne src1 src2 disp => Sys2Proof.Machine.execCmpobne src1 src2 disp s
  | .cmpoble src1 src2 disp => Sys2Proof.Machine.execCmpoble src1 src2 disp s
  | .cmpibno src1 src2 disp => Sys2Proof.Machine.execCmpibno src1 src2 disp s
  | .cmpibg src1 src2 disp => Sys2Proof.Machine.execCmpibg src1 src2 disp s
  | .cmpibe src1 src2 disp => Sys2Proof.Machine.execCmpibe src1 src2 disp s
  | .cmpibge src1 src2 disp => Sys2Proof.Machine.execCmpibge src1 src2 disp s
  | .cmpibl src1 src2 disp => Sys2Proof.Machine.execCmpibl src1 src2 disp s
  | .cmpibne src1 src2 disp => Sys2Proof.Machine.execCmpibne src1 src2 disp s
  | .cmpible src1 src2 disp => Sys2Proof.Machine.execCmpible src1 src2 disp s
  | .cmpibo src1 src2 disp => Sys2Proof.Machine.execCmpibo src1 src2 disp s
  | .call disp => Sys2Proof.Machine.execCall disp s
  | .callx targ => Sys2Proof.Machine.execCallx targ s
  | .calls src1 => Sys2Proof.Machine.execCalls src1 s
  | .ret => Sys2Proof.Machine.execRet s
  | .flushreg => Sys2Proof.Machine.execFlushreg s
  | .faultno => Sys2Proof.Machine.execFaultno s
  | .faultg => Sys2Proof.Machine.execFaultg s
  | .faulte => Sys2Proof.Machine.execFaulte s
  | .faultge => Sys2Proof.Machine.execFaultge s
  | .faultl => Sys2Proof.Machine.execFaultl s
  | .faultne => Sys2Proof.Machine.execFaultne s
  | .faultle => Sys2Proof.Machine.execFaultle s
  | .faulto => Sys2Proof.Machine.execFaulto s
  | .mark => Sys2Proof.Machine.execMark s
  | .fmark => Sys2Proof.Machine.execFmark s
  | .syncf => Sys2Proof.Machine.execSyncf s
  | .atadd src1 src2 dst => Sys2Proof.Machine.execAtadd src1 src2 dst s
  | .atmod src1 src2 dst => Sys2Proof.Machine.execAtmod src1 src2 dst s
  | .dcctl src1 src2 dst => Sys2Proof.Machine.execDcctl src1 src2 dst s
  | .halt src1 => Sys2Proof.Machine.execHalt src1 s
  | .icctl src1 src2 dst => Sys2Proof.Machine.execIcctl src1 src2 dst s
  | .intctl src1 dst => Sys2Proof.Machine.execIntctl src1 dst s
  | .intdis => Sys2Proof.Machine.execIntdis s
  | .inten => Sys2Proof.Machine.execInten s
  | .modac src1 src2 dst => Sys2Proof.Machine.execModac src1 src2 dst s
  | .modpc src1 src2 dst => Sys2Proof.Machine.execModpc src1 src2 dst s
  | .modtc src1 src2 dst => Sys2Proof.Machine.execModtc src1 src2 dst s
  | .sysctl src1 src2 dst => Sys2Proof.Machine.execSysctl src1 src2 dst s

end Sys2Proof.Machine
end

