-- ==== Sys2Proof/Machine/Step.lean ====
section
/-! DEFINITION. One step of the machine, and the placing of an instruction where the next step fetches it. -/

namespace Sys2Proof.Machine

/-- One step (spec/60_exceptions.md R680). -/
def step (s : State) : Host.Outcome State Fault Refusal := stepWith exec s

/-- `s` with an instruction, given as bits of spec/opcode_table.json, where the next step fetches: at IP, in the byte order
in force (notes/assumptions/7.md). -/
def State.withFetchWord (s : State) (nbits w : Nat) : State := s.placeCode (tableWords nbits w).1 (tableWords nbits w).2

end Sys2Proof.Machine
end

