-- ==== Sys2Proof/Safety.lean ====
section
/-! DEFINITION. What holds of every state the machine can be in, and the terms the statements are written in: what an
instruction leaves alone, memory that is there and settled, the outcome of a fault. -/

namespace Sys2Proof.Machine

/-! The invariant. -/

/-- AC holds only its defined bits (10_state R36, 92_eei_decisions D20). -/
def State.acLegal (s : State) : Bool := s.ac &&& ~~~acMask == 0

/-- PC holds only its defined bits (10_state R42). -/
def State.pcLegal (s : State) : Bool := s.pc &&& ~~~pcMask == 0

/-- TC holds only the bits the machine has (10_state R49, R50). -/
def State.tcLegal (s : State) : Bool := s.tc &&& ~~~tcMask == 0

/-- The IP is word aligned (10_state R32). -/
def State.ipAligned (s : State) : Bool := s.ip.extractLsb' 0 2 == 0#2

/-- At most seven register sets are suspended in the cache, the eighth of its sets being the current one
(45_call_return R505). -/
def State.cacheBounded (s : State) : Bool := decide (s.frames.cache.length ≤ 7)

/-- The invariant of the machine: memory in its canonical form, the IP word aligned, no undefined bit in AC, PC or TC, the
register cache within its size. -/
def State.Inv (s : State) : Prop :=
  s.mem.wf = true ∧ s.ipAligned = true ∧ s.acLegal = true ∧ s.pcLegal = true ∧ s.tcLegal = true ∧
    s.cacheBounded = true

/-! When an instruction goes on undisturbed. -/

/-- No trace fault is possible at the end of the next instruction: `PC.te` is 0 and no window of `modpc` is open
(60_exceptions R700, 70_reset R745). -/
abbrev State.untraced (s : State) : Prop := pcTe s.pc = false ∧ s.trace.teWindow = 0

/-- Tracing is on and its modes are those that TC holds: `PC.te` is 1, no window of `modpc` or `modtc` is open, and no
breakpoint can match (60_exceptions R700, R702; 70_reset R745, R746). -/
abbrev State.traced (s : State) : Prop :=
  pcTe s.pc = true ∧ s.trace.teWindow = 0 ∧ s.trace.tcWindow = 0 ∧ s.bp.written = false

/-- No interrupt is requested: no NMI, no hardware request that is enabled in IMSK, no posted software interrupt
(60_exceptions R682). -/
abbrev State.quiet (s : State) : Prop :=
  s.intr.nmiPending = false ∧ s.intr.hardware = none ∧ s.intr.swPriority = 0

/-! What an instruction leaves alone. -/

/-- The process controls, trace controls, cached pointers, configuration, breakpoint, interrupt and timer registers, the
device word and the cache enables are as before. -/
def State.sameSpecial (s t : State) : Prop :=
  t.pc = s.pc ∧ t.tc = s.tc ∧ t.tables = s.tables ∧ t.unalignedMasked = s.unalignedMasked ∧ t.config = s.config ∧
    t.bp = s.bp ∧ t.intr = s.intr ∧ t.timer0 = s.timer0 ∧ t.timer1 = s.timer1 ∧ t.deviceId = s.deviceId ∧
    t.cache.dataEnabled = s.cache.dataEnabled ∧ t.cache.instrEnabled = s.cache.instrEnabled ∧
    t.cache.instrLocked = s.cache.instrLocked

/-- The suspended register sets, the reserved frames and the address of the current frame are as before. -/
def State.sameFrames (s t : State) : Prop :=
  t.frames.cache = s.frames.cache ∧ t.frames.reserved = s.frames.reserved ∧ t.frames.current = s.frames.current

/-- Every byte of memory reads as before. -/
def State.sameBytes (s t : State) : Prop := ∀ a : Word, t.byteAt a = s.byteAt a

/-- Every byte of memory outside the `n` bytes from `a` reads as before. -/
def State.sameBytesBut (s t : State) (a : Word) (n : Nat) : Prop :=
  ∀ b : Word, (∀ i < n, b ≠ a + BitVec.ofNat 32 i) → t.byteAt b = s.byteAt b

/-- Every general register but those of `ds` is as before, and only a write of r0 marks PFP dirty (45_call_return R509) and
sets the PFP of the initial frame (70_reset R730). -/
def State.sameRegsBut (s t : State) (ds : List RegNum) : Prop :=
  (∀ n : RegNum, n ∉ ds → t.slot n = s.slot n) ∧ t.frames.pfpDirty = (s.frames.pfpDirty || ds.contains 0) ∧
    t.frames.unsetPfp = if ds.contains 0 then s.frames.pfpWritten.unsetPfp else s.frames.unsetPfp

/-- Of the state a program can see, only the registers `ds`, AC and IP can differ. -/
def State.changesOnly (s t : State) (ds : List RegNum) : Prop :=
  s.sameRegsBut t ds ∧ s.sameSpecial t ∧ s.sameFrames t ∧ s.sameBytes t

/-- Of the state a program can see, only the `n` bytes of memory from `a`, AC and IP can differ. -/
def State.storesOnly (s t : State) (a : Word) (n : Nat) : Prop :=
  s.sameRegsBut t [] ∧ s.sameSpecial t ∧ s.sameFrames t ∧ s.sameBytesBut t a n

/-- `AC.cc` is `c` and the other bits of AC are as before. -/
def State.setsCc (s t : State) (c : BitVec 3) : Prop := t.cc = c ∧ t.ac &&& ~~~7#32 = s.ac &&& ~~~7#32

/-- The memory-mapped register `r` was written with `v`, and no other changed. IPND shows the pins that are low and
detected by level as pending (60_exceptions R681); which those are can change with ICON. -/
def State.mmrWritten (s t : State) (r : MmrName) (v : Word) : Prop :=
  t.mmr r = (if r = .ipnd then v ||| s.intr.levelLow.zeroExtend 32 else v) ∧
    t.intr.ipnd = (if r = .ipnd then v else s.intr.ipnd) ∧ t.intr.pins = s.intr.pins ∧
    ∀ other, other ≠ r → other ≠ .ipnd → t.mmr other = s.mmr other

/-- A hardware source requests vector `v` (60_exceptions R681, R692): a dedicated source that is pending in IPND and
enabled in IMSK, with the vector of its map nibble, or the vector that the expanded-mode pins present, enabled by bit 0 of
IMSK. The pins of each mode are the model's choice (notes/assumptions/41.md). -/
def State.requests (s : State) (v : Byte) : Prop :=
  (∃ bit ∈ [0, 1, 2, 3, 4, 5, 6, 7, 12, 13], (s.mmr .ipnd).getLsbD bit = true ∧ s.intr.imsk.getLsbD bit = true ∧
    (bit < 8 → s.intr.icon.extractLsb' 0 2 = 0#2 ∨ s.intr.icon.extractLsb' 0 2 = 2#2 ∧ 5 ≤ bit) ∧
    v.toNat = 16 * ((if bit < 4 then s.intr.imap0.toNat / 16 ^ bit else if bit < 8 then s.intr.imap1.toNat / 16 ^ (bit - 4)
      else s.intr.imap2.toNat / 16 ^ (bit - 8)) % 16) + 2) ∨
  ((s.intr.icon.extractLsb' 0 2 = 1#2 ∨ s.intr.icon.extractLsb' 0 2 = 2#2) ∧ s.intr.imsk.getLsbD 0 = true ∧
    s.intr.vector = some v)

/-- A request of priority `p` may interrupt: it is above `PC.p`, or 31 (60_exceptions R682, R683). -/
def State.interruptible (s : State) (p : Nat) : Prop := (s.pc.extractLsb' 16 5).toNat < p ∨ p = 31

/-! Memory that is there. -/

/-- `n` bytes from `a` that a load reads as memory holds them: one region, not MMR space, no absent memory, no device, no
byte that another master wrote behind the data cache (20_memory R97, R122, 92_eei_decisions D13). -/
abbrev State.settled (s : State) (a : Word) (n : Nat) : Prop :=
  regionOf a ≠ .mmr ∧ regionOf (a + BitVec.ofNat 32 (n - 1)) = regionOf a ∧
    ∀ i < n, s.kindAt (a + BitVec.ofNat 32 i) ≠ .absent ∧ s.kindAt (a + BitVec.ofNat 32 i) ≠ .device ∧
      staleAt s.cache.dataStale (a + BitVec.ofNat 32 i).toNat = false

/-- `n` bytes from `a` of RAM in one region. -/
abbrev State.writable (s : State) (a : Word) (n : Nat) : Prop :=
  regionOf a ≠ .mmr ∧ regionOf (a + BitVec.ofNat 32 (n - 1)) = regionOf a ∧
    ∀ i < n, s.kindAt (a + BitVec.ofNat 32 i) = .ram

/-- `n` words from `a` upwards, each settled on its own (45_call_return R505). -/
abbrev State.wordsSettled (s : State) (a : Word) (n : Nat) : Prop := ∀ i < n, s.settled (a + BitVec.ofNat 32 (4 * i)) 4

/-- `n` words of RAM from `a` upwards, each in one region (45_call_return R505). -/
abbrev State.wordsWritable (s : State) (a : Word) (n : Nat) : Prop :=
  ∀ i < n, s.writable (a + BitVec.ofNat 32 (4 * i)) 4

/-- Four bytes of code that a fetch reads as memory holds them (20_memory R90, R92, R125). -/
abbrev State.codeSettled (s : State) (a : Word) : Prop :=
  regionOf a = .external ∧ ∀ i < 4, s.kindAt (a + BitVec.ofNat 32 i) ≠ .absent ∧
    s.kindAt (a + BitVec.ofNat 32 i) ≠ .device ∧
      staleAt (s.codeCopies (a + BitVec.ofNat 32 i).toNat) (a + BitVec.ofNat 32 i).toNat = false

/-- The word of memory at an address, in the byte order in force (20_memory R101). -/
def State.wordAt (s : State) (a : Word) : Word :=
  join32 s.bigEndian (s.byteAt a) (s.byteAt (a + 1)) (s.byteAt (a + 2)) (s.byteAt (a + 3))

/-- The half word of memory at an address (20_memory R101). -/
def State.halfAt (s : State) (a : Word) : BitVec 16 := join16 s.bigEndian (s.byteAt a) (s.byteAt (a + 1))

/-- The four bytes at `a` hold the word of `v`, in the byte order in force: under little endian the byte with the lowest
address has the least significance, under big endian the most (20_memory R100). -/
def State.holdsWord (t : State) (a : Word) (v : Slot) : Prop :=
  ∀ i < 4, t.byteAt (a + BitVec.ofNat 32 i) = (v.byte (if t.bigEndian then 3 - i else i)).get

/-- An address is a multiple of `2 ^ bits`, or unaligned accesses do not fault (20_memory R104). -/
abbrev State.alignedFor (s : State) (a : Word) (bits : Nat) : Prop :=
  a.toNat % 2 ^ bits = 0 ∨ s.unalignedMasked = true

/-! Frames. -/

/-- The address a multiple of 16 at or above another (45_call_return R503). -/
def frameAt (base : Word) : Word := (base + 15) &&& 0xFFFFFFF0

/-- `t` is `s` in a new frame at the next multiple of 16 from `base` (45_call_return R503): FP and SP of the new frame, PFP
the old FP with the return type `rt`, the other global registers as before. -/
def State.entersFrame (s t : State) (base rt : Word) : Prop :=
  t.slot 31 = .val (frameAt base) ∧ t.slot 1 = .val (frameAt base + 64) ∧
    t.slot 0 = .val ((s.reg 31 &&& 0xFFFFFFF0) ||| rt) ∧
    (∀ n : RegNum, 16 ≤ n.toNat → n ≠ 31 → t.slot n = s.slot n) ∧
    t.frames.current = frameAt base ∧ t.frames.pfpDirty = false ∧ t.frames.reserved = s.frames.reserved ∧
    t.frames.unsetPfp = if s.frames.unsetPfp = some (frameAt base) then none else s.frames.unsetPfp

/-- `f` is the suspended set of the frame of `s`, its r2 holding `rip` (45_call_return R503, R505). -/
def State.suspendedAs (s : State) (f : CachedFrame) (rip : Slot) : Prop :=
  f.regs = s.locals.set 2 rip ∧ f.link = s.reg 31 &&& 0xFFFFFFF0 ∧ (f.link = s.frames.current → f.save = f.link)

/-- The register cache of `t` is `old` and then the suspended set of the frame of `s`. -/
def State.suspendsOnto (s t : State) (old : List CachedFrame) (rip : Slot) : Prop :=
  t.frames.cache.dropLast = old ∧ ∃ f, t.frames.cache.getLast? = some f ∧ s.suspendedAs f rip

/-- PFP is what a call left or what `flushreg` followed the write of, and not that of the initial frame, which nothing has
set (45_call_return R509 a, 70_reset R730). -/
abbrev State.pfpSound (s : State) : Prop :=
  s.frames.pfpDirty = false ∧ s.frames.unsetPfp ≠ some s.frames.current

/-- The frame that PFP names can be restored: it is the last set of the cache, or the cache is empty and its save area is
settled memory (45_call_return R505, R507). -/
def State.canReturn (s : State) : Prop :=
  match s.frames.cache.getLast? with
  | some f => f.link = s.reg 0 &&& 0xFFFFFFF0
  | none => s.wordsSettled (s.reg 0 &&& 0xFFFFFFF0) 16

/-- The word that register `n` of the frame that PFP names holds: from the cache, or from its save area. -/
def State.savedSlot (s : State) (n : Nat) : Slot :=
  match s.frames.cache.getLast? with
  | some f => (f.regs.toList)[n]?.getD (.val 0)
  | none => .val (s.wordAt ((s.reg 0 &&& 0xFFFFFFF0) + BitVec.ofNat 32 (4 * n)))

/-- `t` is `s` back in the frame that PFP names, at its saved r2 (45_call_return R507, R523). -/
def State.returnsTo (s t : State) : Prop :=
  (∀ n : RegNum, n.toNat < 16 → t.slot n = s.savedSlot n.toNat) ∧ t.slot 31 = .val (s.reg 0 &&& 0xFFFFFFF0) ∧
    (∀ n : RegNum, 16 ≤ n.toNat → n ≠ 31 → t.slot n = s.slot n) ∧ t.ip = (s.savedSlot 2).get &&& 0xFFFFFFFC ∧
    t.frames.cache = s.frames.cache.dropLast ∧ t.frames.current = s.reg 0 &&& 0xFFFFFFF0 ∧
    t.frames.pfpDirty = false ∧ t.frames.reserved = s.frames.reserved ∧ t.frames.unsetPfp = s.frames.unsetPfp

/-- `t` is `s` with an interrupt of vector `v` taken (60_exceptions R688 to R690): the record of PC, AC and the vector
stands at `base`, the handler runs in a new frame above it with return type 7, in supervisor mode, interrupted, at the
priority of the vector, te and tfp clear; the set of the interrupted frame is suspended with the interrupted IP in its r2;
no other byte of memory changes but those of the new save area (10_state R26). -/
def State.takesInterrupt (s t : State) (v : Byte) (handler base : Word) : Prop :=
  t.ip = handler &&& 0xFFFFFFFC ∧ s.entersFrame t (base + 16) 7 ∧ s.suspendsOnto t s.frames.cache (.val s.ip) ∧
    t.pc = 0x2002 + 0x10000 * BitVec.ofNat 32 (v.toNat / 8) ∧ t.holdsWord base (.val s.pc) ∧
    t.holdsWord (base + 4) (.val s.ac) ∧ t.holdsWord (base + 8) (.val (v.zeroExtend 32)) ∧ t.ac = s.ac ∧
    s.sameSpecial ((t.withPc s.pc).withIntr s.intr)

/-! Faults and traces. -/

/-- The outcome of an instruction of `len` bytes that raises fault `k` in the state `s` its action has left
(60_exceptions R640): the fault call of R650 to R655. -/
def State.raised (s : State) (len : Word) (k : FaultKind) : Host.Outcome State Fault Refusal :=
  toOutcome (faulted s.ip len k) s

/-- The outcome of the instruction at `ip` that has completed in `t` with the trace events `e` of enabled modes: the next
state if there is none, else their flags are set in TC and the TRACE fault is taken, the address of the next instruction
being the saved one (60_exceptions R701). -/
def State.tracedOutcome (t : State) (ip : Word) (e : BitVec 8) : Host.Outcome State Fault Refusal :=
  if e = 0 then .next t
  else toOutcome (faultCall 1 e (.val t.ip) (.val ip) false) (t.withTc (t.tc ||| (e.zeroExtend 32 <<< 16)))

end Sys2Proof.Machine
end

