-- ==== Sys2Proof/Certificates/Slice0/Obligations.lean ====
section
/-! DEFINITION. The statements for the provers. `operandValue src site s` is the value of a source operand (30_encoding R144),
`State.untraced` rules out a trace fault at the end of the instruction, `State.changesOnly` says what is left alone. -/

open Sys2Proof Sys2Proof.Machine

/-! Arithmetic. -/

/-- addo, subo, mulo, shlo, shro, shri, shrdi, rotate complete with the result of the page and change nothing else
(41_arithmetic R284, R304, R306, R316, R317, R319 to R321; R260: ordinals wrap; R315: a length above 32 acts as 32). -/
def Obligations.OrdinalAndShiftResults : Prop :=
  ∀ p ∈ ([(Instr.addo, fun a b => BitVec.ofNat 32 (b.toNat + a.toNat)),
      (Instr.subo, fun a b => BitVec.ofInt 32 ((b.toNat : Int) - a.toNat)),
      (Instr.mulo, fun a b => BitVec.ofNat 32 (b.toNat * a.toNat)),
      (Instr.shlo, fun a b => b <<< a.toNat),
      (Instr.shro, fun a b => b >>> a.toNat),
      (Instr.shri, fun a b => b.sshiftRight a.toNat),
      (Instr.shrdi, fun a b => BitVec.ofInt 32 (b.toInt.tdiv (2 ^ a.toNat))),
      (Instr.rotate, fun a b => b.rotateLeft a.toNat)] :
      List ((Operand → Operand → RegNum → Instr) × (Word → Word → Word))),
    ∀ (src1 src2 : Operand) (dst : RegNum) (s : State), s.untraced → dst ≠ 2 →
      ∃ t, exec (p.1 src1 src2 dst) s = .next t ∧
        t.slot dst = .val (p.2 (operandValue src1 Site.src1 s) (operandValue src2 Site.src2 s)) ∧
        t.ac = s.ac ∧ t.ip = s.ip + 4 ∧ s.changesOnly t [dst]

/-- addi, subi, muli, divi by a divisor other than 0, and shli complete with the exact result where it fits in 32 bits
(41_arithmetic R285, R305, R307, R309, R318); AC is unchanged. -/
def Obligations.IntegerResultsThatFit : Prop :=
  ∀ p ∈ ([(Instr.addi, fun a b => b.toInt + a.toInt), (Instr.subi, fun a b => b.toInt - a.toInt),
      (Instr.muli, fun a b => b.toInt * a.toInt), (Instr.divi, fun a b => b.toInt.tdiv a.toInt),
      (Instr.shli, fun a b => b.toInt * 2 ^ min a.toNat 32)] :
      List ((Operand → Operand → RegNum → Instr) × (Word → Word → Int))),
    ∀ (src1 src2 : Operand) (dst : RegNum) (s : State), s.untraced → dst ≠ 2 →
      (p.1 src1 src2 dst = .divi src1 src2 dst → operandValue src1 Site.src1 s ≠ 0) →
      -2147483648 ≤ p.2 (operandValue src1 Site.src1 s) (operandValue src2 Site.src2 s) →
      p.2 (operandValue src1 Site.src1 s) (operandValue src2 Site.src2 s) ≤ 2147483647 →
      ∃ t, exec (p.1 src1 src2 dst) s = .next t ∧
        t.slot dst =
          .val (BitVec.ofInt 32 (p.2 (operandValue src1 Site.src1 s) (operandValue src2 Site.src2 s))) ∧
        t.ac = s.ac ∧ t.ip = s.ip + 4 ∧ s.changesOnly t [dst]

/-- addi, subi, muli, divi and, under a condition that holds, the eight addi<cc> and the eight subi<cc>: where the exact
result does not fit in 32 bits the destination gets its low 32 bits, and then AC.of is set if AC.om is 1, else
ARITHMETIC.OVERFLOW is raised with AC unchanged. shli where src2 * 2^len does not fit: the destination gets src2 * 2^k for
the greatest k for which that fits, and then the same (41_arithmetic R261, R318). -/
def Obligations.IntegerOverflowOutcome : Prop :=
  (∀ p ∈ ([(0, true, Instr.addi, fun a b => b.toInt + a.toInt), (0, true, Instr.subi, fun a b => b.toInt - a.toInt),
       (0, true, Instr.muli, fun a b => b.toInt * a.toInt), (0, true, Instr.divi, fun a b => b.toInt.tdiv a.toInt),
       (0, false, Instr.addino, fun a b => b.toInt + a.toInt), (1, false, Instr.addig, fun a b => b.toInt + a.toInt),
       (2, false, Instr.addie, fun a b => b.toInt + a.toInt), (3, false, Instr.addige, fun a b => b.toInt + a.toInt),
       (4, false, Instr.addil, fun a b => b.toInt + a.toInt), (5, false, Instr.addine, fun a b => b.toInt + a.toInt),
       (6, false, Instr.addile, fun a b => b.toInt + a.toInt), (7, false, Instr.addio, fun a b => b.toInt + a.toInt),
       (0, false, Instr.subino, fun a b => b.toInt - a.toInt), (1, false, Instr.subig, fun a b => b.toInt - a.toInt),
       (2, false, Instr.subie, fun a b => b.toInt - a.toInt), (3, false, Instr.subige, fun a b => b.toInt - a.toInt),
       (4, false, Instr.subil, fun a b => b.toInt - a.toInt), (5, false, Instr.subine, fun a b => b.toInt - a.toInt),
       (6, false, Instr.subile, fun a b => b.toInt - a.toInt), (7, false, Instr.subio, fun a b => b.toInt - a.toInt)] :
       List (BitVec 3 × Bool × (Operand → Operand → RegNum → Instr) × (Word → Word → Int))),
     ∀ (src1 src2 : Operand) (dst : RegNum) (s : State), dst ≠ 2 → (p.2.1 = true ∨ cond p.1 s = true) →
       ¬ (-2147483648 ≤ p.2.2.2 (operandValue src1 Site.src1 s) (operandValue src2 Site.src2 s) ∧
         p.2.2.2 (operandValue src1 Site.src1 s) (operandValue src2 Site.src2 s) ≤ 2147483647) →
       (s.ac.getLsbD 12 = true → s.untraced →
         ∃ t, exec (p.2.2.1 src1 src2 dst) s = .next t ∧
           t.slot dst =
             .val (BitVec.ofInt 32 (p.2.2.2 (operandValue src1 Site.src1 s) (operandValue src2 Site.src2 s))) ∧
           t.ac = s.ac ||| 0x100 ∧ t.ip = s.ip + 4 ∧ s.changesOnly t [dst]) ∧
       (s.ac.getLsbD 12 = false →
         exec (p.2.2.1 src1 src2 dst) s =
           (s.setReg dst (BitVec.ofInt 32 (p.2.2.2 (operandValue src1 Site.src1 s)
             (operandValue src2 Site.src2 s)))).raised 4 .overflow)) ∧
  (∀ (src1 src2 : Operand) (dst : RegNum) (s : State), dst ≠ 2 →
     ¬ (-2147483648 ≤ (operandValue src2 Site.src2 s).toInt * 2 ^ min (operandValue src1 Site.src1 s).toNat 32 ∧
       (operandValue src2 Site.src2 s).toInt * 2 ^ min (operandValue src1 Site.src1 s).toNat 32 ≤ 2147483647) →
     ∃ k : Nat, k < min (operandValue src1 Site.src1 s).toNat 32 ∧
       (-2147483648 ≤ (operandValue src2 Site.src2 s).toInt * 2 ^ k ∧
         (operandValue src2 Site.src2 s).toInt * 2 ^ k ≤ 2147483647) ∧
       ¬ (-2147483648 ≤ (operandValue src2 Site.src2 s).toInt * 2 ^ (k + 1) ∧
         (operandValue src2 Site.src2 s).toInt * 2 ^ (k + 1) ≤ 2147483647) ∧
       (s.ac.getLsbD 12 = true → s.untraced →
         ∃ t, exec (.shli src1 src2 dst) s = .next t ∧
           t.slot dst = .val (BitVec.ofInt 32 ((operandValue src2 Site.src2 s).toInt * 2 ^ k)) ∧
           t.ac = s.ac ||| 0x100 ∧ t.ip = s.ip + 4 ∧ s.changesOnly t [dst]) ∧
       (s.ac.getLsbD 12 = false →
         exec (.shli src1 src2 dst) s =
           (s.setReg dst (BitVec.ofInt 32 ((operandValue src2 Site.src2 s).toInt * 2 ^ k))).raised 4 .overflow))

/-- addc and subc: the 33-bit sum of src2, of src1 or its complement, and of the carry AC.cc[1] goes to the destination and
the carry out; AC.cc is 0, carry, overflow, the overflow being that of the signed sum or difference without the carry's
exactness: operands of equal (addc) or different (subc) sign and a result sign other than that of src2
(41_arithmetic R283, R303). -/
def Obligations.CarryArithmetic : Prop :=
  ∀ (src1 src2 : Operand) (dst : RegNum) (s : State), s.untraced → dst ≠ 2 →
    (∃ t, exec (.addc src1 src2 dst) s = .next t ∧ ∃ r, t.slot dst = .val r ∧
      r.toNat + 2 ^ 32 * (t.cc.getLsbD 1).toNat =
        (operandValue src2 Site.src2 s).toNat + (operandValue src1 Site.src1 s).toNat + (s.cc.getLsbD 1).toNat ∧
      t.cc.getLsbD 0 = ((operandValue src2 Site.src2 s).msb == (operandValue src1 Site.src1 s).msb &&
        (operandValue src2 Site.src2 s).msb != r.msb) ∧
      t.cc.getLsbD 2 = false ∧ t.ac &&& ~~~7#32 = s.ac &&& ~~~7#32 ∧ t.ip = s.ip + 4 ∧ s.changesOnly t [dst]) ∧
    (∃ t, exec (.subc src1 src2 dst) s = .next t ∧ ∃ r, t.slot dst = .val r ∧
      (r.toNat : Int) + 2 ^ 32 * ((t.cc.getLsbD 1).toNat : Int) =
        (operandValue src2 Site.src2 s).toNat - (operandValue src1 Site.src1 s).toNat - 1 +
          ((s.cc.getLsbD 1).toNat : Int) + 2 ^ 32 ∧
      t.cc.getLsbD 0 = ((operandValue src2 Site.src2 s).msb != (operandValue src1 Site.src1 s).msb &&
        (operandValue src2 Site.src2 s).msb != r.msb) ∧
      t.cc.getLsbD 2 = false ∧ t.ac &&& ~~~7#32 = s.ac &&& ~~~7#32 ∧ t.ip = s.ip + 4 ∧ s.changesOnly t [dst])

/-- divo, remo, remi and modi by a divisor other than 0 complete: divo the ordinal quotient, remo the ordinal remainder,
remi the remainder with the sign of the dividend, modi the one with the sign of the divisor. A zero divisor raises
ARITHMETIC.ZERO_DIVIDE: divo, remo and remi leave the destination, divi and modi leave it some value, ediv leaves its two
destinations some values (41_arithmetic R263, R308 to R312, R314). -/
def Obligations.DivisionResults : Prop :=
  (∀ p ∈ ([(Instr.divo, fun a b => BitVec.ofNat 32 (b.toNat / a.toNat)),
       (Instr.remo, fun a b => BitVec.ofNat 32 (b.toNat % a.toNat)),
       (Instr.remi, fun a b => BitVec.ofInt 32 (b.toInt.tmod a.toInt)),
       (Instr.modi, fun a b => BitVec.ofInt 32 (b.toInt.fmod a.toInt))] :
       List ((Operand → Operand → RegNum → Instr) × (Word → Word → Word))),
     ∀ (src1 src2 : Operand) (dst : RegNum) (s : State), s.untraced → dst ≠ 2 →
       operandValue src1 Site.src1 s ≠ 0 →
       ∃ t, exec (p.1 src1 src2 dst) s = .next t ∧
         t.slot dst = .val (p.2 (operandValue src1 Site.src1 s) (operandValue src2 Site.src2 s)) ∧
         t.ac = s.ac ∧ t.ip = s.ip + 4 ∧ s.changesOnly t [dst]) ∧
  (∀ (src1 src2 : Operand) (dst : RegNum) (s : State), dst ≠ 2 → operandValue src1 Site.src1 s = 0 →
     (∀ p ∈ [Instr.divo, Instr.remo, Instr.remi], exec (p src1 src2 dst) s = s.raised 4 .zeroDivide) ∧
     (∀ p ∈ [Instr.divi, Instr.modi], ∃ v, exec (p src1 src2 dst) s = (s.setSlot dst v).raised 4 .zeroDivide) ∧
     (dst.toNat % 2 = 0 → pairValue src2 s ≠ none →
       ∃ v w, exec (.ediv src1 src2 dst) s = ((s.setSlot dst v).setSlot (dst + 1) w).raised 4 .zeroDivide))

/-- emul writes the 64-bit product to its register pair, ediv the remainder and the quotient of the 64-bit dividend to its
pair where the quotient fits in 32 bits, and some values where it does not, without a fault; eshro shifts the register pair
of src2 right by src1 modulo 32 and keeps the low word. A pair that does not start at an even register, or is a literal,
raises OPERATION.INVALID_OPERAND and leaves the destination free values. Which registers get them, and that none beyond r15
or g15 is written, is the model's choice (notes/assumptions/12.md, 13.md) (41_arithmetic R313, R314, R322; 10_state R27;
D18). -/
def Obligations.ExtendedResults : Prop :=
  (∀ (src1 src2 : Operand) (dst : RegNum) (s : State), s.untraced → dst.toNat % 2 = 0 → dst ≠ 2 →
    (∃ t, exec (.emul src1 src2 dst) s = .next t ∧ ∃ lo, t.slot dst = .val lo ∧ ∃ hi, t.slot (dst + 1) = .val hi ∧
      hi.toNat * 2 ^ 32 + lo.toNat =
        (operandValue src1 Site.src1 s).toNat * (operandValue src2 Site.src2 s).toNat ∧
      t.ac = s.ac ∧ t.ip = s.ip + 4 ∧ s.changesOnly t [dst, dst + 1]) ∧
    (∀ n : BitVec 64, pairValue src2 s = some n → operandValue src1 Site.src1 s ≠ 0 →
      ∃ t, exec (.ediv src1 src2 dst) s = .next t ∧
        (n.toNat / (operandValue src1 Site.src1 s).toNat < 2 ^ 32 →
          t.slot dst = .val (BitVec.ofNat 32 (n.toNat % (operandValue src1 Site.src1 s).toNat)) ∧
          t.slot (dst + 1) = .val (BitVec.ofNat 32 (n.toNat / (operandValue src1 Site.src1 s).toNat))) ∧
        t.ac = s.ac ∧ t.ip = s.ip + 4 ∧ s.changesOnly t [dst, dst + 1])) ∧
  (∀ (src1 src2 : Operand) (dst : RegNum) (s : State), s.untraced → dst ≠ 2 →
    ∀ n : BitVec 64, pairValue src2 s = some n →
    ∃ t, exec (.eshro src1 src2 dst) s = .next t ∧
      t.slot dst = .val (BitVec.ofNat 32 (n.toNat / 2 ^ ((operandValue src1 Site.src1 s).toNat % 32))) ∧
      t.ac = s.ac ∧ t.ip = s.ip + 4 ∧ s.changesOnly t [dst]) ∧
  (∀ (n : RegNum) (v : BitVec 5) (s : State), pairValue (.lit v) s = none ∧
    (n.toNat % 2 ≠ 0 → pairValue (.reg n) s = none) ∧
    (n.toNat % 2 = 0 → ∃ p, pairValue (.reg n) s = some p ∧
      (n ≠ 2 → p.toNat = (s.reg (n + 1)).toNat * 2 ^ 32 + (s.reg n).toNat))) ∧
  (∀ (src1 src2 : Operand) (dst : RegNum) (s : State),
    (dst.toNat % 2 ≠ 0 → exec (.emul src1 src2 dst) s =
      (s.setGroup dst 0 (freeSlots s.free 2)).raised 4 .invalidOperand) ∧
    (dst.toNat % 2 ≠ 0 ∨ pairValue src2 s = none → exec (.ediv src1 src2 dst) s =
      (s.setGroup dst 0 (freeSlots s.free 2)).raised 4 .invalidOperand) ∧
    (pairValue src2 s = none → exec (.eshro src1 src2 dst) s =
      (s.setGroup dst 0 (freeSlots s.free 1)).raised 4 .invalidOperand))

/-! Conditional forms. -/

/-- SEL<cc>: src2 if the condition holds, else src1 (40_data_movement R230). -/
def Obligations.SelectResults : Prop :=
  ∀ p ∈ ([(0, Instr.selno), (1, Instr.selg), (2, Instr.sele), (3, Instr.selge), (4, Instr.sell), (5, Instr.selne),
      (6, Instr.selle), (7, Instr.selo)] : List (BitVec 3 × (Operand → Operand → RegNum → Instr))),
    ∀ (src1 src2 : Operand) (dst : RegNum) (s : State), s.untraced → dst ≠ 2 →
      ∃ t, exec (p.2 src1 src2 dst) s = .next t ∧
        t.slot dst = .val (if p.1 &&& s.cc ≠ 0 ∨ p.1 = s.cc then operandValue src2 Site.src2 s
          else operandValue src1 Site.src1 s) ∧
        t.ac = s.ac ∧ t.ip = s.ip + 4 ∧ s.changesOnly t [dst]

/-- ADDO<cc> and SUBO<cc>: the sum or difference modulo 2^32 if the condition holds, else the destination keeps its
contents. ADDI<cc> and SUBI<cc>: where the condition fails nothing happens and nothing can overflow; where it holds and the
exact result fits, the destination gets it (41_arithmetic R265, R286). -/
def Obligations.ConditionalArithmetic : Prop :=
  (∀ p ∈ ([(0, Instr.addono, fun a b => b + a), (1, Instr.addog, fun a b => b + a), (2, Instr.addoe, fun a b => b + a),
       (3, Instr.addoge, fun a b => b + a), (4, Instr.addol, fun a b => b + a), (5, Instr.addone, fun a b => b + a),
       (6, Instr.addole, fun a b => b + a), (7, Instr.addoo, fun a b => b + a), (0, Instr.subono, fun a b => b - a),
       (1, Instr.subog, fun a b => b - a), (2, Instr.suboe, fun a b => b - a), (3, Instr.suboge, fun a b => b - a),
       (4, Instr.subol, fun a b => b - a), (5, Instr.subone, fun a b => b - a), (6, Instr.subole, fun a b => b - a),
       (7, Instr.suboo, fun a b => b - a)] :
       List (BitVec 3 × (Operand → Operand → RegNum → Instr) × (Word → Word → Word))),
     ∀ (src1 src2 : Operand) (dst : RegNum) (s : State), s.untraced → dst ≠ 2 →
       ∃ t, exec (p.2.1 src1 src2 dst) s = .next t ∧
         t.slot dst = (if p.1 &&& s.cc ≠ 0 ∨ p.1 = s.cc then
           .val (p.2.2 (operandValue src1 Site.src1 s) (operandValue src2 Site.src2 s)) else s.slot dst) ∧
         t.ac = s.ac ∧ t.ip = s.ip + 4 ∧ s.changesOnly t (if p.1 &&& s.cc ≠ 0 ∨ p.1 = s.cc then [dst] else [])) ∧
  (∀ p ∈ ([(0, Instr.addino, fun a b => b.toInt + a.toInt), (1, Instr.addig, fun a b => b.toInt + a.toInt),
       (2, Instr.addie, fun a b => b.toInt + a.toInt), (3, Instr.addige, fun a b => b.toInt + a.toInt),
       (4, Instr.addil, fun a b => b.toInt + a.toInt), (5, Instr.addine, fun a b => b.toInt + a.toInt),
       (6, Instr.addile, fun a b => b.toInt + a.toInt), (7, Instr.addio, fun a b => b.toInt + a.toInt),
       (0, Instr.subino, fun a b => b.toInt - a.toInt), (1, Instr.subig, fun a b => b.toInt - a.toInt),
       (2, Instr.subie, fun a b => b.toInt - a.toInt), (3, Instr.subige, fun a b => b.toInt - a.toInt),
       (4, Instr.subil, fun a b => b.toInt - a.toInt), (5, Instr.subine, fun a b => b.toInt - a.toInt),
       (6, Instr.subile, fun a b => b.toInt - a.toInt), (7, Instr.subio, fun a b => b.toInt - a.toInt)] :
       List (BitVec 3 × (Operand → Operand → RegNum → Instr) × (Word → Word → Int))),
     ∀ (src1 src2 : Operand) (dst : RegNum) (s : State), s.untraced → dst ≠ 2 →
       (¬ (p.1 &&& s.cc ≠ 0 ∨ p.1 = s.cc) ∨
         (-2147483648 ≤ p.2.2 (operandValue src1 Site.src1 s) (operandValue src2 Site.src2 s) ∧
           p.2.2 (operandValue src1 Site.src1 s) (operandValue src2 Site.src2 s) ≤ 2147483647)) →
       ∃ t, exec (p.2.1 src1 src2 dst) s = .next t ∧
         t.slot dst = (if p.1 &&& s.cc ≠ 0 ∨ p.1 = s.cc then
           .val (BitVec.ofInt 32 (p.2.2 (operandValue src1 Site.src1 s) (operandValue src2 Site.src2 s)))
           else s.slot dst) ∧
         t.ac = s.ac ∧ t.ip = s.ip + 4 ∧ s.changesOnly t (if p.1 &&& s.cc ≠ 0 ∨ p.1 = s.cc then [dst] else []))


/-! Logical, bit, bit-field and byte instructions. -/

/-- The logical instructions of two operands complete with the Boolean operation of R350 on 32 bits; AC is neither read nor
written (42_logical_bit_byte R350). -/
def Obligations.LogicalResults : Prop :=
  (∀ p ∈ ([(Instr.and, fun a b => b && a), (Instr.notand, fun a b => !b && a), (Instr.andnot, fun a b => b && !a),
      (Instr.xor, fun a b => b != a), (Instr.or, fun a b => b || a), (Instr.nor, fun a b => !(b || a)),
      (Instr.xnor, fun a b => b == a), (Instr.notor, fun a b => !b || a), (Instr.ornot, fun a b => b || !a),
      (Instr.nand, fun a b => !(b && a))] :
      List ((Operand → Operand → RegNum → Instr) × (Bool → Bool → Bool))),
    ∀ (src1 src2 : Operand) (dst : RegNum) (s : State), s.untraced → dst ≠ 2 →
      ∃ t, exec (p.1 src1 src2 dst) s = .next t ∧
        (∃ v, t.slot dst = .val v ∧ ∀ i < 32, v.getLsbD i =
          p.2 ((operandValue src1 Site.src1 s).getLsbD i) ((operandValue src2 Site.src2 s).getLsbD i)) ∧
        t.ac = s.ac ∧ t.ip = s.ip + 4 ∧ s.changesOnly t [dst]) ∧
  (∀ (src1 : Operand) (dst : RegNum) (s : State), s.untraced → dst ≠ 2 →
    ∃ t, exec (.not src1 dst) s = .next t ∧
      (∃ v, t.slot dst = .val v ∧ ∀ i < 32, v.getLsbD i = !(operandValue src1 Site.src1 s).getLsbD i) ∧
      t.ac = s.ac ∧ t.ip = s.ip + 4 ∧ s.changesOnly t [dst])

/-- setbit, clrbit, notbit and alterbit change the one bit of src2 that src1 modulo 32 names: to 1, to 0, to its
complement, to AC.cc[1]. extract moves `len` bits of its register from `bitpos` modulo 32 down to bit 0 and clears the
others; modify replaces the bits that the mask selects; bswap reverses the bytes
(42_logical_bit_byte R351, R353, R356, R358 to R360, R365, R371). -/
def Obligations.BitAndFieldResults : Prop :=
  (∀ p ∈ ([(Instr.setbit, fun _ _ => true), (Instr.clrbit, fun _ _ => false), (Instr.notbit, fun _ old => !old),
       (Instr.alterbit, fun c _ => c)] : List ((Operand → Operand → RegNum → Instr) × (Bool → Bool → Bool))),
     ∀ (src1 src2 : Operand) (dst : RegNum) (s : State), s.untraced → dst ≠ 2 →
       ∃ t, exec (p.1 src1 src2 dst) s = .next t ∧
         (∃ v, t.slot dst = .val v ∧ ∀ i < 32, v.getLsbD i =
           if i = (operandValue src1 Site.src1 s).toNat % 32
           then p.2 (s.ac.getLsbD 1) ((operandValue src2 Site.src2 s).getLsbD i)
           else (operandValue src2 Site.src2 s).getLsbD i) ∧
         t.ac = s.ac ∧ t.ip = s.ip + 4 ∧ s.changesOnly t [dst]) ∧
  (∀ (src1 src2 : Operand) (dst : RegNum) (s : State), s.untraced → dst ≠ 2 →
     (∃ t, exec (.extract src1 src2 dst) s = .next t ∧
       (∃ v, t.slot dst = .val v ∧ ∀ i < 32, v.getLsbD i =
         (decide (i < (operandValue src2 Site.src2 s).toNat) &&
           (s.reg dst).getLsbD (i + (operandValue src1 Site.src1 s).toNat % 32))) ∧
       t.ac = s.ac ∧ t.ip = s.ip + 4 ∧ s.changesOnly t [dst]) ∧
     (∃ t, exec (.modify src1 src2 dst) s = .next t ∧
       (∃ v, t.slot dst = .val v ∧ ∀ i < 32, v.getLsbD i =
         if (operandValue src1 Site.src1 s).getLsbD i then (operandValue src2 Site.src2 s).getLsbD i
         else (s.reg dst).getLsbD i) ∧
       t.ac = s.ac ∧ t.ip = s.ip + 4 ∧ s.changesOnly t [dst]) ∧
     (∃ t, exec (.bswap src1 dst) s = .next t ∧
       (∃ v, t.slot dst = .val v ∧ ∀ i < 4, byteLane v i = byteLane (operandValue src1 Site.src1 s) (3 - i)) ∧
       t.ac = s.ac ∧ t.ip = s.ip + 4 ∧ s.changesOnly t [dst]))

/-- scanbit finds the most significant 1 bit, spanbit the most significant 0 bit: its number and AC.cc 010, or all ones
and AC.cc 000 where there is none. chkbit sets AC.cc to 010 where the bit of src2 that src1 modulo 32 names is 1, scanbyte
where src1 and src2 agree in a byte, else to 000; nothing else changes (42_logical_bit_byte R351, R352, R357, R369, R370,
R372). -/
def Obligations.SearchResults : Prop :=
  (∀ p ∈ ([(Instr.scanbit, true), (Instr.spanbit, false)] : List ((Operand → RegNum → Instr) × Bool)),
    ∀ (src1 : Operand) (dst : RegNum) (s : State), s.untraced → dst ≠ 2 →
      ∃ t, exec (p.1 src1 dst) s = .next t ∧
        ((∀ i < 32, (operandValue src1 Site.src1 s).getLsbD i ≠ p.2) →
          t.slot dst = .val 0xFFFFFFFF ∧ s.setsCc t 0) ∧
        (∀ n < 32, (operandValue src1 Site.src1 s).getLsbD n = p.2 →
          (∀ i < 32, n < i → (operandValue src1 Site.src1 s).getLsbD i ≠ p.2) →
          t.slot dst = .val (BitVec.ofNat 32 n) ∧ s.setsCc t 2) ∧
        t.ip = s.ip + 4 ∧ s.changesOnly t [dst]) ∧
  (∀ (src1 src2 : Operand) (s : State), s.untraced →
    (∃ t, exec (.chkbit src1 src2) s = .next t ∧
      s.setsCc t (if (operandValue src2 Site.src2 s).getLsbD ((operandValue src1 Site.src1 s).toNat % 32) then 2 else 0) ∧
      t.ip = s.ip + 4 ∧ s.changesOnly t []) ∧
    (∃ t, exec (.scanbyte src1 src2) s = .next t ∧
      s.setsCc t (if (List.range 4).any (fun i =>
          byteLane (operandValue src1 Site.src1 s) i == byteLane (operandValue src2 Site.src2 s) i) then 2 else 0) ∧
      t.ip = s.ip + 4 ∧ s.changesOnly t []))

/-! Comparisons. -/

/-- A comparison sets AC.cc to 100, 010 or 001 as src1 is less than, equal to or greater than src2, on the low 32, 16 or 8
bits, as integers or ordinals, and changes nothing else; concmpo and concmpi compare only where AC.cc[2] is 0, and then set
AC.cc to 010 or 001 as src1 is at most or above src2. cmpdeco, cmpdeci, cmpinco and cmpinci compare as cmpo or cmpi and
write src2 minus or plus 1, which wraps (43_compare_test R400, R405 to R417). -/
def Obligations.CompareResults : Prop :=
  ((∀ p ∈ ([(Instr.cmpo, fun a b => compare a.toNat b.toNat), (Instr.cmpi, fun a b => compare a.toInt b.toInt),
       (Instr.cmpob, fun a b => compare (a.toNat % 2 ^ 8) (b.toNat % 2 ^ 8)),
       (Instr.cmpib, fun a b => compare (a.toInt.bmod (2 ^ 8)) (b.toInt.bmod (2 ^ 8))),
       (Instr.cmpos, fun a b => compare (a.toNat % 2 ^ 16) (b.toNat % 2 ^ 16)),
       (Instr.cmpis, fun a b => compare (a.toInt.bmod (2 ^ 16)) (b.toInt.bmod (2 ^ 16)))] :
       List ((Operand → Operand → Instr) × (Word → Word → Ordering))),
     ∀ (src1 src2 : Operand) (s : State), s.untraced →
       ∃ t, exec (p.1 src1 src2) s = .next t ∧
         s.setsCc t (match p.2 (operandValue src1 Site.src1 s) (operandValue src2 Site.src2 s) with
           | .lt => 4 | .eq => 2 | .gt => 1) ∧
         t.ip = s.ip + 4 ∧ s.changesOnly t []) ∧
   (∀ p ∈ ([(Instr.concmpo, fun a b => decide (a.toNat ≤ b.toNat)), (Instr.concmpi, fun a b => decide (a.toInt ≤ b.toInt))] :
       List ((Operand → Operand → Instr) × (Word → Word → Bool))),
     ∀ (src1 src2 : Operand) (s : State), s.untraced →
       ∃ t, exec (p.1 src1 src2) s = .next t ∧
         (s.ac.getLsbD 2 = false →
           s.setsCc t (if p.2 (operandValue src1 Site.src1 s) (operandValue src2 Site.src2 s) then 2 else 1)) ∧
         (s.ac.getLsbD 2 = true → t.ac = s.ac) ∧
         t.ip = s.ip + 4 ∧ s.changesOnly t [])) ∧
  (∀ p ∈ ([(Instr.cmpdeco, fun a b => compare a.toNat b.toNat, -1), (Instr.cmpdeci, fun a b => compare a.toInt b.toInt, -1),
       (Instr.cmpinco, fun a b => compare a.toNat b.toNat, 1), (Instr.cmpinci, fun a b => compare a.toInt b.toInt, 1)] :
       List ((Operand → Operand → RegNum → Instr) × (Word → Word → Ordering) × Int)),
     ∀ (src1 src2 : Operand) (dst : RegNum) (s : State), s.untraced → dst ≠ 2 →
       ∃ t, exec (p.1 src1 src2 dst) s = .next t ∧
         t.slot dst = .val (BitVec.ofInt 32 ((operandValue src2 Site.src2 s).toInt + p.2.2)) ∧
         s.setsCc t (match p.2.1 (operandValue src1 Site.src1 s) (operandValue src2 Site.src2 s) with
           | .lt => 4 | .eq => 2 | .gt => 1) ∧
         t.ip = s.ip + 4 ∧ s.changesOnly t [dst])

/-- TEST<cc> stores 1 where AC.cc meets the mask of the opcode, else 0 (43_compare_test R418 to R426). -/
def Obligations.TestResults : Prop :=
  ∀ p ∈ ([(0, Instr.testno), (1, Instr.testg), (2, Instr.teste), (3, Instr.testge), (4, Instr.testl), (5, Instr.testne),
      (6, Instr.testle), (7, Instr.testo)] : List (BitVec 3 × (RegNum → Instr))),
    ∀ (dst : RegNum) (s : State), s.untraced → dst ≠ 2 →
      ∃ t, exec (p.2 dst) s = .next t ∧
        t.slot dst = .val (if p.1 &&& s.ac.extractLsb' 0 3 ≠ 0 ∨ p.1 = s.ac.extractLsb' 0 3 then 1 else 0) ∧
        t.ac = s.ac ∧ t.ip = s.ip + 4 ∧ s.changesOnly t [dst]

/-! Branches. -/

/-- b and bal add their displacement to their own address, bx and balx go to their effective address, the low two bits
dropped; bal writes the address of the next instruction to g14, balx to its destination, and nothing else changes.
BRANCH<cc> branches exactly where AC.cc meets the mask of the opcode (44_branch R440 to R442, R445 to R448, R451 to R459).
-/
def Obligations.Branches : Prop :=
  (∀ (disp : BitVec 24) (m : MemOperand) (dst : RegNum) (s : State), s.untraced → dst ≠ 2 →
     (∃ t, exec (.b disp) s = .next t ∧ t.ip = (s.ip + disp.signExtend 32) &&& ~~~3 ∧ t.ac = s.ac ∧
       s.changesOnly t []) ∧
     (∃ t, exec (.bx m) s = .next t ∧ t.ip = efa m s &&& ~~~3 ∧ t.ac = s.ac ∧ s.changesOnly t []) ∧
     (∃ t, exec (.bal disp) s = .next t ∧ t.ip = (s.ip + disp.signExtend 32) &&& ~~~3 ∧
       t.slot 30 = .val (s.ip + 4) ∧ t.ac = s.ac ∧ s.changesOnly t [30]) ∧
     (∃ t, exec (.balx m dst) s = .next t ∧ t.ip = efa m s &&& ~~~3 ∧
       t.slot dst = .val (s.ip + (if m.secondWord.isSome then 8 else 4)) ∧ t.ac = s.ac ∧ s.changesOnly t [dst])) ∧
  (∀ p ∈ ([(0, Instr.bno), (1, Instr.bg), (2, Instr.be), (3, Instr.bge), (4, Instr.bl), (5, Instr.bne), (6, Instr.ble),
       (7, Instr.bo)] : List (BitVec 3 × (BitVec 24 → Instr))),
     ∀ (disp : BitVec 24) (s : State), s.untraced →
       ∃ t, exec (p.2 disp) s = .next t ∧
         t.ip = (if p.1 &&& s.ac.extractLsb' 0 3 ≠ 0 ∨ p.1 = s.ac.extractLsb' 0 3
           then (s.ip + disp.signExtend 32) &&& ~~~3 else s.ip + 4) ∧
         t.ac = s.ac ∧ s.changesOnly t [])

/-- bbc and bbs set AC.cc to 010 or 000 as the bit of src2 that src1 modulo 32 names is 1 or 0; bbc branches where it is 0,
bbs where it is 1. The compare-and-branch instructions set AC.cc by the comparison of src1 against src2 and branch exactly
where the mask of the opcode selects the code set: cmpibo always, cmpibno never (44_branch R440, R441, R449, R450, R460 to
R474). -/
def Obligations.CompareAndBranch : Prop :=
  (∀ p ∈ ([(Instr.bbc, false), (Instr.bbs, true)] : List ((Operand → RegNum → BitVec 13 → Instr) × Bool)),
     ∀ (src1 : Operand) (src2 : RegNum) (disp : BitVec 13) (s : State), s.untraced →
       ∃ t, exec (p.1 src1 src2 disp) s = .next t ∧
         s.setsCc t (if (operandValue (.reg src2) Site.src2 s).getLsbD ((operandValue src1 Site.src1 s).toNat % 32) then 2 else 0) ∧
         t.ip = (if (operandValue (.reg src2) Site.src2 s).getLsbD ((operandValue src1 Site.src1 s).toNat % 32) = p.2
           then (s.ip + disp.signExtend 32) &&& ~~~3 else s.ip + 4) ∧
         s.changesOnly t []) ∧
  ((∀ p ∈ ([(1, Instr.cmpobg), (2, Instr.cmpobe), (3, Instr.cmpobge), (4, Instr.cmpobl), (5, Instr.cmpobne),
       (6, Instr.cmpoble)] : List (BitVec 3 × (Operand → RegNum → BitVec 13 → Instr))),
     ∀ (src1 : Operand) (src2 : RegNum) (disp : BitVec 13) (s : State), s.untraced →
       ∃ t, exec (p.2 src1 src2 disp) s = .next t ∧
         s.setsCc t (match compare (operandValue src1 Site.src1 s).toNat (operandValue (.reg src2) Site.src2 s).toNat with
           | .lt => 4 | .eq => 2 | .gt => 1) ∧
         t.ip = (if p.1 &&& t.ac.extractLsb' 0 3 ≠ 0 then (s.ip + disp.signExtend 32) &&& ~~~3 else s.ip + 4) ∧
         s.changesOnly t []) ∧
   (∀ p ∈ ([(0, Instr.cmpibno), (1, Instr.cmpibg), (2, Instr.cmpibe), (3, Instr.cmpibge), (4, Instr.cmpibl),
       (5, Instr.cmpibne), (6, Instr.cmpible), (7, Instr.cmpibo)] :
       List (BitVec 3 × (Operand → RegNum → BitVec 13 → Instr))),
     ∀ (src1 : Operand) (src2 : RegNum) (disp : BitVec 13) (s : State), s.untraced →
       ∃ t, exec (p.2 src1 src2 disp) s = .next t ∧
         s.setsCc t (match compare (operandValue src1 Site.src1 s).toInt (operandValue (.reg src2) Site.src2 s).toInt with
           | .lt => 4 | .eq => 2 | .gt => 1) ∧
         t.ip = (if p.1 &&& t.ac.extractLsb' 0 3 ≠ 0 then (s.ip + disp.signExtend 32) &&& ~~~3 else s.ip + 4) ∧
         s.changesOnly t []))

/-- A conditional branch, bit branch or compare-and-branch that does not branch goes on to IP + 4 (44_branch R441). -/
def Obligations.NotTakenGoesOn : Prop :=
  ∀ (src1 : Operand) (src2 : RegNum) (disp : BitVec 24) (d : BitVec 13) (s : State), s.untraced →
    (∀ p ∈ ([(0, Instr.bno), (1, Instr.bg), (2, Instr.be), (3, Instr.bge), (4, Instr.bl), (5, Instr.bne),
        (6, Instr.ble), (7, Instr.bo)] : List (BitVec 3 × (BitVec 24 → Instr))),
      ¬ (p.1 &&& s.ac.extractLsb' 0 3 ≠ 0 ∨ p.1 = s.ac.extractLsb' 0 3) →
        ∃ t, exec (p.2 disp) s = .next t ∧ t.ip = s.ip + 4) ∧
    (∀ p ∈ ([(true, Instr.bbc), (false, Instr.bbs)] : List (Bool × (Operand → RegNum → BitVec 13 → Instr))),
      (operandValue (.reg src2) Site.src2 s).getLsbD ((operandValue src1 Site.src1 s).toNat % 32) = p.1 →
        ∃ t, exec (p.2 src1 src2 d) s = .next t ∧ t.ip = s.ip + 4) ∧
    (∀ p ∈ ([(fun a b => decide (a ≤ b), Instr.cmpobg), (fun a b => decide (a ≠ b), Instr.cmpobe),
        (fun a b => decide (a < b), Instr.cmpobge), (fun a b => decide (b ≤ a), Instr.cmpobl),
        (fun a b => decide (a = b), Instr.cmpobne), (fun a b => decide (b < a), Instr.cmpoble)] :
        List ((Nat → Nat → Bool) × (Operand → RegNum → BitVec 13 → Instr))),
      p.1 (operandValue src1 Site.src1 s).toNat (operandValue (.reg src2) Site.src2 s).toNat = true →
        ∃ t, exec (p.2 src1 src2 d) s = .next t ∧ t.ip = s.ip + 4) ∧
    (∀ p ∈ ([(fun _ _ => true, Instr.cmpibno), (fun a b => decide (a ≤ b), Instr.cmpibg),
        (fun a b => decide (a ≠ b), Instr.cmpibe), (fun a b => decide (a < b), Instr.cmpibge),
        (fun a b => decide (b ≤ a), Instr.cmpibl), (fun a b => decide (a = b), Instr.cmpibne),
        (fun a b => decide (b < a), Instr.cmpible)] :
        List ((Int → Int → Bool) × (Operand → RegNum → BitVec 13 → Instr))),
      p.1 (operandValue src1 Site.src1 s).toInt (operandValue (.reg src2) Site.src2 s).toInt = true →
        ∃ t, exec (p.2 src1 src2 d) s = .next t ∧ t.ip = s.ip + 4)


/-! Moves, loads and stores. -/

/-- mov, movl, movt and movq copy an aligned group of registers, or a literal with zeros above it, into an aligned group;
a source register r2 gives some value (40_data_movement R214 to R218). -/
def Obligations.MoveResults : Prop :=
  ∀ p ∈ ([(1, 1, Instr.mov), (2, 2, Instr.movl), (3, 4, Instr.movt), (4, 4, Instr.movq)] :
      List (Nat × Nat × (Operand → RegNum → Instr))),
    ∀ (n dst : RegNum) (v : BitVec 5) (s : State), s.untraced → dst.toNat % p.2.1 = 0 →
      (∀ i < p.1, dst + BitVec.ofNat 5 i ≠ 2) →
      (n.toNat % p.2.1 = 0 → ∃ t, exec (p.2.2 (.reg n) dst) s = .next t ∧
        (∀ i < p.1, n + BitVec.ofNat 5 i ≠ 2 → t.slot (dst + BitVec.ofNat 5 i) = s.slot (n + BitVec.ofNat 5 i)) ∧
        t.ac = s.ac ∧ t.ip = s.ip + 4 ∧
        s.changesOnly t ((List.range p.1).map (fun i => dst + BitVec.ofNat 5 i))) ∧
      (∃ t, exec (p.2.2 (.lit v) dst) s = .next t ∧
        (∀ i < p.1, t.slot (dst + BitVec.ofNat 5 i) = .val (if i = 0 then v.zeroExtend 32 else 0)) ∧
        t.ac = s.ac ∧ t.ip = s.ip + 4 ∧
        s.changesOnly t ((List.range p.1).map (fun i => dst + BitVec.ofNat 5 i)))

/-- lda writes the effective address to its register, without any access. It is, by the nine addressing modes, the sum of
the base, the scaled index and the offset or displacement that the mode has, modulo 2^32; the base of the IP mode is IP +
8 (30_encoding R149 to R152; 40_data_movement R213). -/
def Obligations.EffectiveAddresses : Prop :=
  (∀ (src : MemOperand) (dst : RegNum) (s : State), s.untraced → dst ≠ 2 →
    ∃ t, exec (.lda src dst) s = .next t ∧ t.slot dst = .val (efa src s) ∧ t.ac = s.ac ∧
      t.ip = s.ip + memLength src ∧ s.changesOnly t [dst]) ∧
  (∀ (b i : RegNum) (off : BitVec 12) (d : Word) (s : State), b ≠ 2 → i ≠ 2 →
    efa (.absOffset off) s = BitVec.ofNat 32 off.toNat ∧ efa (.absDisp d) s = d ∧ efa (.indirect b) s = s.reg b ∧
    efa (.indOffset b off) s = BitVec.ofNat 32 ((s.reg b).toNat + off.toNat) ∧
    efa (.indDisp b d) s = BitVec.ofNat 32 ((s.reg b).toNat + d.toNat) ∧
    efa (.ipDisp d) s = BitVec.ofNat 32 (s.ip.toNat + d.toNat + 8) ∧
    ∀ p ∈ [(Scale.x1, 1), (Scale.x2, 2), (Scale.x4, 4), (Scale.x8, 8), (Scale.x16, 16)],
      efa (.indIndex b i p.1) s = BitVec.ofNat 32 ((s.reg b).toNat + (s.reg i).toNat * p.2) ∧
      efa (.indexDisp i p.1 d) s = BitVec.ofNat 32 ((s.reg i).toNat * p.2 + d.toNat) ∧
      efa (.indIndexDisp b i p.1 d) s = BitVec.ofNat 32 ((s.reg b).toNat + (s.reg i).toNat * p.2 + d.toNat))

/-- ldob, ldos, ldib, ldis and ld from settled memory complete with the byte, half word or word at the effective address,
zero-extended or sign-extended, in the byte order in force; ldl, ldt and ldq into an aligned group put the word at the
lowest address into the lowest register (40_data_movement R201, R203, R205 to R212; 20_memory R99 to R101). -/
def Obligations.LoadResults : Prop :=
  (∀ p ∈ ([(1, 0, Instr.ldob, fun s a => (s.byteAt a).zeroExtend 32),
       (2, 1, Instr.ldos, fun s a => (s.halfAt a).zeroExtend 32),
       (1, 0, Instr.ldib, fun s a => (s.byteAt a).signExtend 32),
       (2, 1, Instr.ldis, fun s a => (s.halfAt a).signExtend 32), (4, 2, Instr.ld, fun s a => s.wordAt a)] :
       List (Nat × Nat × (MemOperand → RegNum → Instr) × (State → Word → Word))),
     ∀ (src : MemOperand) (dst : RegNum) (s : State), s.untraced → dst ≠ 2 → s.settled (efa src s) p.1 →
       s.alignedFor (efa src s) p.2.1 →
       ∃ t, exec (p.2.2.1 src dst) s = .next t ∧ t.slot dst = .val (p.2.2.2 s (efa src s)) ∧ t.ac = s.ac ∧
         t.ip = s.ip + memLength src ∧ s.changesOnly t [dst]) ∧
  (∀ p ∈ ([(2, 2, 3, Instr.ldl), (3, 4, 4, Instr.ldt), (4, 4, 4, Instr.ldq)] :
       List (Nat × Nat × Nat × (MemOperand → RegNum → Instr))),
     ∀ (src : MemOperand) (dst : RegNum) (s : State), s.untraced → dst.toNat % p.2.1 = 0 →
       (∀ i < p.1, dst + BitVec.ofNat 5 i ≠ 2) → s.settled (efa src s) (4 * p.1) → s.alignedFor (efa src s) p.2.2.1 →
       ∃ t, exec (p.2.2.2 src dst) s = .next t ∧
         (∀ i < p.1, t.slot (dst + BitVec.ofNat 5 i) = .val (s.wordAt (efa src s + BitVec.ofNat 32 (4 * i)))) ∧
         t.ac = s.ac ∧ t.ip = s.ip + memLength src ∧
         s.changesOnly t ((List.range p.1).map (fun i => dst + BitVec.ofNat 5 i)))

/-- stob, stos and st to memory that can be written store the low bytes of the register at the effective address, in the
byte order in force, and change no other byte; stl, stt and stq store an aligned group of registers, the lowest register at
the lowest address (40_data_movement R201, R203, R221, R223, R224, R227 to R229; 20_memory R99 to R101). -/
def Obligations.StoreResults : Prop :=
  (∀ p ∈ ([(1, 0, Instr.stob), (2, 1, Instr.stos), (4, 2, Instr.st)] : List (Nat × Nat × (RegNum → MemOperand → Instr))),
     ∀ (src : RegNum) (dst : MemOperand) (s : State), s.untraced → s.mem.wf = true →
       s.writable (efa dst s) p.1 → s.protectedIn s.supervisor (efa dst s) p.1 = false → s.alignedFor (efa dst s) p.2.1 →
       ∃ t, exec (p.2.2 src dst) s = .next t ∧
         (∀ i < p.1, t.byteAt (efa dst s + BitVec.ofNat 32 i) =
           ((s.srcSlot Site.srcDst src).byte (if s.bigEndian then p.1 - 1 - i else i)).get) ∧
         t.ac = s.ac ∧ t.ip = s.ip + memLength dst ∧ s.storesOnly t (efa dst s) p.1) ∧
  (∀ p ∈ ([(2, 2, 3, Instr.stl), (3, 4, 4, Instr.stt), (4, 4, 4, Instr.stq)] :
       List (Nat × Nat × Nat × (RegNum → MemOperand → Instr))),
     ∀ (src : RegNum) (dst : MemOperand) (s : State), s.untraced → src.toNat % p.2.1 = 0 → s.mem.wf = true →
       s.writable (efa dst s) (4 * p.1) → s.protectedIn s.supervisor (efa dst s) (4 * p.1) = false →
       s.alignedFor (efa dst s) p.2.2.1 →
       ∃ t, exec (p.2.2.2 src dst) s = .next t ∧
         (∀ i < p.1, src + BitVec.ofNat 5 i ≠ 2 →
           t.holdsWord (efa dst s + BitVec.ofNat 32 (4 * i)) (s.slot (src + BitVec.ofNat 5 i))) ∧
         t.ac = s.ac ∧ t.ip = s.ip + memLength dst ∧ s.storesOnly t (efa dst s) (4 * p.1))

/-- stib and stis store the low bytes of the register; where the discarded bits are neither all 0 nor all 1, then AC.of is
set or ARITHMETIC.OVERFLOW is raised after the store (40_data_movement R222, R225, R226). -/
def Obligations.IntegerStoreResults : Prop :=
  ∀ p ∈ ([(1, 0, Instr.stib, State.poke1), (2, 1, Instr.stis, State.poke16)] :
      List (Nat × Nat × (RegNum → MemOperand → Instr) × (State → Word → Slot → State))),
    ∀ (src : RegNum) (dst : MemOperand) (s : State), s.mem.wf = true →
      s.writable (efa dst s) p.1 → s.protectedIn s.supervisor (efa dst s) p.1 = false → s.alignedFor (efa dst s) p.2.1 →
      ∀ v : Slot, v = s.srcSlot Site.srcDst src → ∀ u : State, u = p.2.2.2 s (efa dst s) v →
      (∀ i < p.1, u.byteAt (efa dst s + BitVec.ofNat 32 i) = (v.byte (if s.bigEndian then p.1 - 1 - i else i)).get) ∧
      s.storesOnly u (efa dst s) p.1 ∧ u.ip = s.ip ∧ u.ac = s.ac ∧
      (v.get.toNat / 2 ^ (8 * p.1) = 0 ∨ v.get.toNat / 2 ^ (8 * p.1) = 2 ^ (32 - 8 * p.1) - 1 →
        s.untraced → ∃ t, exec (p.2.2.1 src dst) s = .next t ∧ t.mem = u.mem ∧
          t.ac = s.ac ∧ t.ip = s.ip + memLength dst ∧ s.storesOnly t (efa dst s) p.1) ∧
      (¬ (v.get.toNat / 2 ^ (8 * p.1) = 0 ∨ v.get.toNat / 2 ^ (8 * p.1) = 2 ^ (32 - 8 * p.1) - 1) →
        (s.ac.getLsbD 12 = true → s.untraced → ∃ t, exec (p.2.2.1 src dst) s = .next t ∧ t.mem = u.mem ∧
          t.ac = s.ac ||| 0x100 ∧ t.ip = s.ip + memLength dst ∧ s.storesOnly t (efa dst s) p.1) ∧
        (s.ac.getLsbD 12 = false → exec (p.2.2.1 src dst) s = u.raised (memLength dst) .overflow))

/-- An unaligned access is made in full, and then OPERATION.UNALIGNED is raised unless it is masked: loads and
stores of half words, words and register groups (20_memory R104; 40_data_movement R202). -/
def Obligations.UnalignedAccessFaults : Prop :=
  (∀ p ∈ ([(2, 1, Instr.ldos, fun s a => (s.halfAt a).zeroExtend 32),
      (2, 1, Instr.ldis, fun s a => (s.halfAt a).signExtend 32), (4, 2, Instr.ld, fun s a => s.wordAt a)] :
      List (Nat × Nat × (MemOperand → RegNum → Instr) × (State → Word → Word))),
    ∀ (src : MemOperand) (dst : RegNum) (s : State), dst ≠ 2 → s.settled (efa src s) p.1 →
      (efa src s).toNat % 2 ^ p.2.1 ≠ 0 → s.unalignedMasked = false →
      exec (p.2.2.1 src dst) s = (s.setReg dst (p.2.2.2 s (efa src s))).raised (memLength src) .unaligned) ∧
  (∀ p ∈ ([(2, 1, Instr.stos, State.poke16), (2, 1, Instr.stis, State.poke16), (4, 2, Instr.st, State.poke32)] :
      List (Nat × Nat × (RegNum → MemOperand → Instr) × (State → Word → Slot → State))),
    ∀ (src : RegNum) (dst : MemOperand) (s : State), s.mem.wf = true →
      s.writable (efa dst s) p.1 → s.protectedIn s.supervisor (efa dst s) p.1 = false →
      (efa dst s).toNat % 2 ^ p.2.1 ≠ 0 → s.unalignedMasked = false →
      (∀ i < p.1, (p.2.2.2 s (efa dst s) (s.srcSlot Site.srcDst src)).byteAt (efa dst s + BitVec.ofNat 32 i) =
          ((s.srcSlot Site.srcDst src).byte (if s.bigEndian then p.1 - 1 - i else i)).get) ∧
      s.storesOnly (p.2.2.2 s (efa dst s) (s.srcSlot Site.srcDst src)) (efa dst s) p.1 ∧
      exec (p.2.2.1 src dst) s = (p.2.2.2 s (efa dst s) (s.srcSlot Site.srcDst src)).raised (memLength dst) .unaligned) ∧
  (∀ p ∈ ([(2, 2, 3, Instr.ldl), (3, 4, 4, Instr.ldt), (4, 4, 4, Instr.ldq)] :
      List (Nat × Nat × Nat × (MemOperand → RegNum → Instr))),
    ∀ (src : MemOperand) (dst : RegNum) (s : State), dst.toNat % p.2.1 = 0 → (∀ i < p.1, dst + BitVec.ofNat 5 i ≠ 2) →
      s.settled (efa src s) (4 * p.1) → (efa src s).toNat % 2 ^ p.2.2.1 ≠ 0 → s.unalignedMasked = false →
      exec (p.2.2.2 src dst) s =
        (s.setGroup dst 0 ((List.range p.1).map
          (fun i => .val (s.wordAt (efa src s + BitVec.ofNat 32 (4 * i)))))).raised (memLength src) .unaligned) ∧
  (∀ p ∈ ([(2, 2, 3, Instr.stl), (3, 4, 4, Instr.stt), (4, 4, 4, Instr.stq)] :
      List (Nat × Nat × Nat × (RegNum → MemOperand → Instr))),
    ∀ (src : RegNum) (dst : MemOperand) (s : State), src.toNat % p.2.1 = 0 → s.mem.wf = true →
      s.writable (efa dst s) (4 * p.1) → s.protectedIn s.supervisor (efa dst s) (4 * p.1) = false →
      (efa dst s).toNat % 2 ^ p.2.2.1 ≠ 0 → s.unalignedMasked = false →
      ∀ u : State, u = s.pokeWords (efa dst s) (s.group (Site.result 8) src p.1) →
      (∀ i < p.1, src + BitVec.ofNat 5 i ≠ 2 →
        u.holdsWord (efa dst s + BitVec.ofNat 32 (4 * i)) (s.slot (src + BitVec.ofNat 5 i))) ∧
      s.storesOnly u (efa dst s) (4 * p.1) ∧
      exec (p.2.2.2 src dst) s = u.raised (memLength dst) .unaligned)

/-- A store to write-protected internal data RAM raises TYPE.MISMATCH and stores nothing: addresses 0 to 3FH in user mode or
with BCON.sirp, 40H to 3FFH in user mode with BCON.irp; in every other case such a store is not protected. A load or store
in MMR space that is not an aligned word access raises OPERATION.UNIMPLEMENTED with no access. That one protected byte makes
the whole store fault, and that such a store stores nothing, which R87 derives and 92 D14 decides, is the model's choice
(notes/assumptions/22.md), and so is that a store of a misaligned register group raises OPERATION.UNIMPLEMENTED in MMR space
and TYPE.MISMATCH in protected internal RAM, before the check of its register number (notes/assumptions/63.md) (20_memory
R87, R93, R108; 40_data_movement R202, R204). -/
def Obligations.AccessFaults : Prop :=
  (∀ (src : RegNum) (dst : MemOperand) (s : State),
    ∀ p ∈ ([(1, Instr.stob src dst), (1, .stib src dst), (2, .stos src dst), (2, .stis src dst), (4, .st src dst),
        (8, .stl src dst), (12, .stt src dst), (16, .stq src dst)] : List (Nat × Instr)),
      (efa dst s).toNat + p.1 ≤ 0x400 →
        (s.protectedIn s.supervisor (efa dst s) p.1 = true ↔ ∃ i < p.1, (s.supervisor = false ∧
            ((efa dst s).toNat + i < 0x40 ∨ s.config.bcon.getLsbD 1 = true)) ∨
          (s.supervisor = true ∧ (efa dst s).toNat + i < 0x40 ∧ s.config.bcon.getLsbD 2 = true)) ∧
        (s.protectedIn s.supervisor (efa dst s) p.1 = true →
          exec p.2 s = s.raised (memLength dst) .mismatch)) ∧
  (∀ (r : RegNum) (m : MemOperand) (s : State), 0xFF000000 ≤ (efa m s).toNat →
    (∀ i ∈ [Instr.ldob m r, .ldos m r, .ldib m r, .ldis m r, .stob r m, .stos r m, .stib r m, .stis r m, .stl r m,
        .stt r m, .stq r m], exec i s = s.raised (memLength m) .unimplemented) ∧
    (r.toNat % 2 = 0 → exec (.ldl m r) s = s.raised (memLength m) .unimplemented) ∧
    (r.toNat % 4 = 0 → ∀ i ∈ [Instr.ldt m r, .ldq m r], exec i s = s.raised (memLength m) .unimplemented) ∧
    ((efa m s).toNat % 4 ≠ 0 → ∀ i ∈ [Instr.ld m r, .st r m], exec i s = s.raised (memLength m) .unimplemented))

/-- A register group that does not start at a multiple of its alignment raises OPERATION.INVALID_OPERAND: a load writes no
register, a store (to unprotected memory outside MMR space) no byte, a move leaves its destination free values, a literal
source too. Which registers get them is the model's choice (notes/assumptions/12.md, 13.md), and so is the order of the
checks of a misaligned group load from MMR space (notes/assumptions/63.md) (40_data_movement R201, R214). -/
def Obligations.MisalignedGroupFaults : Prop :=
  ∀ (r n : RegNum) (m : MemOperand) (s : State),
    (r.toNat % 2 ≠ 0 → exec (.ldl m r) s = s.raised (memLength m) .invalidOperand ∧
      ((efa m s).toNat < 0xFF000000 → s.protectedIn s.supervisor (efa m s) 8 = false →
        exec (.stl r m) s = s.raised (memLength m) .invalidOperand)) ∧
    (r.toNat % 4 ≠ 0 → exec (.ldt m r) s = s.raised (memLength m) .invalidOperand ∧
      exec (.ldq m r) s = s.raised (memLength m) .invalidOperand ∧
      ((efa m s).toNat < 0xFF000000 → (s.protectedIn s.supervisor (efa m s) 12 = false →
        exec (.stt r m) s = s.raised (memLength m) .invalidOperand) ∧
        (s.protectedIn s.supervisor (efa m s) 16 = false →
          exec (.stq r m) s = s.raised (memLength m) .invalidOperand))) ∧
    (∀ p ∈ ([(2, 2, Instr.movl), (3, 4, Instr.movt), (4, 4, Instr.movq)] :
        List (Nat × Nat × (Operand → RegNum → Instr))),
      (r.toNat % p.2.1 ≠ 0 ∨ n.toNat % p.2.1 ≠ 0 →
        exec (p.2.2 (.reg n) r) s = (s.setGroup r 0 (freeSlots s.free p.1)).raised 4 .invalidOperand) ∧
      (r.toNat % p.2.1 ≠ 0 → ∀ v : BitVec 5,
        exec (p.2.2 (.lit v) r) s = (s.setGroup r 0 (freeSlots s.free p.1)).raised 4 .invalidOperand))

/-- Aligned word accesses to memory-mapped registers: ld reads the register, st writes it, unless it is read-only; a store
in user mode to supervisor space or to a timer kept for the supervisor raises TYPE.MISMATCH, a store to a breakpoint
register without the rights raises OPERATION.UNIMPLEMENTED, and neither takes effect. That every register keeps all 32
bits stored to it, and that a store to TMRn clears its tc bit, are the model's choice (notes/assumptions/27.md); so is
what ld gives for IPB0 and IPB1, a free value (notes/assumptions/18.md), what st stores from r2, another
(notes/assumptions/9.md), and that IPND shows the level-detected pins that are low (notes/assumptions/41.md) (20_memory
R93 to R96; 10_state R52 to R55). -/
def Obligations.MmrWordAccesses : Prop :=
  ∀ p ∈ mmrTable, ∀ (r : RegNum) (m : MemOperand) (s : State), efa m s = BitVec.ofNat 32 (0xFF000000 + p.1) →
    (r ≠ 2 → s.untraced → ∃ t, exec (.ld m r) s = .next t ∧ (p.2.sysctlOnly = false → t.slot r = .val (s.mmr p.2)) ∧
      t.ip = s.ip + memLength m ∧ t.ac = s.ac ∧ s.sameRegsBut t [r] ∧ s.sameBytes t ∧
      (p.2 ≠ .tmr0 → p.2 ≠ .tmr1 → s.changesOnly t [r])) ∧
    (s.supervisor = true ∨ (p.1 < 0x8000 ∧ s.timerProtected p.2 = false) → s.mmrGranted p.2 = true → s.untraced →
      ∃ t, exec (.st r m) s = .next t ∧
      s.mmrWritten t p.2 (if p.2 = .prcb ∨ p.2 = .deviceId then s.mmr p.2
        else if p.2 = .tmr0 ∨ p.2 = .tmr1 then (s.srcSlot Site.srcDst r).get &&& ~~~1 else (s.srcSlot Site.srcDst r).get) ∧
      t.ip = s.ip + memLength m ∧ t.ac = s.ac ∧ t.pc = s.pc ∧ t.tc = s.tc ∧ s.sameRegsBut t [] ∧ s.sameBytes t) ∧
    (s.supervisor = false → 0x8000 ≤ p.1 ∨ s.timerProtected p.2 = true →
      exec (.st r m) s = s.raised (memLength m) .mismatch) ∧
    (s.supervisor = true → s.mmrGranted p.2 = false →
      exec (.st r m) s = s.raised (memLength m) .unimplemented)

/-- An instruction whose destination register is r2, or whose aligned destination group holds r2, raises
OPERATION.UNIMPLEMENTED and does nothing else, a conditional one also where its condition fails (10_state R25, 70_reset
R749; notes/assumptions/9.md): every instruction that has a destination register, the management ones where they write it.
-/
def Obligations.RipDestinationFaults : Prop :=
  ∀ (a b : Operand) (m : MemOperand) (s : State),
    (∀ i ∈ [Instr.selno a b 2, .selg a b 2, .sele a b 2, .selge a b 2, .sell a b 2, .selne a b 2, .selle a b 2, .selo a b 2,
        .addono a b 2, .addog a b 2, .addoe a b 2, .addoge a b 2, .addol a b 2, .addone a b 2, .addole a b 2, .addoo a b
        2, .addino a b 2, .addig a b 2, .addie a b 2, .addige a b 2, .addil a b 2, .addine a b 2, .addile a b 2, .addio
        a b 2, .addc a b 2, .addo a b 2, .addi a b 2, .subono a b 2, .subog a b 2, .suboe a b 2, .suboge a b 2, .subol a
        b 2, .subone a b 2, .subole a b 2, .suboo a b 2, .subino a b 2, .subig a b 2, .subie a b 2, .subige a b 2,
        .subil a b 2, .subine a b 2, .subile a b 2, .subio a b 2, .subc a b 2, .subo a b 2, .subi a b 2, .mulo a b 2,
        .muli a b 2, .divo a b 2, .divi a b 2, .remo a b 2, .remi a b 2, .modi a b 2, .emul a b 2, .shlo a b 2, .shro a
        b 2, .shli a b 2, .shri a b 2, .shrdi a b 2, .rotate a b 2, .alterbit a b 2, .and a b 2, .andnot a b 2, .clrbit
        a b 2, .extract a b 2, .modify a b 2, .nand a b 2, .nor a b 2, .notand a b 2, .notbit a b 2, .notor a b 2, .or a
        b 2, .ornot a b 2, .setbit a b 2, .xnor a b 2, .xor a b 2, .cmpdeco a b 2, .cmpdeci a b 2, .cmpinco a b 2,
        .cmpinci a b 2, .atadd a b 2, .atmod a b 2, .modac a b 2, .modtc a b 2, .not a 2, .bswap a 2, .scanbit a 2,
        .spanbit a 2, .mov a 2, .testno 2, .testg 2, .teste 2, .testge 2, .testl 2, .testne 2, .testle 2, .testo 2],
      exec i s = s.raised 4 .unimplemented) ∧
    (∀ i ∈ [Instr.ld m 2, .ldob m 2, .ldos m 2, .ldib m 2, .ldis m 2, .ldl m 2, .ldt m 0, .ldq m 0, .lda m 2, .balx m 2],
      exec i s = s.raised (memLength m) .unimplemented) ∧
    (∀ v : BitVec 5, ∀ n : RegNum, exec (.movl (.lit v) 2) s = s.raised 4 .unimplemented ∧
      (n.toNat % 2 = 0 → exec (.movl (.reg n) 2) s = s.raised 4 .unimplemented) ∧
      ∀ p ∈ [Instr.movt, Instr.movq], exec (p (.lit v) 0) s = s.raised 4 .unimplemented ∧
        (n.toNat % 4 = 0 → exec (p (.reg n) 0) s = s.raised 4 .unimplemented)) ∧
    (pairValue b s ≠ none → exec (.eshro a b 2) s = s.raised 4 .unimplemented ∧
      exec (.ediv a b 2) s = s.raised 4 .unimplemented) ∧
    (operandValue b Site.src2 s = 0 ∨ s.supervisor = true → exec (.modpc a b 2) s = s.raised 4 .unimplemented) ∧
    (s.supervisor = true →
      ((operandValue a Site.src1 s).toNat ≤ 2 → exec (.intctl a 2) s = s.raised 4 .unimplemented) ∧
      ((operandValue a Site.src1 s).setWidth 8 = 4#8 → exec (.dcctl a b 2) s = s.raised 4 .unimplemented) ∧
      ((operandValue a Site.src1 s).setWidth 8 = 4#8 ∨ (operandValue a Site.src1 s).setWidth 8 = 5#8 →
        exec (.icctl a b 2) s = s.raised 4 .unimplemented) ∧
      ((operandValue a Site.src1 s).extractLsb' 8 8 = 5#8 ∨ (operandValue a Site.src1 s).extractLsb' 8 8 = 6#8 →
        exec (.sysctl a b 2) s = s.raised 4 .unimplemented))


/-! Atomic instructions. -/

/-- atadd and atmod on a word of RAM: the word at src1 with its low two bits cleared goes to the destination, and memory
gets its sum with src2, or the bits of the destination that src2 selects. Write-protected RAM raises TYPE.MISMATCH. In MMR
space atmod reads and writes a register, with the faults of a store, and atadd raises OPERATION.UNIMPLEMENTED, which is the
model's choice (notes/assumptions/19.md), as are the free old value of IPB0 and IPB1 (notes/assumptions/18.md) and what
TMRn and IPND keep (notes/assumptions/27.md, 41.md) (47_atomic R570 to R573). -/
def Obligations.AtomicUpdates : Prop :=
  (∀ (src1 src2 : Operand) (dst : RegNum) (s : State), s.untraced → dst ≠ 2 → s.mem.wf = true →
    s.writable (operandValue src1 Site.src1 s &&& 0xFFFFFFFC) 4 →
    s.protectedIn s.supervisor (operandValue src1 Site.src1 s &&& 0xFFFFFFFC) 4 = false →
    (∃ t, exec (.atadd src1 src2 dst) s = .next t ∧
      t.slot dst = .val (s.wordAt (operandValue src1 Site.src1 s &&& 0xFFFFFFFC)) ∧
      t.wordAt (operandValue src1 Site.src1 s &&& 0xFFFFFFFC) = s.wordAt (operandValue src1 Site.src1 s &&& 0xFFFFFFFC) +
        operandValue src2 Site.src2 s ∧
      t.ac = s.ac ∧ t.ip = s.ip + 4 ∧ s.sameRegsBut t [dst] ∧ s.sameSpecial t ∧ s.sameFrames t ∧
      s.sameBytesBut t (operandValue src1 Site.src1 s &&& 0xFFFFFFFC) 4) ∧
    (∃ t, exec (.atmod src1 src2 dst) s = .next t ∧
      t.slot dst = .val (s.wordAt (operandValue src1 Site.src1 s &&& 0xFFFFFFFC)) ∧
      (∀ i < 32, (t.wordAt (operandValue src1 Site.src1 s &&& 0xFFFFFFFC)).getLsbD i =
        if (operandValue src2 Site.src2 s).getLsbD i then (s.reg dst).getLsbD i
        else (s.wordAt (operandValue src1 Site.src1 s &&& 0xFFFFFFFC)).getLsbD i) ∧
      t.ac = s.ac ∧ t.ip = s.ip + 4 ∧ s.sameRegsBut t [dst] ∧ s.sameSpecial t ∧ s.sameFrames t ∧
      s.sameBytesBut t (operandValue src1 Site.src1 s &&& 0xFFFFFFFC) 4)) ∧
  (∀ (src1 src2 : Operand) (dst : RegNum) (s : State), dst ≠ 2 →
    ∀ a : Word, a = operandValue src1 Site.src1 s &&& 0xFFFFFFFC →
    (s.protectedIn s.supervisor a 4 = true → exec (.atadd src1 src2 dst) s = s.raised 4 .mismatch ∧
      exec (.atmod src1 src2 dst) s = s.raised 4 .mismatch) ∧
    (0xFF000000 ≤ a.toNat → exec (.atadd src1 src2 dst) s = s.raised 4 .unimplemented) ∧
    (∀ p ∈ mmrTable, a = BitVec.ofNat 32 (0xFF000000 + p.1) →
      (s.supervisor = false → 0x8000 ≤ p.1 ∨ s.timerProtected p.2 = true →
        exec (.atmod src1 src2 dst) s = s.raised 4 .mismatch) ∧
      (s.supervisor = true → s.mmrGranted p.2 = false → exec (.atmod src1 src2 dst) s = s.raised 4 .unimplemented) ∧
      (s.supervisor = true ∨ (p.1 < 0x8000 ∧ s.timerProtected p.2 = false) → s.mmrGranted p.2 = true → s.untraced →
        ∃ t, exec (.atmod src1 src2 dst) s = .next t ∧
          (p.2.sysctlOnly = false → t.slot dst = .val (s.mmr p.2) ∧
            s.mmrWritten t p.2 (if p.2 = .prcb ∨ p.2 = .deviceId then s.mmr p.2
              else ((s.reg dst &&& operandValue src2 Site.src2 s) ||| (s.mmr p.2 &&& ~~~operandValue src2 Site.src2 s)) &&&
                (if p.2 = .tmr0 ∨ p.2 = .tmr1 then ~~~1 else ~~~0))) ∧
          (p.2.sysctlOnly = true →
            t.mmr p.2 &&& operandValue src2 Site.src2 s = s.reg dst &&& operandValue src2 Site.src2 s ∧
            s.mmrWritten t p.2 (t.mmr p.2)) ∧
          t.ip = s.ip + 4 ∧ t.ac = s.ac ∧ t.pc = s.pc ∧ t.tc = s.tc ∧ s.sameRegsBut t [dst] ∧ s.sameBytes t)))

/-! Calls and returns. -/

/-- call and callx where the register cache has room: a new frame at the next multiple of 16 from SP, the set of the caller
suspended with the address of the next instruction in its r2, the IP at the target; no byte of memory changes outside the
save area of the new frame, which holds any values (10_state R26; 45_call_return R503 to R505, R520, R521). -/
def Obligations.LocalCalls : Prop :=
  ∀ (disp : BitVec 24) (m : MemOperand) (s : State), s.untraced → s.pushSpills = false →
    ∀ p ∈ [(Instr.call disp, s.ip + disp.signExtend 32, (4 : Word)), (.callx m, efa m s, memLength m)],
      ∃ t, exec p.1 s = .next t ∧ t.ip = p.2.1 &&& 0xFFFFFFFC ∧ s.entersFrame t (s.reg 1) 0 ∧
        s.suspendsOnto t s.frames.cache (.val (s.ip + p.2.2)) ∧ t.ac = s.ac ∧ s.sameSpecial t ∧
        s.sameBytesBut t (frameAt (s.reg 1)) 64

/-- A call that finds the register cache full stores its oldest set, or the set of the caller if it holds none, to that
frame's save area, r0 at the lowest address, and goes on as with room (45_call_return R505). Where the save area is
write-protected internal RAM it raises TYPE.MISMATCH and has no other effect, which is the model's choice
(notes/assumptions/65.md). -/
def Obligations.CallSpillsOldest : Prop :=
  ∀ (disp : BitVec 24) (m : MemOperand) (s : State), s.untraced → s.pushSpills = true →
    ∀ p ∈ [(Instr.call disp, s.ip + disp.signExtend 32, (4 : Word)), (.callx m, efa m s, memLength m)],
    (∀ (old : CachedFrame) (rest : List CachedFrame), s.frames.cache = old :: rest → s.chainIntact = true →
      (s.protectedIn s.supervisor old.save 64 = true → exec p.1 s = s.raised p.2.2 .mismatch) ∧
      (s.mem.wf = true → s.wordsWritable old.save 16 → s.protectedIn s.supervisor old.save 64 = false →
        ∃ t, exec p.1 s = .next t ∧ t.ip = p.2.1 &&& 0xFFFFFFFC ∧ s.entersFrame t (s.reg 1) 0 ∧
          s.suspendsOnto t rest (.val (s.ip + p.2.2)) ∧ t.ac = s.ac ∧ s.sameSpecial t ∧
          ((∀ i < 64, ∀ j < 64, old.save + BitVec.ofNat 32 i ≠ frameAt (s.reg 1) + BitVec.ofNat 32 j) → ∀ i < 16,
            t.holdsWord (old.save + BitVec.ofNat 32 (4 * i)) ((old.regs.toList)[i]?.getD (.val 0))) ∧
          (∀ b : Word, (∀ i < 64, b ≠ old.save + BitVec.ofNat 32 i ∧ b ≠ frameAt (s.reg 1) + BitVec.ofNat 32 i) →
            t.byteAt b = s.byteAt b))) ∧
    (s.frames.cache = [] → ∀ save : Word, save = s.frames.current → s.reg 31 &&& 0xFFFFFFF0 = save →
      (s.protectedIn s.supervisor save 64 = true → exec p.1 s = s.raised p.2.2 .mismatch) ∧
      (s.mem.wf = true → s.wordsWritable save 16 → s.protectedIn s.supervisor save 64 = false →
        ∃ t, exec p.1 s = .next t ∧ t.ip = p.2.1 &&& 0xFFFFFFFC ∧ s.entersFrame t (s.reg 1) 0 ∧ t.frames.cache = [] ∧
          t.ac = s.ac ∧ s.sameSpecial t ∧
          ((∀ i < 64, ∀ j < 64, save + BitVec.ofNat 32 i ≠ frameAt (s.reg 1) + BitVec.ofNat 32 j) → ∀ i < 16,
            t.holdsWord (save + BitVec.ofNat 32 (4 * i))
              (if i = 2 then .val (s.ip + p.2.2) else s.slot (BitVec.ofNat 5 i))) ∧
          (∀ b : Word, (∀ i < 64, b ≠ save + BitVec.ofNat 32 i ∧ b ≠ frameAt (s.reg 1) + BitVec.ofNat 32 i) →
            t.byteAt b = s.byteAt b)))

/-- flushreg stores every suspended set to its save area and empties the cache; no register changes
(45_call_return R505, R524). Where the save area of the oldest set is write-protected internal RAM it raises TYPE.MISMATCH,
which is the model's choice (notes/assumptions/65.md). -/
def Obligations.FlushregEmptiesCache : Prop :=
  (∀ (s : State) (f : CachedFrame) (rest : List CachedFrame), s.frames.cache = f :: rest → s.chainIntact = true →
    s.protectedIn s.supervisor f.save 64 = true → exec .flushreg s = s.raised 4 .mismatch) ∧
  ∀ s : State, s.untraced → s.chainIntact = true → s.mem.wf = true →
    (∀ f ∈ s.frames.cache, s.wordsWritable f.save 16 ∧ s.protectedIn s.supervisor f.save 64 = false) →
    ∃ t, exec .flushreg s = .next t ∧ t.frames.cache = [] ∧ t.frames.pfpDirty = false ∧
      t.frames.reserved = s.frames.reserved ∧ t.frames.current = s.frames.current ∧
      t.frames.unsetPfp = s.frames.unsetPfp ∧
      (s.frames.cache.Pairwise (fun f g => f.save.toNat + 64 ≤ g.save.toNat ∨ g.save.toNat + 64 ≤ f.save.toNat) →
        ∀ f ∈ s.frames.cache, ∀ i < 16,
          t.holdsWord (f.save + BitVec.ofNat 32 (4 * i)) ((f.regs.toList)[i]?.getD (.val 0))) ∧
      (∀ b : Word, (∀ f ∈ s.frames.cache, ∀ i < 64, b ≠ f.save + BitVec.ofNat 32 i) → t.byteAt b = s.byteAt b) ∧
      (∀ n : RegNum, t.slot n = s.slot n) ∧ t.ac = s.ac ∧ t.ip = s.ip + 4 ∧ s.sameSpecial t

/-- calls: a number above 259 raises PROTECTION.LENGTH; an entry of type 00, or of type 10 in supervisor mode, is called as
by call; an entry of type 10 in user mode starts a frame on the supervisor stack in supervisor mode, with return type 2 and
PC.te loaded from SSP.te. That the prereturn flag of the new frame is set by the new PC.te, that the call itself is not
traced where PC.te was 0 before it, and that a reserved entry is refused are the model's choice (notes/assumptions/33.md,
66.md, 57.md), and so is that a call which loads te with PC.tfp set raises no pending trace fault (notes/assumptions/68.md).
Where that call finds the register cache full, its oldest set is stored in supervisor mode, to internal RAM that is
protected from user mode too; RAM that is protected from supervisor mode raises TYPE.MISMATCH, the mode already changed (the
model's choice, notes/assumptions/65.md) (45_call_return R505, R512, R513, R522). -/
def Obligations.SystemCalls : Prop :=
  ∀ (src1 : Operand) (s : State),
    (259 < (operandValue src1 Site.src1 s).toNat → exec (.calls src1) s = s.raised 4 .length) ∧
    ((operandValue src1 Site.src1 s).toNat ≤ 259 →
      s.settled (s.tables.spt + 48 + 4 * operandValue src1 Site.src1 s) 4 →
      ((s.wordAt (s.tables.spt + 48 + 4 * operandValue src1 Site.src1 s)).getLsbD 0 = true →
        exec (.calls src1) s = .refused .reservedSptEntry) ∧
      ((s.wordAt (s.tables.spt + 48 + 4 * operandValue src1 Site.src1 s)).getLsbD 0 = false →
        s.untraced → s.pushSpills = false →
        ((s.wordAt (s.tables.spt + 48 + 4 * operandValue src1 Site.src1 s)).getLsbD 1 = false ∨ s.supervisor = true →
          ∃ t, exec (.calls src1) s = .next t ∧
            t.ip = s.wordAt (s.tables.spt + 48 + 4 * operandValue src1 Site.src1 s) &&& 0xFFFFFFFC ∧
            s.entersFrame t (s.reg 1) 0 ∧ s.suspendsOnto t s.frames.cache (.val (s.ip + 4)) ∧ t.ac = s.ac ∧
            s.sameSpecial t ∧ s.sameBytesBut t (frameAt (s.reg 1)) 64) ∧
        ((s.wordAt (s.tables.spt + 48 + 4 * operandValue src1 Site.src1 s)).getLsbD 1 = true → s.supervisor = false →
          ∃ t, exec (.calls src1) s = .next t ∧
            t.ip = s.wordAt (s.tables.spt + 48 + 4 * operandValue src1 Site.src1 s) &&& 0xFFFFFFFC ∧
            s.entersFrame t (s.tables.ssp &&& 0xFFFFFFFC)
              (if s.tables.ssp.getLsbD 0 && s.tc.getLsbD 3 then 10 else 2) ∧ s.suspendsOnto t s.frames.cache (.val (s.ip + 4)) ∧
            t.ac = s.ac ∧ t.pc = s.pc ||| 2 ||| (s.tables.ssp &&& 1) ∧ s.sameSpecial (t.withPc s.pc) ∧
            s.sameBytesBut t (frameAt (s.tables.ssp &&& 0xFFFFFFFC)) 64)) ∧
      ((s.wordAt (s.tables.spt + 48 + 4 * operandValue src1 Site.src1 s)).extractLsb' 0 2 = 2#2 → s.untraced →
        s.supervisor = false → s.pushSpills = true → s.chainIntact = true →
        ∀ (old : CachedFrame) (rest : List CachedFrame), s.frames.cache = old :: rest →
        ∀ pc : Word, pc = s.pc ||| 2 ||| (s.tables.ssp &&& 1) → ∀ base : Word, base = s.tables.ssp &&& 0xFFFFFFFC →
        (s.protectedIn true old.save 64 = true → exec (.calls src1) s = (s.withPc pc).raised 4 .mismatch) ∧
        (s.mem.wf = true → s.wordsWritable old.save 16 → s.protectedIn true old.save 64 = false →
          ∃ t, exec (.calls src1) s = .next t ∧
            t.ip = s.wordAt (s.tables.spt + 48 + 4 * operandValue src1 Site.src1 s) &&& 0xFFFFFFFC ∧
            s.entersFrame t base (if s.tables.ssp.getLsbD 0 && s.tc.getLsbD 3 then 10 else 2) ∧
            s.suspendsOnto t rest (.val (s.ip + 4)) ∧ t.ac = s.ac ∧ t.pc = pc ∧ s.sameSpecial (t.withPc s.pc) ∧
            ((∀ i < 64, ∀ j < 64, old.save + BitVec.ofNat 32 i ≠ frameAt base + BitVec.ofNat 32 j) → ∀ i < 16,
              t.holdsWord (old.save + BitVec.ofNat 32 (4 * i)) ((old.regs.toList)[i]?.getD (.val 0))) ∧
            (∀ b : Word, (∀ i < 64, b ≠ old.save + BitVec.ofNat 32 i ∧ b ≠ frameAt base + BitVec.ofNat 32 i) →
              t.byteAt b = s.byteAt b))))

/-- ret from a local call (return type 0), or of return type 2 or 3 in user mode, restores the frame that PFP names; of
return type 2 or 3 in supervisor mode it also returns to user mode with PC.te 0 or 1, itself untraced as PC.te was 0 before
it (the model's choice, notes/assumptions/66.md), and raises no pending trace fault where type 3 sets te with PC.tfp set
(the model's choice, notes/assumptions/68.md); with a reserved return type it raises OPERATION.UNIMPLEMENTED, the model's
choice too (60_exceptions R642, 93 U27, notes/assumptions/38.md). The model refuses where PFP was written and not flushed,
where the frame chain is broken (R509, 93 U29) and where nothing has set the PFP of the initial frame
(notes/assumptions/64.md) (45_call_return R504, R507, R509, R523; 70_reset R730; notes/assumptions/39.md). -/
def Obligations.ReturnsFromCalls : Prop :=
  ∀ s : State,
    (s.untraced → s.pfpSound → s.canReturn →
      ((s.reg 0).extractLsb' 0 3 = 0#3 ∨ s.supervisor = false ∧
        ((s.reg 0).extractLsb' 0 3 = 2#3 ∨ (s.reg 0).extractLsb' 0 3 = 3#3) →
        ∃ t, exec .ret s = .next t ∧ s.returnsTo t ∧ t.ac = s.ac ∧ s.sameSpecial t ∧ s.sameBytes t) ∧
      (s.supervisor = true → ∀ p ∈ [(2#3, 0#32), (3#3, 1#32)], (s.reg 0).extractLsb' 0 3 = p.1 →
        ∃ t, exec .ret s = .next t ∧ s.returnsTo t ∧ t.ac = s.ac ∧ t.pc = (s.pc &&& ~~~3) ||| p.2 ∧
          s.sameSpecial (t.withPc s.pc) ∧ s.sameBytes t)) ∧
    (s.untraced → s.pfpSound → ∀ rt ∈ [4#3, 5#3, 6#3], (s.reg 0).extractLsb' 0 3 = rt →
      exec .ret s = s.raised 4 .unimplemented) ∧
    (s.frames.pfpDirty = true → exec .ret s = .refused .pfpDirty) ∧
    (s.frames.pfpDirty = false → s.frames.unsetPfp = some s.frames.current → exec .ret s = .refused .initialFrame) ∧
    (s.untraced → s.pfpSound → (s.reg 0).extractLsb' 0 3 = 0#3 → ∀ f, s.frames.cache.getLast? = some f →
      f.link ≠ s.reg 0 &&& 0xFFFFFFF0 → exec .ret s = .refused .frameChain)

/-- ret from a fault handler (return type 1) or an interrupt handler (return type 7) restores the frame that PFP names, AC
from the record below the frame of the handler, and in supervisor mode PC from it; the low four bits of g15 are ignored; the
record word of PC holds no pending trace fault here, and no interrupt waits. That AC keeps only its defined bits, that a reserved bit of the PC word is
refused, that the ret is not traced where PC.te was 0 before it, and that the NMI handler's return ends it are the model's
choice (notes/assumptions/15.md, 37.md, 66.md, 42.md) (45_call_return R504, R523; 60_exceptions R656, R691; 70_reset R749 c;
00_scope R11). -/
def Obligations.ReturnsFromHandlers : Prop :=
  ∀ (s : State) (fp : Word), fp = s.reg 31 &&& 0xFFFFFFF0 → s.untraced → s.pfpSound → s.canReturn →
    s.wordsSettled (fp - 16) 2 → ∀ image : Word, image = s.wordAt (fp - 16) →
    (s.supervisor = true → image &&& ~~~0x001F2403 ≠ 0 →
      (s.reg 0).extractLsb' 0 3 = 1#3 ∨ (s.reg 0).extractLsb' 0 3 = 7#3 → exec .ret s = .refused .pcImageReserved) ∧
    (s.supervisor = false ∨ image &&& ~~~0x001F2403 = 0 ∧ (image.getLsbD 0 = false ∨ image.getLsbD 10 = false) →
      ((s.reg 0).extractLsb' 0 3 = 1#3 → ∃ t, exec .ret s = .next t ∧ s.returnsTo t ∧
        t.ac = s.wordAt (fp - 12) &&& 0x9107 ∧ t.pc = (if s.supervisor then image else s.pc) ∧
        s.sameSpecial (t.withPc s.pc) ∧ s.sameBytes t) ∧
      ((s.reg 0).extractLsb' 0 3 = 7#3 → s.quiet → ∃ t, exec .ret s = .next t ∧ s.returnsTo t ∧
        t.ac = s.wordAt (fp - 12) &&& 0x9107 ∧ t.pc = (if s.supervisor then image else s.pc) ∧
        t.intr.nmiFrame = (if s.intr.nmiFrame = some fp then none else s.intr.nmiFrame) ∧
        s.sameSpecial ((t.withPc s.pc).withIntr s.intr) ∧ t.intr = { s.intr with nmiFrame := t.intr.nmiFrame } ∧
        s.sameBytes t))

/-! Faults and debugging. -/

/-- FAULT<cc> raises CONSTRAINT.RANGE exactly where AC.cc meets the mask of the opcode, else goes on to the next
instruction (46_fault_debug R541 to R549). -/
def Obligations.ConditionalFaults : Prop :=
  ∀ p ∈ [(0#3, Instr.faultno), (1#3, .faultg), (2#3, .faulte), (3#3, .faultge), (4#3, .faultl), (5#3, .faultne),
      (6#3, .faultle), (7#3, .faulto)],
    ∀ s : State,
      (p.1 &&& s.ac.extractLsb' 0 3 ≠ 0 ∨ p.1 = s.ac.extractLsb' 0 3 → exec p.2 s = s.raised 4 .range) ∧
      (¬ (p.1 &&& s.ac.extractLsb' 0 3 ≠ 0 ∨ p.1 = s.ac.extractLsb' 0 3) → s.untraced →
        ∃ t, exec p.2 s = .next t ∧ t.ac = s.ac ∧ t.ip = s.ip + 4 ∧ s.changesOnly t [])

/-- mark, fmark and syncf go on to the next instruction where tracing is off; with PC.te set and the mark mode the only one
enabled, mark and fmark signal the mark event: its flag in TC is set and TRACE.MARK is taken after the instruction, fmark
also with the mark mode off. That the flag is bit 23 of TC, a place the spec marks as general knowledge, is the model's
choice (notes/assumptions/14.md), and so is that PC.tfp where it is set raises nothing here (notes/assumptions/68.md)
(46_fault_debug R550 to R552; 60_exceptions R700, R701). -/
def Obligations.MarksAndSyncf : Prop :=
  (∀ i ∈ [Instr.mark, .fmark, .syncf], ∀ s : State, s.untraced →
    ∃ t, exec i s = .next t ∧ t.ac = s.ac ∧ t.ip = s.ip + 4 ∧ s.changesOnly t []) ∧
  (∀ s : State, pcTe s.pc = true → s.trace.teWindow = 0 → s.trace.tcWindow = 0 → s.bp.written = false →
    (s.tc.setWidth 8 = 0x80#8 → exec .mark s =
      toOutcome (faultCall 1 0x80 (.val (s.ip + 4)) (.val s.ip) false)
        (((s.withIp (s.ip + 4)).withTc (s.tc ||| 0x00800000)).withFree (s.free + 1))) ∧
    (s.tc.setWidth 8 = 0x80#8 ∨ s.tc.setWidth 8 = 0x00#8 → exec .fmark s =
      toOutcome (faultCall 1 0x80 (.val (s.ip + 4)) (.val s.ip) false)
        (((s.withIp (s.ip + 4)).withTc (s.tc ||| 0x00800000)).withFree (s.free + 1))))

/-- The supervisor-only instructions in user mode raise TYPE.MISMATCH and have no other effect, modpc only with a mask
other than 0; modac, modtc, flushreg, mark, fmark and syncf raise no fault of their own in either mode: where tracing is
off, the frames in order and the save areas RAM that can be written, they complete (48_processor_management R580). -/
def Obligations.SupervisorOnlyInstructions : Prop :=
  ∀ (a b : Operand) (d : RegNum) (s : State),
    (s.supervisor = false → ∀ i ∈ [Instr.dcctl a b d, .halt a, .icctl a b d, .intctl a d, .intdis, .inten,
        .sysctl a b d], exec i s = s.raised 4 .mismatch) ∧
    (s.supervisor = false → operandValue b Site.src2 s ≠ 0 → exec (.modpc a b d) s = s.raised 4 .mismatch) ∧
    (operandValue b Site.src2 s = 0 → d ≠ 2 → s.untraced → ∃ t, exec (.modpc a b d) s = .next t ∧
      t.slot d = .val s.pc ∧ t.ac = s.ac ∧ t.ip = s.ip + 4 ∧ s.changesOnly t [d]) ∧
    (s.untraced → (∀ i ∈ [Instr.mark, .fmark, .syncf], ∃ t, exec i s = .next t ∧ t.pc = s.pc) ∧
      (d ≠ 2 → ∀ i ∈ [Instr.modac a b d, .modtc a b d], ∃ t, exec i s = .next t ∧ t.pc = s.pc) ∧
      (s.chainIntact = true → (∀ f ∈ s.frames.cache, s.wordsWritable f.save 16 ∧
        s.protectedIn s.supervisor f.save 64 = false) → ∃ t, exec .flushreg s = .next t ∧ t.pc = s.pc))

/-- TAKING A FAULT through a local entry of the fault table, where tracing is off and the register cache has room: the
record of 48 bytes stands at the next multiple of 16 from SP, its upper four words PC, AC, the type word and the address
of the faulting instruction; the handler runs in a new frame above it with return type 1, at the address of the entry; the
suspended r2 is the address of the next instruction where the fault lets the instruction complete; PC, TC, AC and every
byte outside the record and the save area of the new frame are unchanged (60_exceptions R650, R651, R655; the place of the
record and the saved RIP are the model's choice, and so is that the reserved second word of the entry is not looked at,
notes/assumptions/11.md, 28.md, 29.md). -/
def Obligations.LocalFaultCall : Prop :=
  ∀ (k : FaultKind) (len : Word) (s : State), s.untraced → k ≠ .prereturn → s.pushSpills = false → s.mem.wf = true →
    s.settled (s.tables.fault + 8 * k.typeNumber.zeroExtend 32) 4 →
    (s.wordAt (s.tables.fault + 8 * k.typeNumber.zeroExtend 32)).extractLsb' 0 2 = 0#2 →
    s.wordsWritable (frameAt (s.reg 1)) 12 → s.protectedIn s.supervisor (frameAt (s.reg 1)) 48 = false →
    ∃ t, s.raised len k = .next t ∧
      t.ip = s.wordAt (s.tables.fault + 8 * k.typeNumber.zeroExtend 32) &&& 0xFFFFFFFC ∧
      s.entersFrame t (frameAt (s.reg 1) + 48) 1 ∧
      (∃ f, t.frames.cache = s.frames.cache ++ [f] ∧ f.link = s.reg 31 &&& 0xFFFFFFF0 ∧
        (∀ n < 16, n ≠ 2 → (f.regs.toList)[n]? = (s.locals.toList)[n]?) ∧
        (k ∈ [.overflow, .zeroDivide, .unaligned, .range] → (f.regs.toList)[2]? = some (.val (s.ip + len)))) ∧
      t.holdsWord (frameAt (s.reg 1) + 32) (.val s.pc) ∧ t.holdsWord (frameAt (s.reg 1) + 36) (.val s.ac) ∧
      t.holdsWord (frameAt (s.reg 1) + 40)
        (.val (k.typeNumber.zeroExtend 32 * 0x10000 + k.subtype.zeroExtend 32)) ∧
      t.holdsWord (frameAt (s.reg 1) + 44) (.val s.ip) ∧ t.ac = s.ac ∧ s.sameSpecial t ∧
      s.sameBytesBut t (frameAt (s.reg 1)) 112

/-- TAKING A FAULT through a system-call entry of the fault table, where tracing is off and the register cache has room: one
that names a supervisor procedure runs the handler, in user mode, on the supervisor stack in supervisor mode with PC.te from
SSP.te; a procedure of type 00, or any in supervisor mode, is called on the current stack with PC unchanged. The record is
as in a local fault call, its PC word the PC before the change; the suspended r2 is the address of the next instruction
where the fault lets the instruction complete. An entry whose second word is not 0000027FH is refused. The place of the
record, the saved RIP, the prereturn flag by the new PC.te, that a call which loads te with PC.tfp set raises no pending
trace fault, and that refusal (DEDUCED from 00_scope R11) are the model's choice (notes/assumptions/28.md, 29.md, 33.md,
68.md) (60_exceptions R650, R652, R655; 45_call_return R512, R513). -/
def Obligations.SupervisorFaultCall : Prop :=
  ∀ (k : FaultKind) (len : Word) (s : State), s.untraced → k ≠ .prereturn → s.pushSpills = false → s.mem.wf = true →
    s.settled (s.tables.fault + 8 * k.typeNumber.zeroExtend 32) 4 →
    (s.wordAt (s.tables.fault + 8 * k.typeNumber.zeroExtend 32)).extractLsb' 0 2 = 2#2 →
    s.settled (s.tables.fault + 8 * k.typeNumber.zeroExtend 32 + 4) 4 →
    ∀ second : Word, second = s.wordAt (s.tables.fault + 8 * k.typeNumber.zeroExtend 32 + 4) →
    (second ≠ 0x27F → s.raised len k = .refused (.faultEntryWord second)) ∧
    (second = 0x27F → (s.wordAt (s.tables.fault + 8 * k.typeNumber.zeroExtend 32)).toNat / 4 ≤ 259 →
    ∀ entry : Word, entry = s.tables.spt + 48 +
        4 * (s.wordAt (s.tables.fault + 8 * k.typeNumber.zeroExtend 32) >>> 2) →
    s.settled entry 4 → (s.wordAt entry).getLsbD 0 = false →
    ∀ switches : Bool, switches = ((s.wordAt entry).getLsbD 1 && !s.supervisor) →
    ∀ base : Word, base = frameAt (if switches then s.tables.ssp &&& 0xFFFFFFFC else s.reg 1) →
    s.wordsWritable base 12 → s.protectedIn (s.supervisor || switches) base 48 = false →
    ∃ t, s.raised len k = .next t ∧ t.ip = s.wordAt entry &&& 0xFFFFFFFC ∧
      s.entersFrame t (base + 48) (if switches && s.tables.ssp.getLsbD 0 && s.tc.getLsbD 3 then 9 else 1) ∧
      (∃ f, t.frames.cache = s.frames.cache ++ [f] ∧ f.link = s.reg 31 &&& 0xFFFFFFF0 ∧
        (∀ n < 16, n ≠ 2 → (f.regs.toList)[n]? = (s.locals.toList)[n]?) ∧
        (k ∈ [.overflow, .zeroDivide, .unaligned, .range] → (f.regs.toList)[2]? = some (.val (s.ip + len)))) ∧
      t.pc = (if switches then s.pc ||| 2 ||| (s.tables.ssp &&& 1) else s.pc) ∧
      t.holdsWord (base + 32) (.val s.pc) ∧ t.holdsWord (base + 36) (.val s.ac) ∧
      t.holdsWord (base + 40) (.val (k.typeNumber.zeroExtend 32 * 0x10000 + k.subtype.zeroExtend 32)) ∧
      t.holdsWord (base + 44) (.val s.ip) ∧ t.ac = s.ac ∧ s.sameSpecial (t.withPc s.pc) ∧ s.sameBytesBut t base 112)

/-- TRACE EVENTS, where tracing is on: the instruction completes as it does untraced, and then the events it signals whose
modes TC enables set their flags and take the TRACE fault, its saved RIP the next instruction (State.tracedOutcome): the
instruction event for every instruction (here addo), with it the branch event for b, bal and a BRANCH<cc> that is taken, the
call event for call, the call and supervisor events for a calls to an entry of type 10, the return event for ret. A call
leaves the prereturn flag in PFP where call tracing is on; a ret that finds it, with the prereturn mode on, clears it and
takes the TRACE fault before it does anything, to be executed again. The events of calls, returns and branches, the place of
the flags in TC, the trace of a calls by PC.te as it was before, the prereturn flag by the new PC.te, and that PC.tfp where
it is set raises nothing here are the model's choice (notes/assumptions/14.md, 33.md, 66.md, 68.md) (60_exceptions R700,
R701; 45_call_return R504, R523). -/
def Obligations.TraceEvents : Prop :=
  ∀ s : State, s.traced → ∀ modes : BitVec 8, modes = s.tc.setWidth 8 →
    (∀ (src1 src2 : Operand) (dst : RegNum), dst ≠ 2 →
      ∃ t, exec (.addo src1 src2 dst) s = t.tracedOutcome s.ip (0x02 &&& modes) ∧
        t.slot dst = .val (operandValue src2 Site.src2 s + operandValue src1 Site.src1 s) ∧ t.ac = s.ac ∧
        t.ip = s.ip + 4 ∧ s.changesOnly t [dst]) ∧
    (∀ disp : BitVec 24,
      (∃ t, exec (.b disp) s = t.tracedOutcome s.ip (0x06 &&& modes) ∧
        t.ip = (s.ip + disp.signExtend 32) &&& ~~~3 ∧ t.ac = s.ac ∧ s.changesOnly t []) ∧
      (∃ t, exec (.bal disp) s = t.tracedOutcome s.ip (0x06 &&& modes) ∧
        t.ip = (s.ip + disp.signExtend 32) &&& ~~~3 ∧ t.slot 30 = .val (s.ip + 4) ∧ t.ac = s.ac ∧
        s.changesOnly t [30]) ∧
      (∃ t, exec (.be disp) s = t.tracedOutcome s.ip ((if s.ac.getLsbD 1 then 0x06 else 0x02) &&& modes) ∧
        t.ip = (if s.ac.getLsbD 1 then (s.ip + disp.signExtend 32) &&& ~~~3 else s.ip + 4) ∧ t.ac = s.ac ∧
        s.changesOnly t []) ∧
      (s.pushSpills = false → ∃ t, exec (.call disp) s = t.tracedOutcome s.ip (0x0A &&& modes) ∧
        t.ip = (s.ip + disp.signExtend 32) &&& ~~~3 ∧ s.entersFrame t (s.reg 1) ((modes &&& 0x08).zeroExtend 32) ∧
        s.suspendsOnto t s.frames.cache (.val (s.ip + 4)) ∧ t.ac = s.ac ∧ s.sameSpecial t ∧
        s.sameBytesBut t (frameAt (s.reg 1)) 64)) ∧
    (∀ (src1 : Operand) (entry : Word), entry = s.tables.spt + 48 + 4 * operandValue src1 Site.src1 s →
      s.pushSpills = false → (operandValue src1 Site.src1 s).toNat ≤ 259 → s.settled entry 4 →
      (s.wordAt entry).extractLsb' 0 2 = 2#2 →
      ∃ t, exec (.calls src1) s = t.tracedOutcome s.ip (0x4A &&& modes) ∧ t.ip = s.wordAt entry &&& 0xFFFFFFFC ∧
        (s.supervisor = true → s.entersFrame t (s.reg 1) ((modes &&& 0x08).zeroExtend 32) ∧ s.sameSpecial t) ∧
        (s.supervisor = false → t.pc = (s.pc &&& ~~~1) ||| 2 ||| (s.tables.ssp &&& 1) ∧
          s.entersFrame t (s.tables.ssp &&& 0xFFFFFFFC)
            (3 ||| if s.tables.ssp.getLsbD 0 then (modes &&& 0x08).zeroExtend 32 else 0) ∧
          s.sameSpecial (t.withPc s.pc))) ∧
    (s.pfpSound →
      (s.canReturn → (s.reg 0).extractLsb' 0 3 = 0#3 → (s.reg 0).getLsbD 3 = false ∨ modes.getLsbD 5 = false →
        ∃ t, exec .ret s = t.tracedOutcome s.ip (0x12 &&& modes) ∧ s.returnsTo t ∧ t.ac = s.ac ∧ s.sameSpecial t ∧
          s.sameBytes t) ∧
      ((s.reg 0).getLsbD 3 = true → modes.getLsbD 5 = true →
        exec .ret s = toOutcome (faultCall 1 0x20 (.val s.ip) (.val s.ip) false)
          (((s.withLocals (s.locals.set 0 (.val (s.reg 0 &&& ~~~8)))).withTc (s.tc ||| 0x00200000)).withFree (s.free + 1))))

/-- PC.te AND PC.tfp. The call to the handler of a TRACE fault, which must be a supervisor procedure by a system-call entry,
saves PC as it was and clears PC.te; a local entry or a procedure of type 00 is refused. A fault that lets its instruction
complete while the instruction event is enabled sets the flag of the event in TC and keeps the trace fault as tfp of the
saved PC; a fault of an instruction that does not complete signals none. A handler's ret that restores a PC with te and tfp
takes the pending TRACE fault at once, with tfp cleared; its event and its faulting address are free values. What the spec
says of tfp it marks as general knowledge; how the model takes it, the place of the event flags in TC, the place of the
record, the saved RIP and that a system-call entry must have 0000027FH as its second word (DEDUCED from 00_scope R11) are
its choice (notes/assumptions/31.md, 14.md, 28.md, 29.md), and so is that tfp set beforehand raises nothing by itself
(notes/assumptions/68.md) (60_exceptions R652, R655, R703, R704). -/
def Obligations.TraceFaultCalls : Prop :=
  (∀ (e : BitVec 8) (rip ip : Word) (s : State), s.settled (s.tables.fault + 8) 4 →
    ((s.wordAt (s.tables.fault + 8)).extractLsb' 0 2 = 0#2 →
      toOutcome (faultCall 1 e (.val rip) (.val ip) false) s = .refused .traceEntry) ∧
    ((s.wordAt (s.tables.fault + 8)).extractLsb' 0 2 = 2#2 → s.settled (s.tables.fault + 12) 4 →
      s.wordAt (s.tables.fault + 12) = 0x27F → (s.wordAt (s.tables.fault + 8)).toNat / 4 ≤ 259 →
      ∀ entry : Word, entry = s.tables.spt + 48 + 4 * (s.wordAt (s.tables.fault + 8) >>> 2) → s.settled entry 4 →
      ((s.wordAt entry).extractLsb' 0 2 = 0#2 →
        toOutcome (faultCall 1 e (.val rip) (.val ip) false) s = .refused .traceEntry) ∧
      ((s.wordAt entry).extractLsb' 0 2 = 2#2 → s.pushSpills = false → s.mem.wf = true →
        ∀ base : Word, base = frameAt (if s.supervisor then s.reg 1 else s.tables.ssp &&& 0xFFFFFFFC) →
        s.wordsWritable base 12 → s.protectedIn true base 48 = false →
        ∃ t, toOutcome (faultCall 1 e (.val rip) (.val ip) false) s = .next t ∧ t.ip = s.wordAt entry &&& 0xFFFFFFFC ∧
          s.entersFrame t (base + 48) 1 ∧ s.suspendsOnto t s.frames.cache (.val rip) ∧ t.pc = (s.pc ||| 2) &&& ~~~1 ∧
          t.holdsWord (base + 32) (.val s.pc) ∧ t.holdsWord (base + 36) (.val s.ac) ∧
          t.holdsWord (base + 40) (.val (0x10000 + e.zeroExtend 32)) ∧ t.holdsWord (base + 44) (.val ip) ∧
          t.ac = s.ac ∧ s.sameSpecial (t.withPc s.pc) ∧ s.sameBytesBut t base 112))) ∧
  (∀ (k : FaultKind) (len : Word) (s : State), s.traced → k ≠ .prereturn → s.pushSpills = false → s.mem.wf = true →
    s.settled (s.tables.fault + 8 * k.typeNumber.zeroExtend 32) 4 →
    (s.wordAt (s.tables.fault + 8 * k.typeNumber.zeroExtend 32)).extractLsb' 0 2 = 0#2 →
    s.wordsWritable (frameAt (s.reg 1)) 12 → s.protectedIn s.supervisor (frameAt (s.reg 1)) 48 = false →
    ∃ t, s.raised len k = .next t ∧
      t.ip = s.wordAt (s.tables.fault + 8 * k.typeNumber.zeroExtend 32) &&& 0xFFFFFFFC ∧ t.pc = s.pc ∧
      t.holdsWord (frameAt (s.reg 1) + 32)
        (.val (if k ∈ [.overflow, .zeroDivide, .unaligned, .range] ∧ s.tc.getLsbD 1 = true then s.pc ||| 0x400 else s.pc)) ∧
      t.tc = (if k ∈ [.overflow, .zeroDivide, .unaligned, .range] ∧ s.tc.getLsbD 1 = true then s.tc ||| 0x20000
        else s.tc)) ∧
  (∀ (s : State) (fp : Word), fp = s.reg 31 &&& 0xFFFFFFF0 → s.untraced → s.pfpSound → s.canReturn →
    s.supervisor = true → s.wordsSettled (fp - 16) 2 → ∀ image : Word, image = s.wordAt (fp - 16) → image &&& ~~~0x001F2403 = 0 →
    image.getLsbD 0 = true → image.getLsbD 10 = true →
    (s.reg 0).extractLsb' 0 3 = 1#3 ∨ (s.reg 0).extractLsb' 0 3 = 7#3 ∧ s.quiet →
    ∃ (t : State) (e : BitVec 8) (ip : Slot), exec .ret s = toOutcome (faultCall 1 e (.val t.ip) ip false) t ∧
      s.returnsTo t ∧ t.ac = s.wordAt (fp - 12) &&& 0x9107 ∧ t.pc = image &&& ~~~0x400 ∧ s.sameBytes t)


/-! Processor management. -/

/-- modac, modtc and, in supervisor mode with a mask other than 0, modpc: the destination gets the old value, of TC only its
mode bits 7:1, every other bit of it being any value; the bits that the mask selects are replaced. AC and TC hold only their
defined bits (the model's choice for the others, notes/assumptions/14.md, 15.md). The new PC here has te 0, and it does not
lower the priority or no interrupt waits; a modpc that would change a reserved bit is refused (notes/assumptions/16.md)
(48_processor_management R603 to R605; 10_state R50). -/
def Obligations.ControlRegisterResults : Prop :=
  ∀ (a b : Operand) (d : RegNum) (s : State), s.untraced → d ≠ 2 →
    (∃ t, exec (.modac a b d) s = .next t ∧ t.slot d = .val s.ac ∧
      t.ac = ((operandValue b Site.src2 s &&& operandValue a Site.src1 s) |||
        (s.ac &&& ~~~operandValue a Site.src1 s)) &&& 0x9107 ∧
      t.ip = s.ip + 4 ∧ s.changesOnly t [d]) ∧
    (∃ t, exec (.modtc a b d) s = .next t ∧
      (∃ v, t.slot d = .val v ∧ v &&& 0xFE = s.tc &&& 0xFE) ∧
      t.tc = (operandValue b Site.src2 s &&& operandValue a Site.src1 s &&& 0x00FE00FE) |||
        (s.tc &&& ~~~(operandValue a Site.src1 s &&& 0x00FE00FE)) ∧
      t.ac = s.ac ∧ t.ip = s.ip + 4 ∧ s.changesOnly (t.withTc s.tc) [d]) ∧
    (s.supervisor = true → operandValue b Site.src2 s ≠ 0 →
      ∀ v : Word, v = (s.reg d &&& operandValue b Site.src2 s) ||| (s.pc &&& ~~~operandValue b Site.src2 s) →
      ((v ^^^ s.pc) &&& ~~~0x001F2403#32 ≠ 0 → exec (.modpc a b d) s = .refused .modpcReserved) ∧
      ((v ^^^ s.pc) &&& ~~~0x001F2403#32 = 0 → v.getLsbD 0 = false →
        (s.pc.extractLsb' 16 5).toNat ≤ (v.extractLsb' 16 5).toNat ∨ s.quiet →
        ∃ t, exec (.modpc a b d) s = .next t ∧ t.slot d = .val s.pc ∧ t.pc = v ∧ t.ac = s.ac ∧ t.ip = s.ip + 4 ∧
          s.changesOnly (t.withPc s.pc) [d]))

/-- inten and intdis clear and set ICON.gie; intctl and halt do so for operands 1 and 0 and leave it for 2; intctl writes
whether interrupts were enabled, halt stops the machine after itself; an operand above 2 raises OPERATION.INVALID_OPERAND.
No interrupt waits where they are enabled (48_processor_management R583, R584, R592, R600 to R602). -/
def Obligations.InterruptControl : Prop :=
  ∀ (a : Operand) (d : RegNum) (s : State), s.supervisor = true → s.untraced →
    (∃ t, exec .intdis s = .next t ∧ t.intr = { s.intr with icon := s.intr.icon ||| 0x400 } ∧ t.ac = s.ac ∧
      t.ip = s.ip + 4 ∧ s.changesOnly (t.withIntr s.intr) []) ∧
    (s.quiet → ∃ t, exec .inten s = .next t ∧ t.intr = { s.intr with icon := s.intr.icon &&& ~~~0x400 } ∧ t.ac = s.ac ∧
      t.ip = s.ip + 4 ∧ s.changesOnly (t.withIntr s.intr) []) ∧
    (2 < (operandValue a Site.src1 s).toNat → exec (.intctl a d) s = s.raised 4 .invalidOperand ∧
      exec (.halt a) s = s.raised 4 .invalidOperand) ∧
    (∀ p ∈ [(0#32, s.intr.icon ||| 0x400), (1#32, s.intr.icon &&& ~~~0x400), (2#32, s.intr.icon)],
      operandValue a Site.src1 s = p.1 →
      (d ≠ 2 → p.1 ≠ 1 ∨ s.quiet → ∃ t, exec (.intctl a d) s = .next t ∧ t.intr = { s.intr with icon := p.2 } ∧
        t.slot d = .val (if s.intr.icon.getLsbD 10 then 0 else 1) ∧ t.ac = s.ac ∧ t.ip = s.ip + 4 ∧
        s.changesOnly (t.withIntr s.intr) [d]) ∧
      (∃ t, exec (.halt a) s = .next t ∧ t.intr = { s.intr with icon := p.2, halted := true } ∧ t.ac = s.ac ∧
        t.ip = s.ip + 4 ∧ s.changesOnly (t.withIntr s.intr) []))

/-- dcctl and icctl in supervisor mode: functions 0 and 1 switch the cache, 2 and 3 of dcctl invalidate it, 2 of icctl
invalidates and unlocks, 4 and 5 report (log2 of the sets is 6 on the JA, else 7; the block is 256 words on the JA, else
512), and a reserved function raises OPERATION.INVALID_OPERAND (48_processor_management R585 to R589, R593 to R598). -/
def Obligations.CacheControl : Prop :=
  ∀ (a b : Operand) (d : RegNum) (s : State), s.supervisor = true →
    ∀ f : Byte, f = (operandValue a Site.src1 s).setWidth 8 →
    (s.untraced → f = 0 ∨ f = 1 → (∃ t, exec (.dcctl a b d) s = .next t ∧ t.cache.dataEnabled = (f == 1) ∧ t.ac = s.ac ∧
      t.ip = s.ip + 4 ∧ s.changesOnly (t.withCache s.cache) []) ∧
      (∃ t, exec (.icctl a b d) s = .next t ∧ t.cache.instrEnabled = (f == 1) ∧ t.ac = s.ac ∧
        t.ip = s.ip + 4 ∧ s.changesOnly (t.withCache s.cache) [])) ∧
    (s.untraced → f = 2 ∨ f = 3 → ∃ t, exec (.dcctl a b d) s = .next t ∧ t.cache.dataStale = [] ∧ t.ac = s.ac ∧
      t.ip = s.ip + 4 ∧ s.changesOnly t []) ∧
    (s.untraced → f = 2 → ∃ t, exec (.icctl a b d) s = .next t ∧ t.cache.codeStale = [] ∧ t.cache.instrLocked = false ∧
      t.cache.instrEnabled = s.cache.instrEnabled ∧ t.ac = s.ac ∧ t.ip = s.ip + 4 ∧
      s.changesOnly (t.withCache s.cache) []) ∧
    (s.untraced → f = 4 → d ≠ 2 → (∃ t, exec (.dcctl a b d) s = .next t ∧
        t.slot d = .val ((if s.plat.part = .ja then 0x6220 else 0x7220) + if s.cache.dataEnabled then 1 else 0) ∧
        t.ac = s.ac ∧ t.ip = s.ip + 4 ∧ s.changesOnly t [d]) ∧
      (∃ t, exec (.icctl a b d) s = .next t ∧
        t.slot d = .val ((if s.plat.part = .ja then 0x16220 else 0x17220) + if s.cache.instrEnabled then 1 else 0) ∧
        t.ac = s.ac ∧ t.ip = s.ip + 4 ∧ s.changesOnly t [d])) ∧
    (s.untraced → f = 5 → d ≠ 2 → ∃ t, exec (.icctl a b d) s = .next t ∧
      t.slot d = .val ((if s.plat.part = .ja then 0x10001 else 0x20001) +
        if s.cache.instrLocked then 0x01000000 else 0) ∧
      t.ac = s.ac ∧ t.ip = s.ip + 4 ∧ s.changesOnly t [d]) ∧
    (f = 5 ∨ 7 ≤ f.toNat → exec (.dcctl a b d) s = s.raised 4 .invalidOperand) ∧
    (7 ≤ f.toNat → exec (.icctl a b d) s = s.raised 4 .invalidOperand)

/-- sysctl in supervisor mode: message 0 posts a vector in the interrupt table, or for priority 0 only rescans it, and
updates the software priority (here with interrupts disabled, so that none is delivered), and raises TYPE.MISMATCH where
the word of the table is write-protected internal RAM, the byte of the vector stored if that is not protected (a table
across the bound and the order are the model's choice, notes/assumptions/22.md, 67.md), 1 invalidates and unlocks the
instruction cache, 2 with mode 0 or an odd mode switches it and with an even mode other than 0, 4 and 6 raises
OPERATION.INVALID_OPERAND, 5 exchanges bits of a memory-mapped register, a read-only one keeping its word; without the
rights, or at an address that is not aligned, it raises OPERATION.UNIMPLEMENTED, and a reserved location is refused
(notes/assumptions/17.md). That every register keeps all 32 bits stored to it but for the tc bit of TMRn
(notes/assumptions/27.md), and that IPND shows the level-detected pins that are low (notes/assumptions/41.md), is the
model's choice. Message 6 grants the breakpoint registers and answers 22H (the model's choice for a second request,
notes/assumptions/48.md), and a reserved message raises OPERATION.INVALID_OPERAND (20_memory R87, R93, R95;
48_processor_management R606 to R609, R612 to R614). -/
def Obligations.SystemControl : Prop :=
  ∀ (a b : Operand) (d : RegNum) (s : State), s.supervisor = true → ∀ v1 : Word, v1 = operandValue a Site.src1 s →
    (v1.extractLsb' 8 8 = 0#8 → s.untraced → s.mem.wf = true → s.intr.nmiPending = false →
      s.intr.icon.getLsbD 10 = true → s.writable s.tables.interrupt 36 → s.protectedIn true s.tables.interrupt 36 = false →
      ∀ p : Nat, p = (v1.setWidth 8).toNat / 8 →
      ∃ t, exec (.sysctl a b d) s = .next t ∧
        t.wordAt s.tables.interrupt =
          s.wordAt s.tables.interrupt ||| (if p = 0 then 0 else BitVec.ofNat 32 (2 ^ p)) ∧
        (p ≠ 0 → t.byteAt (s.tables.interrupt + 4 + BitVec.ofNat 32 p) =
          s.byteAt (s.tables.interrupt + 4 + BitVec.ofNat 32 p) ||| BitVec.ofNat 8 (2 ^ ((v1.setWidth 8).toNat % 8))) ∧
        (t.wordAt s.tables.interrupt = 0 → t.intr = { s.intr with swPriority := 0 }) ∧
        (∀ n < 32, (t.wordAt s.tables.interrupt).getLsbD n = true →
          (∀ m < 32, n < m → (t.wordAt s.tables.interrupt).getLsbD m = false) →
          t.intr = { s.intr with swPriority := BitVec.ofNat 5 n }) ∧
        t.ac = s.ac ∧ t.ip = s.ip + 4 ∧ s.sameRegsBut t [] ∧ s.sameSpecial (t.withIntr s.intr) ∧ s.sameFrames t ∧
        (∀ x : Word, (∀ i < 4, x ≠ s.tables.interrupt + BitVec.ofNat 32 i) →
          (p ≠ 0 → x ≠ s.tables.interrupt + 4 + BitVec.ofNat 32 p) → t.byteAt x = s.byteAt x)) ∧
    (v1.extractLsb' 8 8 = 0#8 → s.config.bcon.getLsbD 2 = true → s.tables.interrupt.toNat < 0x40 →
      s.tables.interrupt.toNat % 4 = 0 → ∀ p : Nat, p = (v1.setWidth 8).toNat / 8 →
      (p = 0 ∨ s.tables.interrupt.toNat + 4 + p < 0x40 → exec (.sysctl a b d) s = s.raised 4 .mismatch) ∧
      (p ≠ 0 → 0x40 ≤ s.tables.interrupt.toNat + 4 + p →
        exec (.sysctl a b d) s = (s.poke8 (s.tables.interrupt + 4 + BitVec.ofNat 32 p)
          (.val (s.byteAt (s.tables.interrupt + 4 + BitVec.ofNat 32 p) |||
            BitVec.ofNat 8 (2 ^ ((v1.setWidth 8).toNat % 8))))).raised 4 .mismatch)) ∧
    (v1.extractLsb' 8 8 = 1#8 → s.untraced → s.quiet → ∃ t, exec (.sysctl a b d) s = .next t ∧ t.cache.codeStale = [] ∧
      t.cache.instrLocked = false ∧ t.ac = s.ac ∧ t.ip = s.ip + 4 ∧ s.changesOnly (t.withCache s.cache) []) ∧
    (v1.extractLsb' 8 8 = 2#8 → s.untraced → (v1.setWidth 8 = 0#8 ∨ v1.getLsbD 0 = true) →
      ∃ t, exec (.sysctl a b d) s = .next t ∧ t.cache.instrEnabled = !v1.getLsbD 0 ∧ t.ac = s.ac ∧ t.ip = s.ip + 4 ∧
        s.changesOnly (t.withCache s.cache) []) ∧
    (v1.extractLsb' 8 8 = 2#8 → v1.getLsbD 0 = false → v1.setWidth 8 ∉ [0#8, 4#8, 6#8] →
      exec (.sysctl a b d) s = s.raised 4 .invalidOperand) ∧
    (v1.extractLsb' 8 8 = 5#8 → d ≠ 2 →
      (∀ p ∈ mmrTable, BitVec.ofNat 32 p.1 = v1 >>> 16 →
        (s.mmrGranted p.2 = false → exec (.sysctl a b d) s = s.raised 4 .unimplemented) ∧
        (s.mmrGranted p.2 = true → s.untraced →
          ∃ t, exec (.sysctl a b d) s = .next t ∧ t.slot d = .val (s.mmr p.2) ∧
            s.mmrWritten t p.2 (if p.2 = .prcb ∨ p.2 = .deviceId then s.mmr p.2
              else ((operandValue b Site.src2 s &&& s.reg d) ||| (s.mmr p.2 &&& ~~~s.reg d)) &&&
                (if p.2 = .tmr0 ∨ p.2 = .tmr1 then ~~~1 else ~~~0)) ∧
            t.ac = s.ac ∧ t.ip = s.ip + 4 ∧ t.pc = s.pc ∧ t.tc = s.tc ∧ s.sameRegsBut t [d] ∧ s.sameBytes t)) ∧
      ((v1 >>> 16).extractLsb' 0 2 ≠ 0#2 → exec (.sysctl a b d) s = s.raised 4 .unimplemented) ∧
      ((v1 >>> 16).extractLsb' 0 2 = 0#2 → (∀ p ∈ mmrTable, BitVec.ofNat 32 p.1 ≠ v1 >>> 16) →
        exec (.sysctl a b d) s = .refused (.reservedMmrStore (0xFF000000 ||| (v1 >>> 16))))) ∧
    (v1.extractLsb' 8 8 = 6#8 → s.untraced → d ≠ 2 → ∃ t, exec (.sysctl a b d) s = .next t ∧ t.slot d = .val 0x22 ∧
      t.bp = { s.bp with rights := ⟨true, true, true, true, true⟩ } ∧ t.ac = s.ac ∧ t.ip = s.ip + 4 ∧
      s.changesOnly (t.withBp s.bp) [d]) ∧
    (v1.extractLsb' 8 8 = 4#8 ∨ 7 ≤ (v1.extractLsb' 8 8).toNat → exec (.sysctl a b d) s = s.raised 4 .invalidOperand)

/-- LOAD AND LOCK, icctl 3 with a count of 1 or sysctl 2 in mode 4 or 6: the instruction cache is invalidated and one way
of it locked, where the block at src2 with its low four bits cleared meets no absent memory; icctl 3 with a count of 0
invalidates and unlocks, with a greater one it raises OPERATION.INVALID_OPERAND (93 U24). Each leaves the cache enabled or
disabled as it was, which R609 derives; what is locked outside external memory is the model's choice
(notes/assumptions/47.md, 50.md). DUMPS, dcctl 6 and icctl 6: 7 or 13 words for each set from the first to the last that
src/dst names are stored at src2 and nothing else changes; the valid bits are below 32, Set_Data of the instruction cache
is 0 or 1, and the other words are free (notes/assumptions/25.md); a first set above the last, or an address that is not
aligned, raises OPERATION.INVALID_OPERAND (48_processor_management R590, R596, R599, R609). -/
def Obligations.CacheLoadsAndDumps : Prop :=
  ∀ (a b : Operand) (d : RegNum) (s : State), s.supervisor = true →
    ∀ f : Byte, f = (operandValue a Site.src1 s).setWidth 8 → ∀ v : Word, v = operandValue (.reg d) Site.srcDst s →
    ∀ addr : Word, addr = operandValue b Site.src2 s →
    (f = 3 → (1 < v.toNat → exec (.icctl a b d) s = s.raised 4 .invalidOperand) ∧
      (s.untraced → v = 0 ∨ v = 1 ∧ (∀ i < 4 * s.plat.part.lockWords,
          s.kindAt ((addr &&& 0xFFFFFFF0) + BitVec.ofNat 32 i) ≠ .absent) →
        ∃ t, exec (.icctl a b d) s = .next t ∧ t.cache.codeStale = [] ∧ t.cache.instrLocked = (v == 1) ∧
          t.cache.instrEnabled = s.cache.instrEnabled ∧ t.ac = s.ac ∧ t.ip = s.ip + 4 ∧
          s.changesOnly (t.withCache s.cache) [])) ∧
    ((operandValue a Site.src1 s).extractLsb' 8 8 = 2#8 → f = 4 ∨ f = 6 → s.untraced →
      (∀ i < 4 * s.plat.part.lockWords, s.kindAt ((addr &&& 0xFFFFFFF0) + BitVec.ofNat 32 i) ≠ .absent) →
      ∃ t, exec (.sysctl a b d) s = .next t ∧ t.cache.codeStale = [] ∧ t.cache.instrLocked = true ∧
        t.cache.instrEnabled = s.cache.instrEnabled ∧ t.ac = s.ac ∧ t.ip = s.ip + 4 ∧
        s.changesOnly (t.withCache s.cache) []) ∧
    (f = 6 → ∀ p ∈ [(Instr.dcctl a b d, 1), (.icctl a b d, 2)],
      ∀ first : Nat, first = (v.extractLsb' 0 16).toNat →
      ∀ last : Nat, last = min (v.extractLsb' 16 16).toNat ((if s.plat.part = .ja then 64 else 128) - 1) →
      (last < first ∨ addr.extractLsb' 0 2 ≠ 0#2 → exec p.1 s = s.raised 4 .invalidOperand) ∧
      (first ≤ last → addr.extractLsb' 0 2 = 0#2 → s.untraced → s.mem.wf = true →
        ∀ words : Nat, words = (1 + 6 * p.2) * (last + 1 - first) → s.wordsWritable addr words →
        s.protectedIn s.supervisor addr (4 * words) = false →
        ∃ t, exec p.1 s = .next t ∧ t.ac = s.ac ∧ t.ip = s.ip + 4 ∧ s.storesOnly t addr (4 * words) ∧
          (∀ k < last + 1 - first,
            (∀ way < p.2,
              (t.wordAt (addr + BitVec.ofNat 32 (4 * ((1 + 6 * p.2) * k + 6 * way + 2)))).toNat < 32) ∧
            (p.2 = 2 → (t.wordAt (addr + BitVec.ofNat 32 (4 * ((1 + 6 * p.2) * k)))).toNat < 2))))

/-- sysctl message 3, software reinitialization, from a PRCB, control table, interrupt table and system procedure table in
settled memory: both caches are disabled and invalid, and the instruction cache unlocked, before the new words are read; the
table pointers, AC, the unaligned-fault mask, the instruction cache enable, the reserved frames, the interrupt maps, ICON,
the PMCON registers, TC and BCON come from them, and word 0 of internal RAM gets the NMI vector; the IP is src2; PC, the
general registers, the register cache, IMSK, IPND and the other registers and bytes keep their values. That AC and TC keep
only their defined bits, what a pointer that is not aligned gives, and that word 0 is stored also where the new BCON
protects it, are the model's choice (notes/assumptions/14.md, 15.md, 47.md, 69.md) (48_processor_management R610; 70_reset
R722, R723, R726, R728, R731; 92 D30). -/
def Obligations.Reinitialization : Prop :=
  ∀ (a b : Operand) (d : RegNum) (s : State), s.supervisor = true → s.untraced → s.mem.wf = true →
    (operandValue a Site.src1 s).extractLsb' 8 8 = 3#8 →
    ∀ p : Word, p = operandValue (.reg d) Site.srcDst s → s.wordsSettled p 10 →
    ∀ c : Word, c = s.wordAt (p + 0x04) → s.wordsSettled (c + 0x10) 24 →
    ∀ table : Word, table = s.wordAt (p + 0x10) → s.settled (table + 996) 4 →
    ∀ spt : Word, spt = s.wordAt (p + 0x14) → s.settled (spt + 12) 4 →
    ∃ t, exec (.sysctl a b d) s = .next t ∧ t.ip = operandValue b Site.src2 s &&& 0xFFFFFFFC ∧ t.pc = s.pc ∧
      t.tables = { prcb := p, spt := spt, interrupt := table, fault := s.wordAt p, control := c
                   isp := s.wordAt (p + 0x1C), ssp := s.wordAt (spt + 12) } ∧
      t.ac = s.wordAt (p + 0x08) &&& 0x9107 ∧ t.unalignedMasked = (s.wordAt (p + 0x0C)).getLsbD 30 ∧
      t.frames = { s.frames with reserved := (s.wordAt (p + 0x24)).extractLsb' 8 3 } ∧
      t.intr = { s.intr with imap0 := s.wordAt (c + 0x10), imap1 := s.wordAt (c + 0x14), imap2 := s.wordAt (c + 0x18)
                             icon := s.wordAt (c + 0x1C) } ∧
      (∀ k : Fin 8, t.config.pmcon[k] = s.wordAt (c + 0x20 + BitVec.ofNat 32 (8 * k.val))) ∧
      t.config = { s.config with pmcon := t.config.pmcon, bcon := s.wordAt (c + 0x6C) } ∧
      t.tc = s.wordAt (c + 0x68) &&& 0x00FE00FE ∧
      t.cache.dataEnabled = false ∧ t.cache.dataStale = [] ∧
      t.cache.instrEnabled = !(s.wordAt (p + 0x20)).getLsbD 16 ∧ t.cache.instrLocked = false ∧ t.cache.codeStale = [] ∧
      t.holdsWord 0 (.val (s.wordAt (table + 996))) ∧ s.sameBytesBut t 0 4 ∧
      (∀ n : RegNum, t.slot n = s.slot n) ∧ t.bp = s.bp ∧ t.timer0 = s.timer0 ∧ t.timer1 = s.timer1 ∧
      t.deviceId = s.deviceId

/-! Interrupts and reset. -/

/-- TAKING AN INTERRUPT, the NMI or a hardware request, dedicated or expanded: its handler runs as State.takesInterrupt
says, on the interrupt stack, or on the current one in an interrupted state. The handler's address is word 0 of internal RAM
for the NMI, the word of the map nibble there for a dedicated request with vector caching, else the entry of the vector.
IPND loses the bit of a dedicated request, but not of a pin that is detected by level and low, which stays pending; with the
mask operation of its mode IMSK goes to r3 of the handler and is cleared. Which pins are of which mode, that expanded
requests have no bit of IPND, and that a second NMI waits for the return of the first are the model's choice
(notes/assumptions/41.md, 42.md) (60_exceptions R681, R684, R686, R688 to R690, R692, R693). -/
def Obligations.InterruptDelivery : Prop :=
  ∀ s : State, s.pcLegal = true → s.mem.wf = true → s.frames.cache.length + 1 < 8 - s.frames.reserved.toNat →
    ∀ base : Word, base = frameAt (if s.pc.getLsbD 13 then s.reg 1 else s.tables.isp) →
    s.wordsWritable base 4 → s.protectedIn true base 16 = false →
    (∃ t, toOutcome (deliver .nmi) s = .next t ∧ s.takesInterrupt t 248 (s.wordAt 0) base ∧ s.sameBytesBut t base 80 ∧
      t.intr = { s.intr with nmiPending := false, nmiFrame := some (base + 16), halted := false }) ∧
    (∀ (r : Request) (low masks : Bool) (handler : Word),
      low = (decide (r.bit < 8) && (s.intr.icon.extractLsb' 0 2 == 0#2 ||
        (s.intr.icon.extractLsb' 0 2 == 2#2 && decide (5 ≤ r.bit))) && !s.intr.icon.getLsbD (2 + r.bit) &&
        !s.intr.pins.getLsbD r.bit) →
      masks = s.intr.icon.getLsbD (if r.dedicated then 11 else 12) →
      (r.dedicated = true ∧ s.intr.icon.getLsbD 13 = true ∧ handler = s.wordAt (4 * BitVec.ofNat 32 (r.vector.toNat / 16)) ∨
        ¬ (r.dedicated = true ∧ s.intr.icon.getLsbD 13 = true) ∧
          s.settled (s.tables.interrupt + 4 + 4 * r.vector.zeroExtend 32) 4 ∧
          handler = s.wordAt (s.tables.interrupt + 4 + 4 * r.vector.zeroExtend 32)) →
      ∃ t, toOutcome (deliver (.hardware r)) s = .next t ∧ s.takesInterrupt t r.vector handler base ∧
        s.sameBytesBut t base 80 ∧
        t.intr = { s.intr with
          ipnd := if r.dedicated && !low then s.intr.ipnd &&& ~~~BitVec.ofNat 32 (2 ^ r.bit) else s.intr.ipnd
          imsk := if masks then 0 else s.intr.imsk, halted := false } ∧
        (masks = true → t.slot 3 = .val s.intr.imsk) ∧
        (r.dedicated = true → low = true → (t.mmr .ipnd).getLsbD r.bit = true))

/-- THE DELIVERY OF A POSTED SOFTWARE INTERRUPT: the most significant bit p of the pending-priorities word and k of the byte
of that priority select vector 8 p + k; its bit is cleared in the byte, that of the priority in the word when the byte
becomes 0, and the software priority is that of the most significant bit left; then the vector is taken from its table
entry. Where the word or the byte is 0 nothing is delivered and the software priority becomes 0: R687 marks that an
inference of its own, and it is the model's choice (notes/assumptions/43.md). Vectors 0 to 7, which only a write behind the
controller's back can select, are left out (notes/assumptions/43.md) (60_exceptions R686 to R690). -/
def Obligations.SoftwareDelivery : Prop :=
  ∀ (s : State) (table : Word), table = s.tables.interrupt → s.mem.wf = true → s.wordsWritable table 9 →
    s.protectedIn true table 36 = false →
    (s.wordAt table = 0 → toOutcome (deliver .software) s = .next (s.withIntr { s.intr with swPriority := 0 })) ∧
    (∀ p < 32, (s.wordAt table).getLsbD p = true → (∀ m < 32, p < m → (s.wordAt table).getLsbD m = false) →
      ∀ b : Byte, b = s.byteAt (table + 4 + BitVec.ofNat 32 p) →
      (b = 0 → toOutcome (deliver .software) s = .next (s.withIntr { s.intr with swPriority := 0 })) ∧
      (1 ≤ p → ∀ k < 8, b.getLsbD k = true → (∀ m < 8, k < m → b.getLsbD m = false) →
        s.pcLegal = true → s.frames.cache.length + 1 < 8 - s.frames.reserved.toNat →
        ∀ base : Word, base = frameAt (if s.pc.getLsbD 13 then s.reg 1 else s.tables.isp) →
        s.wordsWritable base 4 → s.protectedIn true base 16 = false →
        (∀ i < 36, ∀ j < 80, table + BitVec.ofNat 32 i ≠ base + BitVec.ofNat 32 j) →
        s.settled (table + 4 + 4 * BitVec.ofNat 32 (8 * p + k)) 4 →
        ∃ t, toOutcome (deliver .software) s = .next t ∧
          s.takesInterrupt t (BitVec.ofNat 8 (8 * p + k)) (s.wordAt (table + 4 + 4 * BitVec.ofNat 32 (8 * p + k))) base ∧
          t.byteAt (table + 4 + BitVec.ofNat 32 p) = b &&& ~~~BitVec.ofNat 8 (2 ^ k) ∧
          t.wordAt table = (if b = BitVec.ofNat 8 (2 ^ k) then s.wordAt table &&& ~~~BitVec.ofNat 32 (2 ^ p)
            else s.wordAt table) ∧
          (t.wordAt table = 0 → t.intr = { s.intr with swPriority := 0, halted := false }) ∧
          (∀ n < 32, (t.wordAt table).getLsbD n = true → (∀ m < 32, n < m → (t.wordAt table).getLsbD m = false) →
            t.intr = { s.intr with swPriority := BitVec.ofNat 5 n, halted := false }) ∧
          (∀ x : Word, (∀ i < 4, x ≠ table + BitVec.ofNat 32 i) → x ≠ table + 4 + BitVec.ofNat 32 p →
            (∀ j < 80, x ≠ base + BitVec.ofNat 32 j) → t.byteAt x = s.byteAt x)))

/-- WHICH INTERRUPT IS TAKEN: the NMI first and whatever the priority; else, if ICON.gie is 0, the request of the highest
vector among the hardware sources that are pending in IPND and enabled in IMSK, or the posted software interrupt if its
priority is as high, and only if the priority is above PC.p or is 31; none, where no request may interrupt. IPND shows a pin
that is low and detected by level as pending. Which pins are of which mode and that a second NMI waits for the return of the
first are the model's choice (notes/assumptions/41.md, 42.md) (60_exceptions R681 to R683, R685, R692). -/
def Obligations.PendingSourceChoice : Prop :=
  ∀ s : State,
    (s.intr.nmiPending = true → s.intr.nmiFrame = none → s.pendingSource = some .nmi) ∧
    (s.intr.nmiPending = false ∨ s.intr.nmiFrame ≠ none →
      s.pendingSource ≠ some .nmi ∧
      (s.intr.icon.getLsbD 10 = true → s.pendingSource = none) ∧
      (∀ r, s.pendingSource = some (.hardware r) → s.intr.icon.getLsbD 10 = false ∧ s.requests r.vector ∧
        s.interruptible (r.vector.toNat / 8) ∧ (∀ v, s.requests v → v.toNat ≤ r.vector.toNat) ∧
        s.intr.swPriority.toNat ≤ r.vector.toNat / 8) ∧
      (s.pendingSource = some .software → s.intr.icon.getLsbD 10 = false ∧ s.intr.swPriority ≠ 0 ∧
        s.interruptible s.intr.swPriority.toNat ∧ ∀ v, s.requests v → v.toNat / 8 ≤ s.intr.swPriority.toNat) ∧
      (s.pendingSource = none → s.intr.icon.getLsbD 10 = false →
        ¬ s.interruptible s.intr.swPriority.toNat ∧ ∀ v, s.requests v → ¬ s.interruptible (v.toNat / 8))) ∧
    (∀ bit < 32, (s.mmr .ipnd).getLsbD bit = (s.intr.ipnd.getLsbD bit || (decide (bit < 8) &&
      (s.intr.icon.extractLsb' 0 2 == 0#2 || (s.intr.icon.extractLsb' 0 2 == 2#2 && decide (5 ≤ bit))) &&
      !s.intr.icon.getLsbD (2 + bit) && !s.intr.pins.getLsbD bit)))

/-- TIMERS: an enabled timer counts down by one a clock; when it reaches 0 it sets tc, posts bit 12 or 13 of IPND, and goes
on from TRRn with reload, else stops at 0; a number of clocks is so many single ones. That a count of 0 is decremented to
FFFFFFFFH with reload and stays without is the model's choice (notes/assumptions/45.md); so are the bits of TMRn, which the
spec takes from general knowledge (60_exceptions R692, R714). -/
def Obligations.TimerClocks : Prop :=
  (∀ t : Timer, t.clocks 0 = (t, false) ∧
    (∀ m n : Nat, t.clocks (m + n) = (((t.clocks m).1.clocks n).1, (t.clocks m).2 || ((t.clocks m).1.clocks n).2)) ∧
    (t.tmr.getLsbD 1 = false → t.clocks 1 = (t, false)) ∧
    (t.tmr.getLsbD 1 = true → t.tcr ≠ 1 → t.tmr.getLsbD 2 = true ∨ t.tcr ≠ 0 →
      t.clocks 1 = ({ t with tcr := t.tcr - 1 }, false)) ∧
    (t.tmr.getLsbD 1 = true → t.tcr = 1 →
      t.clocks 1 = ({ t with tcr := if t.tmr.getLsbD 2 then t.trr else 0, tmr := t.tmr ||| 1 }, true)) ∧
    (t.tmr.getLsbD 2 = false → t.tcr = 0 → t.clocks 1 = (t, false))) ∧
  (∀ (s : State) (n : Nat),
    applyEvent (.clock0 n) s = .ok () ((s.withTimer0 (s.timer0.clocks n).1).withIntr { s.intr with
      ipnd := if (s.timer0.clocks n).2 then s.intr.ipnd ||| 0x1000 else s.intr.ipnd }) ∧
    applyEvent (.clock1 n) s = .ok () ((s.withTimer1 (s.timer1.clocks n).1).withIntr { s.intr with
      ipnd := if (s.timer1.clocks n).2 then s.intr.ipnd ||| 0x2000 else s.intr.ipnd }))

/-- After a hardware reset the process controls are priority 31, supervisor, tracing disabled, interrupted, in State.reset
and after the reset pin; the whole word 001F2002H, with tfp and the reserved bits 0, is the spec's own derivation (10_state
R48, 92_eei_decisions D9). A sysctl reinitialize message leaves PC unchanged (10_state R48). -/
def Obligations.ResetProcessControls : Prop :=
  (pcPriority State.reset.pc = 31 ∧ pcSupervisor State.reset.pc = true ∧ pcTe State.reset.pc = false ∧
    pcInterrupted State.reset.pc = true ∧ State.reset.pc = 0x001F2002) ∧
  (∀ s : State, ∀ t, hardwareReset s = .ok () t → t.pc = 0x001F2002) ∧
  (∀ (a b : Operand) (d : RegNum) (s : State), (operandValue a Site.src1 s).extractLsb' 8 8 = 3#8 → s.untraced →
    s.supervisor = true → ∀ t, exec (.sysctl a b d) s = .next t → t.pc = s.pc)

/-- State.reset meets the invariant; nothing is pending, the caches are empty, IMSK and the breakpoint rights are clear,
and SSP is the word at SPT_BASE + 12. The addresses of its tables and the zeros of its registers are the model's choice
(notes/assumptions/3.md, 4.md) (70_reset R724, R729). -/
def Obligations.ResetMeetsInvariant : Prop :=
  State.reset.Inv ∧ State.reset.quiet ∧ State.reset.untraced ∧ State.reset.pendingSource = none ∧
    State.reset.frames.cache = [] ∧ State.reset.intr.imsk = 0 ∧ State.reset.cache.dataEnabled = false ∧
    State.reset.bp.rights = ⟨false, false, false, false, false⟩ ∧ State.reset.tc = 0 ∧
    State.reset.tables.ssp = State.reset.wordAt (State.reset.tables.spt + 12)

/-! Encoding. -/

/-- DECODE AND ENCODE AGREE: decoding the words of a well-formed instruction gives the instruction, and the first word tells
whether there is a second (30_encoding R142 to R152, R164 to R169). -/
def Obligations.DecodeOfEncode : Prop :=
  ∀ i : Instr, i.wellFormed = true →
    decode (encode i).1 ((encode i).2.getD 0) = .ok i ∧ needsSecondWord (encode i).1 = (encode i).2.isSome

/-- What decodes is well formed, and the reserved encodings do not decode: the opcodes that section 7 does not list, of 8
bits and, for REG words, of 12; a literal destination; a special-function flag; bit 0 of a CTRL word; bits 6:5, the scales
101 to 111 and the mode 0110 of a MEMB word. That M3 is a literal destination on every REG instruction that has a src/dst
operand, read, written or both, is the model's choice (notes/assumptions/52.md) (30_encoding R157, R168). -/
def Obligations.ReservedEncodingsRefused : Prop :=
  ∀ w0 w1 : Word, (∀ i, decode w0 w1 = .ok i → i.wellFormed = true) ∧
    (w0.toNat / 2 ^ 24 < 0x40 → w0.getLsbD 0 = true → ∃ e, decode w0 w1 = .error e) ∧
    (0x20 ≤ w0.toNat / 2 ^ 24 → w0.toNat / 2 ^ 24 < 0x28 → w0.getLsbD 13 = true → ∃ e, decode w0 w1 = .error e) ∧
    (0x40 ≤ w0.toNat / 2 ^ 24 → w0.toNat / 2 ^ 24 < 0x80 →
      (w0.getLsbD 5 = true ∨ w0.getLsbD 6 = true → ∃ e, decode w0 w1 = .error e) ∧
      (w0.getLsbD 13 = true → (16 * (w0.toNat / 2 ^ 24) + w0.toNat / 2 ^ 7 % 16) ∉ [0x594, 0x595, 0x596, 0x597, 0x5A0,
          0x5A1, 0x5A2, 0x5A3, 0x5AC, 0x5AE, 0x5B4, 0x5B5, 0x65D, 0x660, 0x66B, 0x66C, 0x66D, 0x66F] →
        ∃ e, decode w0 w1 = .error e)) ∧
    (0x58 ≤ w0.toNat / 2 ^ 24 → w0.toNat / 2 ^ 24 < 0x80 →
      (16 * (w0.toNat / 2 ^ 24) + w0.toNat / 2 ^ 7 % 16) ∉ [0x580, 0x581, 0x582, 0x583, 0x584, 0x586, 0x587, 0x588, 0x589, 0x58A, 0x58B, 0x58C, 0x58D, 0x58E,
          0x58F, 0x590, 0x591, 0x592, 0x593, 0x594, 0x595, 0x596, 0x597, 0x598, 0x59A, 0x59B, 0x59C, 0x59D,
          0x59E, 0x5A0, 0x5A1, 0x5A2, 0x5A3, 0x5A4, 0x5A5, 0x5A6, 0x5A7, 0x5AC, 0x5AD, 0x5AE, 0x5B0, 0x5B2,
          0x5B4, 0x5B5, 0x5CC, 0x5D8, 0x5DC, 0x5EC, 0x5FC, 0x610, 0x612, 0x640, 0x641, 0x645, 0x650, 0x651,
          0x654, 0x655, 0x658, 0x659, 0x65B, 0x65C, 0x65D, 0x660, 0x66B, 0x66C, 0x66D, 0x66F, 0x670, 0x671,
          0x701, 0x708, 0x70B, 0x741, 0x748, 0x749, 0x74B, 0x780, 0x781, 0x782, 0x783, 0x784, 0x790, 0x791,
          0x792, 0x793, 0x794, 0x7A0, 0x7A1, 0x7A2, 0x7A3, 0x7A4, 0x7B0, 0x7B1, 0x7B2, 0x7B3, 0x7B4, 0x7C0,
          0x7C1, 0x7C2, 0x7C3, 0x7C4, 0x7D0, 0x7D1, 0x7D2, 0x7D3, 0x7D4, 0x7E0, 0x7E1, 0x7E2, 0x7E3, 0x7E4,
          0x7F0, 0x7F1, 0x7F2, 0x7F3, 0x7F4] →
      ∃ e, decode w0 w1 = .error e) ∧
    (0x80 ≤ w0.toNat / 2 ^ 24 → w0.getLsbD 12 = true →
      w0.getLsbD 5 = true ∨ w0.getLsbD 6 = true ∨ 5 ≤ w0.toNat / 2 ^ 7 % 8 ∨ w0.toNat / 2 ^ 10 % 16 = 6 →
      ∃ e, decode w0 w1 = .error e) ∧
    (w0.toNat / 2 ^ 24 < 0x08 ∨ (0x0C ≤ w0.toNat / 2 ^ 24 ∧ w0.toNat / 2 ^ 24 < 0x10) ∨
        (0x28 ≤ w0.toNat / 2 ^ 24 ∧ w0.toNat / 2 ^ 24 < 0x30) ∨
        (0x40 ≤ w0.toNat / 2 ^ 24 ∧ w0.toNat / 2 ^ 24 < 0x58) ∨
        (0x80 ≤ w0.toNat / 2 ^ 24 ∧ w0.toNat / 2 ^ 24 ∉ [0x80, 0x82, 0x84, 0x85, 0x86, 0x88, 0x8A, 0x8C, 0x90, 0x92, 0x98,
          0x9A, 0xA0, 0xA2, 0xB0, 0xB2, 0xC0, 0xC2, 0xC8, 0xCA]) → ∃ e, decode w0 w1 = .error e)

/-- Words of each format and of the addressing modes, from the vectors E2, E4, E9 to E12, E14, E16, E19, E21, E22, E24, E25
and E35 of spec/96_derived_vectors.md, decode to the instruction of the vector, and the last is refused (30_encoding R144 to
R152, R157, R158). -/
def Obligations.DecodesWrittenWords : Prop :=
  decode 0x591C4981 0 = .ok (.subi (.lit 1) (.reg 17) 3) ∧ decode 0x5A041009 0 = .ok (.cmpo (.reg 9) (.lit 16)) ∧
    decode 0x3E00FFF0 0 = .ok (.cmpible (.lit 0) 3 (-16)) ∧ decode 0x37296100 0 = .ok (.bbs (.lit 5) 5 0x100) ∧
    decode 0x24C80000 0 = .ok (.testl 25) ∧ decode 0x24C80002 0 = .ok (.testl 25) ∧
    decode 0x08FFFFF0 0 = .ok (.b (-16)) ∧ decode 0x0A123454 0 = .ok .ret ∧
    decode 0x90222004 0 = .ok (.ld (.indOffset 8 4) 4) ∧
    decode 0x92911D03 0 = .ok (.st 18 (.indIndex 4 3 .x4)) ∧
    decode 0x92913D03 0x30 = .ok (.st 18 (.indIndexDisp 4 3 .x4 0x30)) ∧
    decode 0xC868380C 0x2000 = .ok (.ldis (.indexDisp 12 .x1 0x2000) 13) ∧
    decode 0x84003000 0x12345678 = .ok (.bx (.absDisp 0x12345678)) ∧ decode 0x08000015 0 = .error .mustBeZero

/-! The machine. -/

/-- A STEP RUNS THE DECODED INSTRUCTION: with no input, no halt and no deliverable interrupt, the words of settled code at
the IP that decode to an instruction are executed, the fetch buffer then holding their block; words that do not decode
raise OPERATION.INVALID_OPCODE; an IP in internal RAM or MMR space raises OPERATION.UNIMPLEMENTED. Of a deliverable
interrupt a free number of instructions may still run before it is delivered, counted down from step to step (the model's
form of the free choice and of its fairness, notes/assumptions/40.md); a halted machine delivers or waits (20_memory R90,
R92, R112; 30_encoding R157, R164; 48 R584; 60_exceptions R645, R680, R682; 70_reset R750). -/
def Obligations.StepRunsDecoded : Prop :=
  (∀ s : State, s.codeSettled s.ip → (needsSecondWord (s.wordAt s.ip) = true → (s.fetched s.ip).codeSettled (s.ip + 4)) →
    ∀ w1 : Word, w1 = (if needsSecondWord (s.wordAt s.ip) then s.wordAt (s.ip + 4) else 0) →
    ∀ u : State, u = (if needsSecondWord (s.wordAt s.ip) then (s.fetched s.ip).fetched (s.ip + 4) else s.fetched s.ip) →
    (∀ i, decode (s.wordAt s.ip) w1 = .ok i → fetchAndRun exec s = exec i u ∧
      (s.inputs = [] → s.pendingSource = none → s.intr.halted = false → s.intr.latency = none → step s = exec i u)) ∧
    (∀ e, decode (s.wordAt s.ip) w1 = .error e → fetchAndRun exec s = u.raised 4 .invalidOpcode)) ∧
  (∀ s : State, s.ip.toNat < 0x400 ∨ 0xFF000000 ≤ s.ip.toNat → fetchAndRun exec s = s.raised 4 .unimplemented) ∧
  (∀ s : State, s.inputs = [] →
    (s.pendingSource = none →
      (s.intr.halted = false → step s = fetchAndRun exec (s.withLatency none)) ∧
      (s.intr.halted = true → step s = .next ((s.withLatency none).withFree (s.free + 1)))) ∧
    (∀ src, s.pendingSource = some src →
      (s.intr.halted = true ∨ s.intr.latency = some 0 → step s = toOutcome (deliver src) (s.withLatency none)) ∧
      (s.intr.halted = false → (∀ n, s.intr.latency = some (n + 1) → step s = fetchAndRun exec (s.withLatency (some n))) ∧
        (s.intr.latency = none → step s = toOutcome (deliver src) (s.withLatency none) ∨
          ∃ n, step s = fetchAndRun exec (s.withLatency (some n))))))

/-- A DELIVERABLE INTERRUPT THAT STAYS DELIVERABLE IS DELIVERED: from every state there is a number of instructions after
which, if they complete and an interrupt is deliverable all along, the next step delivers it. That number is drawn when the
interrupt becomes deliverable, falls by one with each instruction, whatever it is, and at 0 the step delivers. The number
itself is free and its use the model's choice (notes/assumptions/40.md) (60_exceptions R680; 70_reset R750). -/
def Obligations.DeliveryIsFair : Prop :=
  (∀ (s : State) (src : Source), s.inputs = [] → s.pendingSource = some src → s.intr.halted = false →
    (s.intr.latency = some 0 → step s = toOutcome (deliver src) (s.withLatency none)) ∧
    (∀ n, s.intr.latency = some (n + 1) → ∀ t, step s = .next t → t.intr.latency = some n) ∧
    (s.intr.latency = none → step s = toOutcome (deliver src) (s.withLatency none) ∨
      ∃ n, ∀ t, step s = .next t → t.intr.latency = some n)) ∧
  (∀ s : State, ∃ n : Nat, ∀ (trace : Nat → State) (srcs : Nat → Source), trace 0 = s →
    (∀ k ≤ n, (trace k).inputs = [] ∧ (trace k).pendingSource = some (srcs k) ∧ (trace k).intr.halted = false) →
    (∀ k < n, step (trace k) = .next (trace (k + 1))) →
    step (trace n) = toOutcome (deliver (srcs n)) ((trace n).withLatency none))

/-- THE INVARIANT: a step from a state that meets it ends in a state that meets it, whatever the inputs, the instruction,
the fault or the interrupt: memory in its canonical form, the IP word aligned, at most seven suspended register sets, and
no bit in AC, PC and TC but those the machine holds, which bits are held being the model's choice where the spec leaves it
open (notes/assumptions/14.md, 15.md) (10_state R32, R36, R42, R50; 45_call_return R505; notes/assumptions/5.md). -/
def Obligations.StepKeepsInvariant : Prop :=
  ∀ s : State, s.Inv → ∀ t, step s = .next t → t.Inv

/-- What no instruction changes in user mode: the cached table pointers, the memory configuration, the breakpoint registers
and rights, ICON and the interrupt maps, the unaligned-fault mask, the cache enables and lock, the reserved frames; nor does
it halt the machine (10_state R52; 20_memory R94; 48_processor_management R580). -/
def Obligations.UserModeKeepsSystemState : Prop :=
  ∀ (i : Instr) (s : State), s.supervisor = false → ∀ t, exec i s = .next t →
    t.tables = s.tables ∧ t.config = s.config ∧ t.bp = s.bp ∧ t.unalignedMasked = s.unalignedMasked ∧
      t.deviceId = s.deviceId ∧ t.cache.dataEnabled = s.cache.dataEnabled ∧
      t.cache.instrEnabled = s.cache.instrEnabled ∧ t.cache.instrLocked = s.cache.instrLocked ∧
      t.frames.reserved = s.frames.reserved ∧ t.intr.icon = s.intr.icon ∧ t.intr.imap0 = s.intr.imap0 ∧
      t.intr.imap1 = s.intr.imap1 ∧ t.intr.imap2 = s.intr.imap2 ∧ t.intr.halted = (s.intr.halted && t.intr.halted) ∧
      t.plat = s.plat ∧ t.inputs = s.inputs
end

