-- ==== Sys2Proof/Laws/State.lean ====
section
/-! SUPPORT. One lemma per field per update of the state, so that no later proof unfolds a record update. -/

namespace Sys2Proof.Machine

@[simp] theorem State.withGlobals_globals (s : State) (v : Vector Slot 16) : (s.withGlobals v).globals = v := rfl
@[simp] theorem State.withGlobals_locals (s : State) (v : Vector Slot 16) : (s.withGlobals v).locals = s.locals := rfl
@[simp] theorem State.withGlobals_ip (s : State) (v : Vector Slot 16) : (s.withGlobals v).ip = s.ip := rfl
@[simp] theorem State.withGlobals_ac (s : State) (v : Vector Slot 16) : (s.withGlobals v).ac = s.ac := rfl
@[simp] theorem State.withGlobals_pc (s : State) (v : Vector Slot 16) : (s.withGlobals v).pc = s.pc := rfl
@[simp] theorem State.withGlobals_tc (s : State) (v : Vector Slot 16) : (s.withGlobals v).tc = s.tc := rfl
@[simp] theorem State.withGlobals_frames (s : State) (v : Vector Slot 16) : (s.withGlobals v).frames = s.frames := rfl
@[simp] theorem State.withGlobals_tables (s : State) (v : Vector Slot 16) : (s.withGlobals v).tables = s.tables := rfl
@[simp] theorem State.withGlobals_unalignedMasked (s : State) (v : Vector Slot 16) : (s.withGlobals v).unalignedMasked = s.unalignedMasked := rfl
@[simp] theorem State.withGlobals_config (s : State) (v : Vector Slot 16) : (s.withGlobals v).config = s.config := rfl
@[simp] theorem State.withGlobals_bp (s : State) (v : Vector Slot 16) : (s.withGlobals v).bp = s.bp := rfl
@[simp] theorem State.withGlobals_intr (s : State) (v : Vector Slot 16) : (s.withGlobals v).intr = s.intr := rfl
@[simp] theorem State.withGlobals_timer0 (s : State) (v : Vector Slot 16) : (s.withGlobals v).timer0 = s.timer0 := rfl
@[simp] theorem State.withGlobals_timer1 (s : State) (v : Vector Slot 16) : (s.withGlobals v).timer1 = s.timer1 := rfl
@[simp] theorem State.withGlobals_deviceId (s : State) (v : Vector Slot 16) : (s.withGlobals v).deviceId = s.deviceId := rfl
@[simp] theorem State.withGlobals_cache (s : State) (v : Vector Slot 16) : (s.withGlobals v).cache = s.cache := rfl
@[simp] theorem State.withGlobals_trace (s : State) (v : Vector Slot 16) : (s.withGlobals v).trace = s.trace := rfl
@[simp] theorem State.withGlobals_mem (s : State) (v : Vector Slot 16) : (s.withGlobals v).mem = s.mem := rfl
@[simp] theorem State.withGlobals_plat (s : State) (v : Vector Slot 16) : (s.withGlobals v).plat = s.plat := rfl
@[simp] theorem State.withGlobals_inputs (s : State) (v : Vector Slot 16) : (s.withGlobals v).inputs = s.inputs := rfl
@[simp] theorem State.withGlobals_free (s : State) (v : Vector Slot 16) : (s.withGlobals v).free = s.free := rfl
@[simp] theorem State.withLocals_globals (s : State) (v : Vector Slot 16) : (s.withLocals v).globals = s.globals := rfl
@[simp] theorem State.withLocals_locals (s : State) (v : Vector Slot 16) : (s.withLocals v).locals = v := rfl
@[simp] theorem State.withLocals_ip (s : State) (v : Vector Slot 16) : (s.withLocals v).ip = s.ip := rfl
@[simp] theorem State.withLocals_ac (s : State) (v : Vector Slot 16) : (s.withLocals v).ac = s.ac := rfl
@[simp] theorem State.withLocals_pc (s : State) (v : Vector Slot 16) : (s.withLocals v).pc = s.pc := rfl
@[simp] theorem State.withLocals_tc (s : State) (v : Vector Slot 16) : (s.withLocals v).tc = s.tc := rfl
@[simp] theorem State.withLocals_frames (s : State) (v : Vector Slot 16) : (s.withLocals v).frames = s.frames := rfl
@[simp] theorem State.withLocals_tables (s : State) (v : Vector Slot 16) : (s.withLocals v).tables = s.tables := rfl
@[simp] theorem State.withLocals_unalignedMasked (s : State) (v : Vector Slot 16) : (s.withLocals v).unalignedMasked = s.unalignedMasked := rfl
@[simp] theorem State.withLocals_config (s : State) (v : Vector Slot 16) : (s.withLocals v).config = s.config := rfl
@[simp] theorem State.withLocals_bp (s : State) (v : Vector Slot 16) : (s.withLocals v).bp = s.bp := rfl
@[simp] theorem State.withLocals_intr (s : State) (v : Vector Slot 16) : (s.withLocals v).intr = s.intr := rfl
@[simp] theorem State.withLocals_timer0 (s : State) (v : Vector Slot 16) : (s.withLocals v).timer0 = s.timer0 := rfl
@[simp] theorem State.withLocals_timer1 (s : State) (v : Vector Slot 16) : (s.withLocals v).timer1 = s.timer1 := rfl
@[simp] theorem State.withLocals_deviceId (s : State) (v : Vector Slot 16) : (s.withLocals v).deviceId = s.deviceId := rfl
@[simp] theorem State.withLocals_cache (s : State) (v : Vector Slot 16) : (s.withLocals v).cache = s.cache := rfl
@[simp] theorem State.withLocals_trace (s : State) (v : Vector Slot 16) : (s.withLocals v).trace = s.trace := rfl
@[simp] theorem State.withLocals_mem (s : State) (v : Vector Slot 16) : (s.withLocals v).mem = s.mem := rfl
@[simp] theorem State.withLocals_plat (s : State) (v : Vector Slot 16) : (s.withLocals v).plat = s.plat := rfl
@[simp] theorem State.withLocals_inputs (s : State) (v : Vector Slot 16) : (s.withLocals v).inputs = s.inputs := rfl
@[simp] theorem State.withLocals_free (s : State) (v : Vector Slot 16) : (s.withLocals v).free = s.free := rfl
@[simp] theorem State.withIp_globals (s : State) (v : Word) : (s.withIp v).globals = s.globals := rfl
@[simp] theorem State.withIp_locals (s : State) (v : Word) : (s.withIp v).locals = s.locals := rfl
@[simp] theorem State.withIp_ip (s : State) (v : Word) : (s.withIp v).ip = v := rfl
@[simp] theorem State.withIp_ac (s : State) (v : Word) : (s.withIp v).ac = s.ac := rfl
@[simp] theorem State.withIp_pc (s : State) (v : Word) : (s.withIp v).pc = s.pc := rfl
@[simp] theorem State.withIp_tc (s : State) (v : Word) : (s.withIp v).tc = s.tc := rfl
@[simp] theorem State.withIp_frames (s : State) (v : Word) : (s.withIp v).frames = s.frames := rfl
@[simp] theorem State.withIp_tables (s : State) (v : Word) : (s.withIp v).tables = s.tables := rfl
@[simp] theorem State.withIp_unalignedMasked (s : State) (v : Word) : (s.withIp v).unalignedMasked = s.unalignedMasked := rfl
@[simp] theorem State.withIp_config (s : State) (v : Word) : (s.withIp v).config = s.config := rfl
@[simp] theorem State.withIp_bp (s : State) (v : Word) : (s.withIp v).bp = s.bp := rfl
@[simp] theorem State.withIp_intr (s : State) (v : Word) : (s.withIp v).intr = s.intr := rfl
@[simp] theorem State.withIp_timer0 (s : State) (v : Word) : (s.withIp v).timer0 = s.timer0 := rfl
@[simp] theorem State.withIp_timer1 (s : State) (v : Word) : (s.withIp v).timer1 = s.timer1 := rfl
@[simp] theorem State.withIp_deviceId (s : State) (v : Word) : (s.withIp v).deviceId = s.deviceId := rfl
@[simp] theorem State.withIp_cache (s : State) (v : Word) : (s.withIp v).cache = s.cache := rfl
@[simp] theorem State.withIp_trace (s : State) (v : Word) : (s.withIp v).trace = s.trace := rfl
@[simp] theorem State.withIp_mem (s : State) (v : Word) : (s.withIp v).mem = s.mem := rfl
@[simp] theorem State.withIp_plat (s : State) (v : Word) : (s.withIp v).plat = s.plat := rfl
@[simp] theorem State.withIp_inputs (s : State) (v : Word) : (s.withIp v).inputs = s.inputs := rfl
@[simp] theorem State.withIp_free (s : State) (v : Word) : (s.withIp v).free = s.free := rfl
@[simp] theorem State.withAc_globals (s : State) (v : Word) : (s.withAc v).globals = s.globals := rfl
@[simp] theorem State.withAc_locals (s : State) (v : Word) : (s.withAc v).locals = s.locals := rfl
@[simp] theorem State.withAc_ip (s : State) (v : Word) : (s.withAc v).ip = s.ip := rfl
@[simp] theorem State.withAc_ac (s : State) (v : Word) : (s.withAc v).ac = v := rfl
@[simp] theorem State.withAc_pc (s : State) (v : Word) : (s.withAc v).pc = s.pc := rfl
@[simp] theorem State.withAc_tc (s : State) (v : Word) : (s.withAc v).tc = s.tc := rfl
@[simp] theorem State.withAc_frames (s : State) (v : Word) : (s.withAc v).frames = s.frames := rfl
@[simp] theorem State.withAc_tables (s : State) (v : Word) : (s.withAc v).tables = s.tables := rfl
@[simp] theorem State.withAc_unalignedMasked (s : State) (v : Word) : (s.withAc v).unalignedMasked = s.unalignedMasked := rfl
@[simp] theorem State.withAc_config (s : State) (v : Word) : (s.withAc v).config = s.config := rfl
@[simp] theorem State.withAc_bp (s : State) (v : Word) : (s.withAc v).bp = s.bp := rfl
@[simp] theorem State.withAc_intr (s : State) (v : Word) : (s.withAc v).intr = s.intr := rfl
@[simp] theorem State.withAc_timer0 (s : State) (v : Word) : (s.withAc v).timer0 = s.timer0 := rfl
@[simp] theorem State.withAc_timer1 (s : State) (v : Word) : (s.withAc v).timer1 = s.timer1 := rfl
@[simp] theorem State.withAc_deviceId (s : State) (v : Word) : (s.withAc v).deviceId = s.deviceId := rfl
@[simp] theorem State.withAc_cache (s : State) (v : Word) : (s.withAc v).cache = s.cache := rfl
@[simp] theorem State.withAc_trace (s : State) (v : Word) : (s.withAc v).trace = s.trace := rfl
@[simp] theorem State.withAc_mem (s : State) (v : Word) : (s.withAc v).mem = s.mem := rfl
@[simp] theorem State.withAc_plat (s : State) (v : Word) : (s.withAc v).plat = s.plat := rfl
@[simp] theorem State.withAc_inputs (s : State) (v : Word) : (s.withAc v).inputs = s.inputs := rfl
@[simp] theorem State.withAc_free (s : State) (v : Word) : (s.withAc v).free = s.free := rfl
@[simp] theorem State.withPc_globals (s : State) (v : Word) : (s.withPc v).globals = s.globals := rfl
@[simp] theorem State.withPc_locals (s : State) (v : Word) : (s.withPc v).locals = s.locals := rfl
@[simp] theorem State.withPc_ip (s : State) (v : Word) : (s.withPc v).ip = s.ip := rfl
@[simp] theorem State.withPc_ac (s : State) (v : Word) : (s.withPc v).ac = s.ac := rfl
@[simp] theorem State.withPc_pc (s : State) (v : Word) : (s.withPc v).pc = v := rfl
@[simp] theorem State.withPc_tc (s : State) (v : Word) : (s.withPc v).tc = s.tc := rfl
@[simp] theorem State.withPc_frames (s : State) (v : Word) : (s.withPc v).frames = s.frames := rfl
@[simp] theorem State.withPc_tables (s : State) (v : Word) : (s.withPc v).tables = s.tables := rfl
@[simp] theorem State.withPc_unalignedMasked (s : State) (v : Word) : (s.withPc v).unalignedMasked = s.unalignedMasked := rfl
@[simp] theorem State.withPc_config (s : State) (v : Word) : (s.withPc v).config = s.config := rfl
@[simp] theorem State.withPc_bp (s : State) (v : Word) : (s.withPc v).bp = s.bp := rfl
@[simp] theorem State.withPc_intr (s : State) (v : Word) : (s.withPc v).intr = s.intr := rfl
@[simp] theorem State.withPc_timer0 (s : State) (v : Word) : (s.withPc v).timer0 = s.timer0 := rfl
@[simp] theorem State.withPc_timer1 (s : State) (v : Word) : (s.withPc v).timer1 = s.timer1 := rfl
@[simp] theorem State.withPc_deviceId (s : State) (v : Word) : (s.withPc v).deviceId = s.deviceId := rfl
@[simp] theorem State.withPc_cache (s : State) (v : Word) : (s.withPc v).cache = s.cache := rfl
@[simp] theorem State.withPc_trace (s : State) (v : Word) : (s.withPc v).trace = s.trace := rfl
@[simp] theorem State.withPc_mem (s : State) (v : Word) : (s.withPc v).mem = s.mem := rfl
@[simp] theorem State.withPc_plat (s : State) (v : Word) : (s.withPc v).plat = s.plat := rfl
@[simp] theorem State.withPc_inputs (s : State) (v : Word) : (s.withPc v).inputs = s.inputs := rfl
@[simp] theorem State.withPc_free (s : State) (v : Word) : (s.withPc v).free = s.free := rfl
@[simp] theorem State.withTc_globals (s : State) (v : Word) : (s.withTc v).globals = s.globals := rfl
@[simp] theorem State.withTc_locals (s : State) (v : Word) : (s.withTc v).locals = s.locals := rfl
@[simp] theorem State.withTc_ip (s : State) (v : Word) : (s.withTc v).ip = s.ip := rfl
@[simp] theorem State.withTc_ac (s : State) (v : Word) : (s.withTc v).ac = s.ac := rfl
@[simp] theorem State.withTc_pc (s : State) (v : Word) : (s.withTc v).pc = s.pc := rfl
@[simp] theorem State.withTc_tc (s : State) (v : Word) : (s.withTc v).tc = v := rfl
@[simp] theorem State.withTc_frames (s : State) (v : Word) : (s.withTc v).frames = s.frames := rfl
@[simp] theorem State.withTc_tables (s : State) (v : Word) : (s.withTc v).tables = s.tables := rfl
@[simp] theorem State.withTc_unalignedMasked (s : State) (v : Word) : (s.withTc v).unalignedMasked = s.unalignedMasked := rfl
@[simp] theorem State.withTc_config (s : State) (v : Word) : (s.withTc v).config = s.config := rfl
@[simp] theorem State.withTc_bp (s : State) (v : Word) : (s.withTc v).bp = s.bp := rfl
@[simp] theorem State.withTc_intr (s : State) (v : Word) : (s.withTc v).intr = s.intr := rfl
@[simp] theorem State.withTc_timer0 (s : State) (v : Word) : (s.withTc v).timer0 = s.timer0 := rfl
@[simp] theorem State.withTc_timer1 (s : State) (v : Word) : (s.withTc v).timer1 = s.timer1 := rfl
@[simp] theorem State.withTc_deviceId (s : State) (v : Word) : (s.withTc v).deviceId = s.deviceId := rfl
@[simp] theorem State.withTc_cache (s : State) (v : Word) : (s.withTc v).cache = s.cache := rfl
@[simp] theorem State.withTc_trace (s : State) (v : Word) : (s.withTc v).trace = s.trace := rfl
@[simp] theorem State.withTc_mem (s : State) (v : Word) : (s.withTc v).mem = s.mem := rfl
@[simp] theorem State.withTc_plat (s : State) (v : Word) : (s.withTc v).plat = s.plat := rfl
@[simp] theorem State.withTc_inputs (s : State) (v : Word) : (s.withTc v).inputs = s.inputs := rfl
@[simp] theorem State.withTc_free (s : State) (v : Word) : (s.withTc v).free = s.free := rfl
@[simp] theorem State.withFrames_globals (s : State) (v : Frames) : (s.withFrames v).globals = s.globals := rfl
@[simp] theorem State.withFrames_locals (s : State) (v : Frames) : (s.withFrames v).locals = s.locals := rfl
@[simp] theorem State.withFrames_ip (s : State) (v : Frames) : (s.withFrames v).ip = s.ip := rfl
@[simp] theorem State.withFrames_ac (s : State) (v : Frames) : (s.withFrames v).ac = s.ac := rfl
@[simp] theorem State.withFrames_pc (s : State) (v : Frames) : (s.withFrames v).pc = s.pc := rfl
@[simp] theorem State.withFrames_tc (s : State) (v : Frames) : (s.withFrames v).tc = s.tc := rfl
@[simp] theorem State.withFrames_frames (s : State) (v : Frames) : (s.withFrames v).frames = v := rfl
@[simp] theorem State.withFrames_tables (s : State) (v : Frames) : (s.withFrames v).tables = s.tables := rfl
@[simp] theorem State.withFrames_unalignedMasked (s : State) (v : Frames) : (s.withFrames v).unalignedMasked = s.unalignedMasked := rfl
@[simp] theorem State.withFrames_config (s : State) (v : Frames) : (s.withFrames v).config = s.config := rfl
@[simp] theorem State.withFrames_bp (s : State) (v : Frames) : (s.withFrames v).bp = s.bp := rfl
@[simp] theorem State.withFrames_intr (s : State) (v : Frames) : (s.withFrames v).intr = s.intr := rfl
@[simp] theorem State.withFrames_timer0 (s : State) (v : Frames) : (s.withFrames v).timer0 = s.timer0 := rfl
@[simp] theorem State.withFrames_timer1 (s : State) (v : Frames) : (s.withFrames v).timer1 = s.timer1 := rfl
@[simp] theorem State.withFrames_deviceId (s : State) (v : Frames) : (s.withFrames v).deviceId = s.deviceId := rfl
@[simp] theorem State.withFrames_cache (s : State) (v : Frames) : (s.withFrames v).cache = s.cache := rfl
@[simp] theorem State.withFrames_trace (s : State) (v : Frames) : (s.withFrames v).trace = s.trace := rfl
@[simp] theorem State.withFrames_mem (s : State) (v : Frames) : (s.withFrames v).mem = s.mem := rfl
@[simp] theorem State.withFrames_plat (s : State) (v : Frames) : (s.withFrames v).plat = s.plat := rfl
@[simp] theorem State.withFrames_inputs (s : State) (v : Frames) : (s.withFrames v).inputs = s.inputs := rfl
@[simp] theorem State.withFrames_free (s : State) (v : Frames) : (s.withFrames v).free = s.free := rfl
@[simp] theorem State.withTables_globals (s : State) (v : Tables) : (s.withTables v).globals = s.globals := rfl
@[simp] theorem State.withTables_locals (s : State) (v : Tables) : (s.withTables v).locals = s.locals := rfl
@[simp] theorem State.withTables_ip (s : State) (v : Tables) : (s.withTables v).ip = s.ip := rfl
@[simp] theorem State.withTables_ac (s : State) (v : Tables) : (s.withTables v).ac = s.ac := rfl
@[simp] theorem State.withTables_pc (s : State) (v : Tables) : (s.withTables v).pc = s.pc := rfl
@[simp] theorem State.withTables_tc (s : State) (v : Tables) : (s.withTables v).tc = s.tc := rfl
@[simp] theorem State.withTables_frames (s : State) (v : Tables) : (s.withTables v).frames = s.frames := rfl
@[simp] theorem State.withTables_tables (s : State) (v : Tables) : (s.withTables v).tables = v := rfl
@[simp] theorem State.withTables_unalignedMasked (s : State) (v : Tables) : (s.withTables v).unalignedMasked = s.unalignedMasked := rfl
@[simp] theorem State.withTables_config (s : State) (v : Tables) : (s.withTables v).config = s.config := rfl
@[simp] theorem State.withTables_bp (s : State) (v : Tables) : (s.withTables v).bp = s.bp := rfl
@[simp] theorem State.withTables_intr (s : State) (v : Tables) : (s.withTables v).intr = s.intr := rfl
@[simp] theorem State.withTables_timer0 (s : State) (v : Tables) : (s.withTables v).timer0 = s.timer0 := rfl
@[simp] theorem State.withTables_timer1 (s : State) (v : Tables) : (s.withTables v).timer1 = s.timer1 := rfl
@[simp] theorem State.withTables_deviceId (s : State) (v : Tables) : (s.withTables v).deviceId = s.deviceId := rfl
@[simp] theorem State.withTables_cache (s : State) (v : Tables) : (s.withTables v).cache = s.cache := rfl
@[simp] theorem State.withTables_trace (s : State) (v : Tables) : (s.withTables v).trace = s.trace := rfl
@[simp] theorem State.withTables_mem (s : State) (v : Tables) : (s.withTables v).mem = s.mem := rfl
@[simp] theorem State.withTables_plat (s : State) (v : Tables) : (s.withTables v).plat = s.plat := rfl
@[simp] theorem State.withTables_inputs (s : State) (v : Tables) : (s.withTables v).inputs = s.inputs := rfl
@[simp] theorem State.withTables_free (s : State) (v : Tables) : (s.withTables v).free = s.free := rfl
@[simp] theorem State.withUnalignedMasked_globals (s : State) (v : Bool) : (s.withUnalignedMasked v).globals = s.globals := rfl
@[simp] theorem State.withUnalignedMasked_locals (s : State) (v : Bool) : (s.withUnalignedMasked v).locals = s.locals := rfl
@[simp] theorem State.withUnalignedMasked_ip (s : State) (v : Bool) : (s.withUnalignedMasked v).ip = s.ip := rfl
@[simp] theorem State.withUnalignedMasked_ac (s : State) (v : Bool) : (s.withUnalignedMasked v).ac = s.ac := rfl
@[simp] theorem State.withUnalignedMasked_pc (s : State) (v : Bool) : (s.withUnalignedMasked v).pc = s.pc := rfl
@[simp] theorem State.withUnalignedMasked_tc (s : State) (v : Bool) : (s.withUnalignedMasked v).tc = s.tc := rfl
@[simp] theorem State.withUnalignedMasked_frames (s : State) (v : Bool) : (s.withUnalignedMasked v).frames = s.frames := rfl
@[simp] theorem State.withUnalignedMasked_tables (s : State) (v : Bool) : (s.withUnalignedMasked v).tables = s.tables := rfl
@[simp] theorem State.withUnalignedMasked_unalignedMasked (s : State) (v : Bool) : (s.withUnalignedMasked v).unalignedMasked = v := rfl
@[simp] theorem State.withUnalignedMasked_config (s : State) (v : Bool) : (s.withUnalignedMasked v).config = s.config := rfl
@[simp] theorem State.withUnalignedMasked_bp (s : State) (v : Bool) : (s.withUnalignedMasked v).bp = s.bp := rfl
@[simp] theorem State.withUnalignedMasked_intr (s : State) (v : Bool) : (s.withUnalignedMasked v).intr = s.intr := rfl
@[simp] theorem State.withUnalignedMasked_timer0 (s : State) (v : Bool) : (s.withUnalignedMasked v).timer0 = s.timer0 := rfl
@[simp] theorem State.withUnalignedMasked_timer1 (s : State) (v : Bool) : (s.withUnalignedMasked v).timer1 = s.timer1 := rfl
@[simp] theorem State.withUnalignedMasked_deviceId (s : State) (v : Bool) : (s.withUnalignedMasked v).deviceId = s.deviceId := rfl
@[simp] theorem State.withUnalignedMasked_cache (s : State) (v : Bool) : (s.withUnalignedMasked v).cache = s.cache := rfl
@[simp] theorem State.withUnalignedMasked_trace (s : State) (v : Bool) : (s.withUnalignedMasked v).trace = s.trace := rfl
@[simp] theorem State.withUnalignedMasked_mem (s : State) (v : Bool) : (s.withUnalignedMasked v).mem = s.mem := rfl
@[simp] theorem State.withUnalignedMasked_plat (s : State) (v : Bool) : (s.withUnalignedMasked v).plat = s.plat := rfl
@[simp] theorem State.withUnalignedMasked_inputs (s : State) (v : Bool) : (s.withUnalignedMasked v).inputs = s.inputs := rfl
@[simp] theorem State.withUnalignedMasked_free (s : State) (v : Bool) : (s.withUnalignedMasked v).free = s.free := rfl
@[simp] theorem State.withConfig_globals (s : State) (v : MemConfig) : (s.withConfig v).globals = s.globals := rfl
@[simp] theorem State.withConfig_locals (s : State) (v : MemConfig) : (s.withConfig v).locals = s.locals := rfl
@[simp] theorem State.withConfig_ip (s : State) (v : MemConfig) : (s.withConfig v).ip = s.ip := rfl
@[simp] theorem State.withConfig_ac (s : State) (v : MemConfig) : (s.withConfig v).ac = s.ac := rfl
@[simp] theorem State.withConfig_pc (s : State) (v : MemConfig) : (s.withConfig v).pc = s.pc := rfl
@[simp] theorem State.withConfig_tc (s : State) (v : MemConfig) : (s.withConfig v).tc = s.tc := rfl
@[simp] theorem State.withConfig_frames (s : State) (v : MemConfig) : (s.withConfig v).frames = s.frames := rfl
@[simp] theorem State.withConfig_tables (s : State) (v : MemConfig) : (s.withConfig v).tables = s.tables := rfl
@[simp] theorem State.withConfig_unalignedMasked (s : State) (v : MemConfig) : (s.withConfig v).unalignedMasked = s.unalignedMasked := rfl
@[simp] theorem State.withConfig_config (s : State) (v : MemConfig) : (s.withConfig v).config = v := rfl
@[simp] theorem State.withConfig_bp (s : State) (v : MemConfig) : (s.withConfig v).bp = s.bp := rfl
@[simp] theorem State.withConfig_intr (s : State) (v : MemConfig) : (s.withConfig v).intr = s.intr := rfl
@[simp] theorem State.withConfig_timer0 (s : State) (v : MemConfig) : (s.withConfig v).timer0 = s.timer0 := rfl
@[simp] theorem State.withConfig_timer1 (s : State) (v : MemConfig) : (s.withConfig v).timer1 = s.timer1 := rfl
@[simp] theorem State.withConfig_deviceId (s : State) (v : MemConfig) : (s.withConfig v).deviceId = s.deviceId := rfl
@[simp] theorem State.withConfig_cache (s : State) (v : MemConfig) : (s.withConfig v).cache = s.cache := rfl
@[simp] theorem State.withConfig_trace (s : State) (v : MemConfig) : (s.withConfig v).trace = s.trace := rfl
@[simp] theorem State.withConfig_mem (s : State) (v : MemConfig) : (s.withConfig v).mem = s.mem := rfl
@[simp] theorem State.withConfig_plat (s : State) (v : MemConfig) : (s.withConfig v).plat = s.plat := rfl
@[simp] theorem State.withConfig_inputs (s : State) (v : MemConfig) : (s.withConfig v).inputs = s.inputs := rfl
@[simp] theorem State.withConfig_free (s : State) (v : MemConfig) : (s.withConfig v).free = s.free := rfl
@[simp] theorem State.withBp_globals (s : State) (v : Breakpoints) : (s.withBp v).globals = s.globals := rfl
@[simp] theorem State.withBp_locals (s : State) (v : Breakpoints) : (s.withBp v).locals = s.locals := rfl
@[simp] theorem State.withBp_ip (s : State) (v : Breakpoints) : (s.withBp v).ip = s.ip := rfl
@[simp] theorem State.withBp_ac (s : State) (v : Breakpoints) : (s.withBp v).ac = s.ac := rfl
@[simp] theorem State.withBp_pc (s : State) (v : Breakpoints) : (s.withBp v).pc = s.pc := rfl
@[simp] theorem State.withBp_tc (s : State) (v : Breakpoints) : (s.withBp v).tc = s.tc := rfl
@[simp] theorem State.withBp_frames (s : State) (v : Breakpoints) : (s.withBp v).frames = s.frames := rfl
@[simp] theorem State.withBp_tables (s : State) (v : Breakpoints) : (s.withBp v).tables = s.tables := rfl
@[simp] theorem State.withBp_unalignedMasked (s : State) (v : Breakpoints) : (s.withBp v).unalignedMasked = s.unalignedMasked := rfl
@[simp] theorem State.withBp_config (s : State) (v : Breakpoints) : (s.withBp v).config = s.config := rfl
@[simp] theorem State.withBp_bp (s : State) (v : Breakpoints) : (s.withBp v).bp = v := rfl
@[simp] theorem State.withBp_intr (s : State) (v : Breakpoints) : (s.withBp v).intr = s.intr := rfl
@[simp] theorem State.withBp_timer0 (s : State) (v : Breakpoints) : (s.withBp v).timer0 = s.timer0 := rfl
@[simp] theorem State.withBp_timer1 (s : State) (v : Breakpoints) : (s.withBp v).timer1 = s.timer1 := rfl
@[simp] theorem State.withBp_deviceId (s : State) (v : Breakpoints) : (s.withBp v).deviceId = s.deviceId := rfl
@[simp] theorem State.withBp_cache (s : State) (v : Breakpoints) : (s.withBp v).cache = s.cache := rfl
@[simp] theorem State.withBp_trace (s : State) (v : Breakpoints) : (s.withBp v).trace = s.trace := rfl
@[simp] theorem State.withBp_mem (s : State) (v : Breakpoints) : (s.withBp v).mem = s.mem := rfl
@[simp] theorem State.withBp_plat (s : State) (v : Breakpoints) : (s.withBp v).plat = s.plat := rfl
@[simp] theorem State.withBp_inputs (s : State) (v : Breakpoints) : (s.withBp v).inputs = s.inputs := rfl
@[simp] theorem State.withBp_free (s : State) (v : Breakpoints) : (s.withBp v).free = s.free := rfl
@[simp] theorem State.withIntr_globals (s : State) (v : Interrupts) : (s.withIntr v).globals = s.globals := rfl
@[simp] theorem State.withIntr_locals (s : State) (v : Interrupts) : (s.withIntr v).locals = s.locals := rfl
@[simp] theorem State.withIntr_ip (s : State) (v : Interrupts) : (s.withIntr v).ip = s.ip := rfl
@[simp] theorem State.withIntr_ac (s : State) (v : Interrupts) : (s.withIntr v).ac = s.ac := rfl
@[simp] theorem State.withIntr_pc (s : State) (v : Interrupts) : (s.withIntr v).pc = s.pc := rfl
@[simp] theorem State.withIntr_tc (s : State) (v : Interrupts) : (s.withIntr v).tc = s.tc := rfl
@[simp] theorem State.withIntr_frames (s : State) (v : Interrupts) : (s.withIntr v).frames = s.frames := rfl
@[simp] theorem State.withIntr_tables (s : State) (v : Interrupts) : (s.withIntr v).tables = s.tables := rfl
@[simp] theorem State.withIntr_unalignedMasked (s : State) (v : Interrupts) : (s.withIntr v).unalignedMasked = s.unalignedMasked := rfl
@[simp] theorem State.withIntr_config (s : State) (v : Interrupts) : (s.withIntr v).config = s.config := rfl
@[simp] theorem State.withIntr_bp (s : State) (v : Interrupts) : (s.withIntr v).bp = s.bp := rfl
@[simp] theorem State.withIntr_intr (s : State) (v : Interrupts) : (s.withIntr v).intr = v := rfl
@[simp] theorem State.withIntr_timer0 (s : State) (v : Interrupts) : (s.withIntr v).timer0 = s.timer0 := rfl
@[simp] theorem State.withIntr_timer1 (s : State) (v : Interrupts) : (s.withIntr v).timer1 = s.timer1 := rfl
@[simp] theorem State.withIntr_deviceId (s : State) (v : Interrupts) : (s.withIntr v).deviceId = s.deviceId := rfl
@[simp] theorem State.withIntr_cache (s : State) (v : Interrupts) : (s.withIntr v).cache = s.cache := rfl
@[simp] theorem State.withIntr_trace (s : State) (v : Interrupts) : (s.withIntr v).trace = s.trace := rfl
@[simp] theorem State.withIntr_mem (s : State) (v : Interrupts) : (s.withIntr v).mem = s.mem := rfl
@[simp] theorem State.withIntr_plat (s : State) (v : Interrupts) : (s.withIntr v).plat = s.plat := rfl
@[simp] theorem State.withIntr_inputs (s : State) (v : Interrupts) : (s.withIntr v).inputs = s.inputs := rfl
@[simp] theorem State.withIntr_free (s : State) (v : Interrupts) : (s.withIntr v).free = s.free := rfl
@[simp] theorem State.withTimer0_globals (s : State) (v : Timer) : (s.withTimer0 v).globals = s.globals := rfl
@[simp] theorem State.withTimer0_locals (s : State) (v : Timer) : (s.withTimer0 v).locals = s.locals := rfl
@[simp] theorem State.withTimer0_ip (s : State) (v : Timer) : (s.withTimer0 v).ip = s.ip := rfl
@[simp] theorem State.withTimer0_ac (s : State) (v : Timer) : (s.withTimer0 v).ac = s.ac := rfl
@[simp] theorem State.withTimer0_pc (s : State) (v : Timer) : (s.withTimer0 v).pc = s.pc := rfl
@[simp] theorem State.withTimer0_tc (s : State) (v : Timer) : (s.withTimer0 v).tc = s.tc := rfl
@[simp] theorem State.withTimer0_frames (s : State) (v : Timer) : (s.withTimer0 v).frames = s.frames := rfl
@[simp] theorem State.withTimer0_tables (s : State) (v : Timer) : (s.withTimer0 v).tables = s.tables := rfl
@[simp] theorem State.withTimer0_unalignedMasked (s : State) (v : Timer) : (s.withTimer0 v).unalignedMasked = s.unalignedMasked := rfl
@[simp] theorem State.withTimer0_config (s : State) (v : Timer) : (s.withTimer0 v).config = s.config := rfl
@[simp] theorem State.withTimer0_bp (s : State) (v : Timer) : (s.withTimer0 v).bp = s.bp := rfl
@[simp] theorem State.withTimer0_intr (s : State) (v : Timer) : (s.withTimer0 v).intr = s.intr := rfl
@[simp] theorem State.withTimer0_timer0 (s : State) (v : Timer) : (s.withTimer0 v).timer0 = v := rfl
@[simp] theorem State.withTimer0_timer1 (s : State) (v : Timer) : (s.withTimer0 v).timer1 = s.timer1 := rfl
@[simp] theorem State.withTimer0_deviceId (s : State) (v : Timer) : (s.withTimer0 v).deviceId = s.deviceId := rfl
@[simp] theorem State.withTimer0_cache (s : State) (v : Timer) : (s.withTimer0 v).cache = s.cache := rfl
@[simp] theorem State.withTimer0_trace (s : State) (v : Timer) : (s.withTimer0 v).trace = s.trace := rfl
@[simp] theorem State.withTimer0_mem (s : State) (v : Timer) : (s.withTimer0 v).mem = s.mem := rfl
@[simp] theorem State.withTimer0_plat (s : State) (v : Timer) : (s.withTimer0 v).plat = s.plat := rfl
@[simp] theorem State.withTimer0_inputs (s : State) (v : Timer) : (s.withTimer0 v).inputs = s.inputs := rfl
@[simp] theorem State.withTimer0_free (s : State) (v : Timer) : (s.withTimer0 v).free = s.free := rfl
@[simp] theorem State.withTimer1_globals (s : State) (v : Timer) : (s.withTimer1 v).globals = s.globals := rfl
@[simp] theorem State.withTimer1_locals (s : State) (v : Timer) : (s.withTimer1 v).locals = s.locals := rfl
@[simp] theorem State.withTimer1_ip (s : State) (v : Timer) : (s.withTimer1 v).ip = s.ip := rfl
@[simp] theorem State.withTimer1_ac (s : State) (v : Timer) : (s.withTimer1 v).ac = s.ac := rfl
@[simp] theorem State.withTimer1_pc (s : State) (v : Timer) : (s.withTimer1 v).pc = s.pc := rfl
@[simp] theorem State.withTimer1_tc (s : State) (v : Timer) : (s.withTimer1 v).tc = s.tc := rfl
@[simp] theorem State.withTimer1_frames (s : State) (v : Timer) : (s.withTimer1 v).frames = s.frames := rfl
@[simp] theorem State.withTimer1_tables (s : State) (v : Timer) : (s.withTimer1 v).tables = s.tables := rfl
@[simp] theorem State.withTimer1_unalignedMasked (s : State) (v : Timer) : (s.withTimer1 v).unalignedMasked = s.unalignedMasked := rfl
@[simp] theorem State.withTimer1_config (s : State) (v : Timer) : (s.withTimer1 v).config = s.config := rfl
@[simp] theorem State.withTimer1_bp (s : State) (v : Timer) : (s.withTimer1 v).bp = s.bp := rfl
@[simp] theorem State.withTimer1_intr (s : State) (v : Timer) : (s.withTimer1 v).intr = s.intr := rfl
@[simp] theorem State.withTimer1_timer0 (s : State) (v : Timer) : (s.withTimer1 v).timer0 = s.timer0 := rfl
@[simp] theorem State.withTimer1_timer1 (s : State) (v : Timer) : (s.withTimer1 v).timer1 = v := rfl
@[simp] theorem State.withTimer1_deviceId (s : State) (v : Timer) : (s.withTimer1 v).deviceId = s.deviceId := rfl
@[simp] theorem State.withTimer1_cache (s : State) (v : Timer) : (s.withTimer1 v).cache = s.cache := rfl
@[simp] theorem State.withTimer1_trace (s : State) (v : Timer) : (s.withTimer1 v).trace = s.trace := rfl
@[simp] theorem State.withTimer1_mem (s : State) (v : Timer) : (s.withTimer1 v).mem = s.mem := rfl
@[simp] theorem State.withTimer1_plat (s : State) (v : Timer) : (s.withTimer1 v).plat = s.plat := rfl
@[simp] theorem State.withTimer1_inputs (s : State) (v : Timer) : (s.withTimer1 v).inputs = s.inputs := rfl
@[simp] theorem State.withTimer1_free (s : State) (v : Timer) : (s.withTimer1 v).free = s.free := rfl
@[simp] theorem State.withDeviceId_globals (s : State) (v : Word) : (s.withDeviceId v).globals = s.globals := rfl
@[simp] theorem State.withDeviceId_locals (s : State) (v : Word) : (s.withDeviceId v).locals = s.locals := rfl
@[simp] theorem State.withDeviceId_ip (s : State) (v : Word) : (s.withDeviceId v).ip = s.ip := rfl
@[simp] theorem State.withDeviceId_ac (s : State) (v : Word) : (s.withDeviceId v).ac = s.ac := rfl
@[simp] theorem State.withDeviceId_pc (s : State) (v : Word) : (s.withDeviceId v).pc = s.pc := rfl
@[simp] theorem State.withDeviceId_tc (s : State) (v : Word) : (s.withDeviceId v).tc = s.tc := rfl
@[simp] theorem State.withDeviceId_frames (s : State) (v : Word) : (s.withDeviceId v).frames = s.frames := rfl
@[simp] theorem State.withDeviceId_tables (s : State) (v : Word) : (s.withDeviceId v).tables = s.tables := rfl
@[simp] theorem State.withDeviceId_unalignedMasked (s : State) (v : Word) : (s.withDeviceId v).unalignedMasked = s.unalignedMasked := rfl
@[simp] theorem State.withDeviceId_config (s : State) (v : Word) : (s.withDeviceId v).config = s.config := rfl
@[simp] theorem State.withDeviceId_bp (s : State) (v : Word) : (s.withDeviceId v).bp = s.bp := rfl
@[simp] theorem State.withDeviceId_intr (s : State) (v : Word) : (s.withDeviceId v).intr = s.intr := rfl
@[simp] theorem State.withDeviceId_timer0 (s : State) (v : Word) : (s.withDeviceId v).timer0 = s.timer0 := rfl
@[simp] theorem State.withDeviceId_timer1 (s : State) (v : Word) : (s.withDeviceId v).timer1 = s.timer1 := rfl
@[simp] theorem State.withDeviceId_deviceId (s : State) (v : Word) : (s.withDeviceId v).deviceId = v := rfl
@[simp] theorem State.withDeviceId_cache (s : State) (v : Word) : (s.withDeviceId v).cache = s.cache := rfl
@[simp] theorem State.withDeviceId_trace (s : State) (v : Word) : (s.withDeviceId v).trace = s.trace := rfl
@[simp] theorem State.withDeviceId_mem (s : State) (v : Word) : (s.withDeviceId v).mem = s.mem := rfl
@[simp] theorem State.withDeviceId_plat (s : State) (v : Word) : (s.withDeviceId v).plat = s.plat := rfl
@[simp] theorem State.withDeviceId_inputs (s : State) (v : Word) : (s.withDeviceId v).inputs = s.inputs := rfl
@[simp] theorem State.withDeviceId_free (s : State) (v : Word) : (s.withDeviceId v).free = s.free := rfl
@[simp] theorem State.withCache_globals (s : State) (v : Caches) : (s.withCache v).globals = s.globals := rfl
@[simp] theorem State.withCache_locals (s : State) (v : Caches) : (s.withCache v).locals = s.locals := rfl
@[simp] theorem State.withCache_ip (s : State) (v : Caches) : (s.withCache v).ip = s.ip := rfl
@[simp] theorem State.withCache_ac (s : State) (v : Caches) : (s.withCache v).ac = s.ac := rfl
@[simp] theorem State.withCache_pc (s : State) (v : Caches) : (s.withCache v).pc = s.pc := rfl
@[simp] theorem State.withCache_tc (s : State) (v : Caches) : (s.withCache v).tc = s.tc := rfl
@[simp] theorem State.withCache_frames (s : State) (v : Caches) : (s.withCache v).frames = s.frames := rfl
@[simp] theorem State.withCache_tables (s : State) (v : Caches) : (s.withCache v).tables = s.tables := rfl
@[simp] theorem State.withCache_unalignedMasked (s : State) (v : Caches) : (s.withCache v).unalignedMasked = s.unalignedMasked := rfl
@[simp] theorem State.withCache_config (s : State) (v : Caches) : (s.withCache v).config = s.config := rfl
@[simp] theorem State.withCache_bp (s : State) (v : Caches) : (s.withCache v).bp = s.bp := rfl
@[simp] theorem State.withCache_intr (s : State) (v : Caches) : (s.withCache v).intr = s.intr := rfl
@[simp] theorem State.withCache_timer0 (s : State) (v : Caches) : (s.withCache v).timer0 = s.timer0 := rfl
@[simp] theorem State.withCache_timer1 (s : State) (v : Caches) : (s.withCache v).timer1 = s.timer1 := rfl
@[simp] theorem State.withCache_deviceId (s : State) (v : Caches) : (s.withCache v).deviceId = s.deviceId := rfl
@[simp] theorem State.withCache_cache (s : State) (v : Caches) : (s.withCache v).cache = v := rfl
@[simp] theorem State.withCache_trace (s : State) (v : Caches) : (s.withCache v).trace = s.trace := rfl
@[simp] theorem State.withCache_mem (s : State) (v : Caches) : (s.withCache v).mem = s.mem := rfl
@[simp] theorem State.withCache_plat (s : State) (v : Caches) : (s.withCache v).plat = s.plat := rfl
@[simp] theorem State.withCache_inputs (s : State) (v : Caches) : (s.withCache v).inputs = s.inputs := rfl
@[simp] theorem State.withCache_free (s : State) (v : Caches) : (s.withCache v).free = s.free := rfl
@[simp] theorem State.withTrace_globals (s : State) (v : TraceDelay) : (s.withTrace v).globals = s.globals := rfl
@[simp] theorem State.withTrace_locals (s : State) (v : TraceDelay) : (s.withTrace v).locals = s.locals := rfl
@[simp] theorem State.withTrace_ip (s : State) (v : TraceDelay) : (s.withTrace v).ip = s.ip := rfl
@[simp] theorem State.withTrace_ac (s : State) (v : TraceDelay) : (s.withTrace v).ac = s.ac := rfl
@[simp] theorem State.withTrace_pc (s : State) (v : TraceDelay) : (s.withTrace v).pc = s.pc := rfl
@[simp] theorem State.withTrace_tc (s : State) (v : TraceDelay) : (s.withTrace v).tc = s.tc := rfl
@[simp] theorem State.withTrace_frames (s : State) (v : TraceDelay) : (s.withTrace v).frames = s.frames := rfl
@[simp] theorem State.withTrace_tables (s : State) (v : TraceDelay) : (s.withTrace v).tables = s.tables := rfl
@[simp] theorem State.withTrace_unalignedMasked (s : State) (v : TraceDelay) : (s.withTrace v).unalignedMasked = s.unalignedMasked := rfl
@[simp] theorem State.withTrace_config (s : State) (v : TraceDelay) : (s.withTrace v).config = s.config := rfl
@[simp] theorem State.withTrace_bp (s : State) (v : TraceDelay) : (s.withTrace v).bp = s.bp := rfl
@[simp] theorem State.withTrace_intr (s : State) (v : TraceDelay) : (s.withTrace v).intr = s.intr := rfl
@[simp] theorem State.withTrace_timer0 (s : State) (v : TraceDelay) : (s.withTrace v).timer0 = s.timer0 := rfl
@[simp] theorem State.withTrace_timer1 (s : State) (v : TraceDelay) : (s.withTrace v).timer1 = s.timer1 := rfl
@[simp] theorem State.withTrace_deviceId (s : State) (v : TraceDelay) : (s.withTrace v).deviceId = s.deviceId := rfl
@[simp] theorem State.withTrace_cache (s : State) (v : TraceDelay) : (s.withTrace v).cache = s.cache := rfl
@[simp] theorem State.withTrace_trace (s : State) (v : TraceDelay) : (s.withTrace v).trace = v := rfl
@[simp] theorem State.withTrace_mem (s : State) (v : TraceDelay) : (s.withTrace v).mem = s.mem := rfl
@[simp] theorem State.withTrace_plat (s : State) (v : TraceDelay) : (s.withTrace v).plat = s.plat := rfl
@[simp] theorem State.withTrace_inputs (s : State) (v : TraceDelay) : (s.withTrace v).inputs = s.inputs := rfl
@[simp] theorem State.withTrace_free (s : State) (v : TraceDelay) : (s.withTrace v).free = s.free := rfl
@[simp] theorem State.withMem_globals (s : State) (v : Memory) : (s.withMem v).globals = s.globals := rfl
@[simp] theorem State.withMem_locals (s : State) (v : Memory) : (s.withMem v).locals = s.locals := rfl
@[simp] theorem State.withMem_ip (s : State) (v : Memory) : (s.withMem v).ip = s.ip := rfl
@[simp] theorem State.withMem_ac (s : State) (v : Memory) : (s.withMem v).ac = s.ac := rfl
@[simp] theorem State.withMem_pc (s : State) (v : Memory) : (s.withMem v).pc = s.pc := rfl
@[simp] theorem State.withMem_tc (s : State) (v : Memory) : (s.withMem v).tc = s.tc := rfl
@[simp] theorem State.withMem_frames (s : State) (v : Memory) : (s.withMem v).frames = s.frames := rfl
@[simp] theorem State.withMem_tables (s : State) (v : Memory) : (s.withMem v).tables = s.tables := rfl
@[simp] theorem State.withMem_unalignedMasked (s : State) (v : Memory) : (s.withMem v).unalignedMasked = s.unalignedMasked := rfl
@[simp] theorem State.withMem_config (s : State) (v : Memory) : (s.withMem v).config = s.config := rfl
@[simp] theorem State.withMem_bp (s : State) (v : Memory) : (s.withMem v).bp = s.bp := rfl
@[simp] theorem State.withMem_intr (s : State) (v : Memory) : (s.withMem v).intr = s.intr := rfl
@[simp] theorem State.withMem_timer0 (s : State) (v : Memory) : (s.withMem v).timer0 = s.timer0 := rfl
@[simp] theorem State.withMem_timer1 (s : State) (v : Memory) : (s.withMem v).timer1 = s.timer1 := rfl
@[simp] theorem State.withMem_deviceId (s : State) (v : Memory) : (s.withMem v).deviceId = s.deviceId := rfl
@[simp] theorem State.withMem_cache (s : State) (v : Memory) : (s.withMem v).cache = s.cache := rfl
@[simp] theorem State.withMem_trace (s : State) (v : Memory) : (s.withMem v).trace = s.trace := rfl
@[simp] theorem State.withMem_mem (s : State) (v : Memory) : (s.withMem v).mem = v := rfl
@[simp] theorem State.withMem_plat (s : State) (v : Memory) : (s.withMem v).plat = s.plat := rfl
@[simp] theorem State.withMem_inputs (s : State) (v : Memory) : (s.withMem v).inputs = s.inputs := rfl
@[simp] theorem State.withMem_free (s : State) (v : Memory) : (s.withMem v).free = s.free := rfl
@[simp] theorem State.withPlat_globals (s : State) (v : Platform) : (s.withPlat v).globals = s.globals := rfl
@[simp] theorem State.withPlat_locals (s : State) (v : Platform) : (s.withPlat v).locals = s.locals := rfl
@[simp] theorem State.withPlat_ip (s : State) (v : Platform) : (s.withPlat v).ip = s.ip := rfl
@[simp] theorem State.withPlat_ac (s : State) (v : Platform) : (s.withPlat v).ac = s.ac := rfl
@[simp] theorem State.withPlat_pc (s : State) (v : Platform) : (s.withPlat v).pc = s.pc := rfl
@[simp] theorem State.withPlat_tc (s : State) (v : Platform) : (s.withPlat v).tc = s.tc := rfl
@[simp] theorem State.withPlat_frames (s : State) (v : Platform) : (s.withPlat v).frames = s.frames := rfl
@[simp] theorem State.withPlat_tables (s : State) (v : Platform) : (s.withPlat v).tables = s.tables := rfl
@[simp] theorem State.withPlat_unalignedMasked (s : State) (v : Platform) : (s.withPlat v).unalignedMasked = s.unalignedMasked := rfl
@[simp] theorem State.withPlat_config (s : State) (v : Platform) : (s.withPlat v).config = s.config := rfl
@[simp] theorem State.withPlat_bp (s : State) (v : Platform) : (s.withPlat v).bp = s.bp := rfl
@[simp] theorem State.withPlat_intr (s : State) (v : Platform) : (s.withPlat v).intr = s.intr := rfl
@[simp] theorem State.withPlat_timer0 (s : State) (v : Platform) : (s.withPlat v).timer0 = s.timer0 := rfl
@[simp] theorem State.withPlat_timer1 (s : State) (v : Platform) : (s.withPlat v).timer1 = s.timer1 := rfl
@[simp] theorem State.withPlat_deviceId (s : State) (v : Platform) : (s.withPlat v).deviceId = s.deviceId := rfl
@[simp] theorem State.withPlat_cache (s : State) (v : Platform) : (s.withPlat v).cache = s.cache := rfl
@[simp] theorem State.withPlat_trace (s : State) (v : Platform) : (s.withPlat v).trace = s.trace := rfl
@[simp] theorem State.withPlat_mem (s : State) (v : Platform) : (s.withPlat v).mem = s.mem := rfl
@[simp] theorem State.withPlat_plat (s : State) (v : Platform) : (s.withPlat v).plat = v := rfl
@[simp] theorem State.withPlat_inputs (s : State) (v : Platform) : (s.withPlat v).inputs = s.inputs := rfl
@[simp] theorem State.withPlat_free (s : State) (v : Platform) : (s.withPlat v).free = s.free := rfl
@[simp] theorem State.withInputs_globals (s : State) (v : List (List Event)) : (s.withInputs v).globals = s.globals := rfl
@[simp] theorem State.withInputs_locals (s : State) (v : List (List Event)) : (s.withInputs v).locals = s.locals := rfl
@[simp] theorem State.withInputs_ip (s : State) (v : List (List Event)) : (s.withInputs v).ip = s.ip := rfl
@[simp] theorem State.withInputs_ac (s : State) (v : List (List Event)) : (s.withInputs v).ac = s.ac := rfl
@[simp] theorem State.withInputs_pc (s : State) (v : List (List Event)) : (s.withInputs v).pc = s.pc := rfl
@[simp] theorem State.withInputs_tc (s : State) (v : List (List Event)) : (s.withInputs v).tc = s.tc := rfl
@[simp] theorem State.withInputs_frames (s : State) (v : List (List Event)) : (s.withInputs v).frames = s.frames := rfl
@[simp] theorem State.withInputs_tables (s : State) (v : List (List Event)) : (s.withInputs v).tables = s.tables := rfl
@[simp] theorem State.withInputs_unalignedMasked (s : State) (v : List (List Event)) : (s.withInputs v).unalignedMasked = s.unalignedMasked := rfl
@[simp] theorem State.withInputs_config (s : State) (v : List (List Event)) : (s.withInputs v).config = s.config := rfl
@[simp] theorem State.withInputs_bp (s : State) (v : List (List Event)) : (s.withInputs v).bp = s.bp := rfl
@[simp] theorem State.withInputs_intr (s : State) (v : List (List Event)) : (s.withInputs v).intr = s.intr := rfl
@[simp] theorem State.withInputs_timer0 (s : State) (v : List (List Event)) : (s.withInputs v).timer0 = s.timer0 := rfl
@[simp] theorem State.withInputs_timer1 (s : State) (v : List (List Event)) : (s.withInputs v).timer1 = s.timer1 := rfl
@[simp] theorem State.withInputs_deviceId (s : State) (v : List (List Event)) : (s.withInputs v).deviceId = s.deviceId := rfl
@[simp] theorem State.withInputs_cache (s : State) (v : List (List Event)) : (s.withInputs v).cache = s.cache := rfl
@[simp] theorem State.withInputs_trace (s : State) (v : List (List Event)) : (s.withInputs v).trace = s.trace := rfl
@[simp] theorem State.withInputs_mem (s : State) (v : List (List Event)) : (s.withInputs v).mem = s.mem := rfl
@[simp] theorem State.withInputs_plat (s : State) (v : List (List Event)) : (s.withInputs v).plat = s.plat := rfl
@[simp] theorem State.withInputs_inputs (s : State) (v : List (List Event)) : (s.withInputs v).inputs = v := rfl
@[simp] theorem State.withInputs_free (s : State) (v : List (List Event)) : (s.withInputs v).free = s.free := rfl
@[simp] theorem State.withFree_globals (s : State) (v : Nat) : (s.withFree v).globals = s.globals := rfl
@[simp] theorem State.withFree_locals (s : State) (v : Nat) : (s.withFree v).locals = s.locals := rfl
@[simp] theorem State.withFree_ip (s : State) (v : Nat) : (s.withFree v).ip = s.ip := rfl
@[simp] theorem State.withFree_ac (s : State) (v : Nat) : (s.withFree v).ac = s.ac := rfl
@[simp] theorem State.withFree_pc (s : State) (v : Nat) : (s.withFree v).pc = s.pc := rfl
@[simp] theorem State.withFree_tc (s : State) (v : Nat) : (s.withFree v).tc = s.tc := rfl
@[simp] theorem State.withFree_frames (s : State) (v : Nat) : (s.withFree v).frames = s.frames := rfl
@[simp] theorem State.withFree_tables (s : State) (v : Nat) : (s.withFree v).tables = s.tables := rfl
@[simp] theorem State.withFree_unalignedMasked (s : State) (v : Nat) : (s.withFree v).unalignedMasked = s.unalignedMasked := rfl
@[simp] theorem State.withFree_config (s : State) (v : Nat) : (s.withFree v).config = s.config := rfl
@[simp] theorem State.withFree_bp (s : State) (v : Nat) : (s.withFree v).bp = s.bp := rfl
@[simp] theorem State.withFree_intr (s : State) (v : Nat) : (s.withFree v).intr = s.intr := rfl
@[simp] theorem State.withFree_timer0 (s : State) (v : Nat) : (s.withFree v).timer0 = s.timer0 := rfl
@[simp] theorem State.withFree_timer1 (s : State) (v : Nat) : (s.withFree v).timer1 = s.timer1 := rfl
@[simp] theorem State.withFree_deviceId (s : State) (v : Nat) : (s.withFree v).deviceId = s.deviceId := rfl
@[simp] theorem State.withFree_cache (s : State) (v : Nat) : (s.withFree v).cache = s.cache := rfl
@[simp] theorem State.withFree_trace (s : State) (v : Nat) : (s.withFree v).trace = s.trace := rfl
@[simp] theorem State.withFree_mem (s : State) (v : Nat) : (s.withFree v).mem = s.mem := rfl
@[simp] theorem State.withFree_plat (s : State) (v : Nat) : (s.withFree v).plat = s.plat := rfl
@[simp] theorem State.withFree_inputs (s : State) (v : Nat) : (s.withFree v).inputs = s.inputs := rfl
@[simp] theorem State.withFree_free (s : State) (v : Nat) : (s.withFree v).free = v := rfl

@[simp] theorem Slot.get_val (w : Word) : (Slot.val w).get = w := rfl

end Sys2Proof.Machine
end

