-- ==== Sys2Proof/Laws/Memory.lean ====
section
/-! SUPPORT. Memory: what a read sees after a write, and that every write keeps the canonical form. -/

namespace Sys2Proof.Machine

/-! Sorted lists. -/

theorem tableGet_tableSet {α : Type} (t : List (Nat × α)) (a b : Nat) (v : α) :
    tableGet (tableSet t a v) b = if a = b then some v else tableGet t b := by
  induction t with
  | nil => simp [tableSet, tableGet]
  | cons c rest ih =>
    obtain ⟨k, w⟩ := c
    simp only [tableSet]
    split
    · simp [tableGet]
    · split
      · rename_i h; subst h; simp only [tableGet]; split <;> rfl
      · rename_i h
        simp only [tableGet, ih]
        by_cases hk : k = b
        · have : a ≠ b := fun e => h (e.trans hk.symm)
          simp [hk, this]
        · simp [hk]

theorem tableGet_tableErase_ne {α : Type} (t : List (Nat × α)) (a b : Nat) (h : a ≠ b) :
    tableGet (tableErase t a) b = tableGet t b := by
  induction t with
  | nil => rfl
  | cons c rest ih =>
    obtain ⟨k, w⟩ := c
    simp only [tableErase]
    split
    · rename_i hk; subst hk; simp [tableGet, h]
    · simp [tableGet, ih]

theorem tableAbove_mono {α : Type} (t : List (Nat × α)) (lo hi : Nat) (h : lo ≤ hi) (ht : tableAbove hi t = true) :
    tableAbove lo t = true := by
  cases t with
  | nil => rfl
  | cons c rest =>
    obtain ⟨k, w⟩ := c
    simp only [tableAbove, Bool.and_eq_true, decide_eq_true_eq] at ht ⊢
    exact ⟨by omega, ht.2⟩

theorem tableGet_above {α : Type} (t : List (Nat × α)) (lo a : Nat) (ht : tableAbove lo t = true) (h : a ≤ lo) :
    tableGet t a = none := by
  induction t generalizing lo with
  | nil => rfl
  | cons c rest ih =>
    obtain ⟨k, w⟩ := c
    simp only [tableAbove, Bool.and_eq_true, decide_eq_true_eq] at ht
    have : k ≠ a := by omega
    simp only [tableGet, this, if_false]
    exact ih k ht.2 (by omega)

theorem tableSorted_of_above {α : Type} (t : List (Nat × α)) (lo : Nat) (ht : tableAbove lo t = true) :
    tableSorted t = true := by
  cases t with
  | nil => rfl
  | cons c rest =>
    obtain ⟨k, w⟩ := c
    simp only [tableAbove, Bool.and_eq_true] at ht
    exact ht.2

theorem tableAbove_tableSet {α : Type} (t : List (Nat × α)) (lo a : Nat) (v : α) (ht : tableAbove lo t = true)
    (h : lo < a) : tableAbove lo (tableSet t a v) = true := by
  induction t generalizing lo with
  | nil => simp [tableSet, tableAbove, h]
  | cons c rest ih =>
    obtain ⟨k, w⟩ := c
    simp only [tableAbove, Bool.and_eq_true, decide_eq_true_eq] at ht
    simp only [tableSet]
    split
    · simp only [tableAbove, Bool.and_eq_true, decide_eq_true_eq]; exact ⟨h, ‹_›, ht.2⟩
    · split
      · rename_i he; subst he; simp only [tableAbove, Bool.and_eq_true, decide_eq_true_eq]; exact ht
      · simp only [tableAbove, Bool.and_eq_true, decide_eq_true_eq]
        exact ⟨ht.1, ih k ht.2 (by omega)⟩

theorem tableSorted_tableSet {α : Type} (t : List (Nat × α)) (a : Nat) (v : α) (ht : tableSorted t = true) :
    tableSorted (tableSet t a v) = true := by
  cases t with
  | nil => rfl
  | cons c rest =>
    obtain ⟨k, w⟩ := c
    simp only [tableSorted] at ht
    simp only [tableSet]
    split
    · simp only [tableSorted, tableAbove, Bool.and_eq_true, decide_eq_true_eq]; exact ⟨‹_›, ht⟩
    · split
      · rename_i he; subst he; exact ht
      · exact tableAbove_tableSet rest k a v ht (by omega)

theorem tableAbove_tableErase {α : Type} (t : List (Nat × α)) (lo a : Nat) (ht : tableAbove lo t = true) :
    tableAbove lo (tableErase t a) = true := by
  induction t generalizing lo with
  | nil => rfl
  | cons c rest ih =>
    obtain ⟨k, w⟩ := c
    simp only [tableAbove, Bool.and_eq_true, decide_eq_true_eq] at ht
    simp only [tableErase]
    split
    · exact tableAbove_mono rest lo k (by omega) ht.2
    · simp only [tableAbove, Bool.and_eq_true, decide_eq_true_eq]
      exact ⟨ht.1, ih k ht.2⟩

theorem tableSorted_tableErase {α : Type} (t : List (Nat × α)) (a : Nat) (ht : tableSorted t = true) :
    tableSorted (tableErase t a) = true := by
  cases t with
  | nil => rfl
  | cons c rest =>
    obtain ⟨k, w⟩ := c
    simp only [tableSorted] at ht
    simp only [tableErase]
    split
    · exact tableSorted_of_above rest k ht
    · exact tableAbove_tableErase rest k a ht

theorem tableGet_tableErase_self {α : Type} (t : List (Nat × α)) (a : Nat) (ht : tableSorted t = true) :
    tableGet (tableErase t a) a = none := by
  induction t with
  | nil => rfl
  | cons c rest ih =>
    obtain ⟨k, w⟩ := c
    simp only [tableSorted] at ht
    simp only [tableErase]
    split
    · rename_i hk; subst hk; exact tableGet_above rest k k ht (by omega)
    · rename_i hk
      simp only [tableGet, hk, if_false]
      exact ih (tableSorted_of_above rest k ht)

theorem tableGet_mem {α : Type} (t : List (Nat × α)) (a : Nat) (v : α) (h : tableGet t a = some v) : (a, v) ∈ t := by
  induction t with
  | nil => simp [tableGet] at h
  | cons c rest ih =>
    obtain ⟨k, w⟩ := c
    simp only [tableGet] at h
    split at h
    · rename_i hk; subst hk; cases h; simp
    · exact List.mem_cons_of_mem _ (ih h)

theorem lt_of_mem_above {α : Type} (t : List (Nat × α)) (lo : Nat) (ht : tableAbove lo t = true) (c : Nat × α)
    (h : c ∈ t) : lo < c.1 := by
  induction t generalizing lo with
  | nil => simp at h
  | cons d rest ih =>
    obtain ⟨k, w⟩ := d
    simp only [tableAbove, Bool.and_eq_true, decide_eq_true_eq] at ht
    rcases List.mem_cons.1 h with h | h
    · subst h; exact ht.1
    · have := ih k ht.2 h; omega

theorem tableGet_of_mem {α : Type} (t : List (Nat × α)) (ht : tableSorted t = true) (c : Nat × α) (h : c ∈ t) :
    tableGet t c.1 = some c.2 := by
  induction t with
  | nil => simp at h
  | cons d rest ih =>
    obtain ⟨k, w⟩ := d
    simp only [tableSorted] at ht
    rcases List.mem_cons.1 h with h | h
    · subst h; simp [tableGet]
    · have := lt_of_mem_above rest k ht c h
      have hk : k ≠ c.1 := by omega
      simp only [tableGet, hk, if_false]
      exact ih (tableSorted_of_above rest k ht) h

/-! The canonical form. -/

/-- The canonical form by what is listed at each address. -/
theorem Memory.wf_iff (m : Memory) :
    m.wf = true ↔ tableSorted m.cells = true ∧ tableSorted m.freeBytes = true ∧
      (∀ a b, tableGet m.cells a = some b → b ≠ 0) ∧
      (∀ a f, tableGet m.freeBytes a = some f → tableGet m.cells a = none) := by
  simp only [Memory.wf, Bool.and_eq_true, List.all_eq_true, bne_iff_ne, Option.isNone_iff_eq_none, and_assoc]
  constructor
  · rintro ⟨h1, h2, h3, h4⟩
    exact ⟨h1, h2, fun a b h => h3 (a, b) (tableGet_mem _ _ _ h), fun a f h => h4 (a, f) (tableGet_mem _ _ _ h)⟩
  · rintro ⟨h1, h2, h3, h4⟩
    exact ⟨h1, h2, fun c h => h3 c.1 c.2 (tableGet_of_mem _ h1 c h), fun c h => h4 c.1 c.2 (tableGet_of_mem _ h2 c h)⟩

/-- Every write of a byte keeps the canonical form. -/
theorem Memory.wf_put (m : Memory) (a : Nat) (v : MByte) (h : m.wf = true) : (m.put a v).wf = true := by
  rw [Memory.wf_iff] at h ⊢
  obtain ⟨h1, h2, h3, h4⟩ := h
  have get_erase : ∀ {α : Type} (t : List (Nat × α)) (b : Nat), tableSorted t = true →
      tableGet (tableErase t a) b = if a = b then none else tableGet t b := by
    intro α t b ht
    split
    · rename_i e; subst e; exact tableGet_tableErase_self t a ht
    · exact tableGet_tableErase_ne t a b ‹_›
  cases v with
  | val b =>
    simp only [Memory.put]
    refine ⟨?_, tableSorted_tableErase _ _ h2, ?_, ?_⟩
    · split
      · exact tableSorted_tableErase _ _ h1
      · exact tableSorted_tableSet _ _ _ h1
    · intro c d hc
      split at hc
      · rw [get_erase _ _ h1] at hc
        split at hc
        · cases hc
        · exact h3 c d hc
      · rw [tableGet_tableSet] at hc
        split at hc
        · cases hc; assumption
        · exact h3 c d hc
    · intro c f hc
      rw [get_erase _ _ h2] at hc
      split at hc
      · cases hc
      · have := h4 c f hc
        split
        · rw [get_erase _ _ h1]; simp [this]
        · rw [tableGet_tableSet]; simp [this, ‹¬ a = c›]
  | free g =>
    simp only [Memory.put]
    refine ⟨tableSorted_tableErase _ _ h1, tableSorted_tableSet _ _ _ h2, ?_, ?_⟩
    · intro c d hc
      rw [get_erase _ _ h1] at hc
      split at hc
      · cases hc
      · exact h3 c d hc
    · intro c f hc
      rw [get_erase _ _ h1]
      rw [tableGet_tableSet] at hc
      split
      · rfl
      · simp only [‹¬ a = c›, if_false] at hc; exact h4 c f hc

/-- A write leaves every other byte alone. -/
theorem Memory.read_put_ne (m : Memory) (a b : Nat) (v : MByte) (h : a ≠ b) : (m.put a v).read b = m.read b := by
  cases v with
  | val x =>
    simp only [Memory.put, Memory.read, tableGet_tableErase_ne _ _ _ h]
    split
    · rfl
    · split
      · rw [tableGet_tableErase_ne _ _ _ h]
      · rw [tableGet_tableSet, if_neg h]
  | free f => simp only [Memory.put, Memory.read, tableGet_tableSet, if_neg h, tableGet_tableErase_ne _ _ _ h]

/-- A read after a write of the same byte gives the value written. -/
theorem Memory.read_put_self (m : Memory) (a : Nat) (v : MByte) (h : m.wf = true) : (m.put a v).read a = v.get := by
  rw [Memory.wf_iff] at h
  cases v with
  | val x =>
    simp only [Memory.put, Memory.read, tableGet_tableErase_self _ _ h.2.1, MByte.get]
    split
    · rw [tableGet_tableErase_self _ _ h.1]; simp [*]
    · rw [tableGet_tableSet]; simp
  | free f => simp [Memory.put, Memory.read, tableGet_tableSet, MByte.get]

/-! Writes of the machine. -/

/-- Whether a write by the processor reaches memory: internal RAM, or external RAM (92_eei_decisions D13). -/
def State.stores (s : State) (a : Word) : Prop := regionOf a ≠ .mmr ∧ s.kindAt a = .ram

/-- All that `poke8` can do: it changes memory at one byte and the staleness markers. -/
theorem State.poke8_eq (s : State) (a : Word) (v : MByte) :
    ∃ m c, s.poke8 a v = (s.withMem m).withCache c ∧
      (m = s.mem ∨ m = s.mem.put a.toNat v) ∧
      c.dataEnabled = s.cache.dataEnabled ∧ c.instrEnabled = s.cache.instrEnabled ∧
      c.instrLocked = s.cache.instrLocked ∧ c.bufferStale = s.cache.bufferStale := by
  simp only [State.poke8]
  split
  · exact ⟨s.mem, s.cache, rfl, Or.inl rfl, rfl, rfl, rfl, rfl⟩
  · exact ⟨_, s.cache, rfl, Or.inr rfl, rfl, rfl, rfl, rfl⟩
  · split
    · exact ⟨_, _, rfl, Or.inr rfl, rfl, rfl, rfl, rfl⟩
    · exact ⟨s.mem, s.cache, rfl, Or.inl rfl, rfl, rfl, rfl, rfl⟩

/-- The data that no store of the processor changes. -/
structure State.StoreFrame (s t : State) : Prop where
  globals : t.globals = s.globals
  locals : t.locals = s.locals
  ip : t.ip = s.ip
  ac : t.ac = s.ac
  pc : t.pc = s.pc
  tc : t.tc = s.tc
  frames : t.frames = s.frames
  tables : t.tables = s.tables
  unalignedMasked : t.unalignedMasked = s.unalignedMasked
  config : t.config = s.config
  bp : t.bp = s.bp
  intr : t.intr = s.intr
  timer0 : t.timer0 = s.timer0
  timer1 : t.timer1 = s.timer1
  deviceId : t.deviceId = s.deviceId
  dataEnabled : t.cache.dataEnabled = s.cache.dataEnabled
  instrEnabled : t.cache.instrEnabled = s.cache.instrEnabled
  instrLocked : t.cache.instrLocked = s.cache.instrLocked
  trace : t.trace = s.trace
  plat : t.plat = s.plat
  inputs : t.inputs = s.inputs
  free : t.free = s.free

theorem State.StoreFrame.refl (s : State) : State.StoreFrame s s := by constructor <;> rfl

theorem State.StoreFrame.trans {s t u : State} (h : State.StoreFrame s t) (k : State.StoreFrame t u) :
    State.StoreFrame s u := by
  constructor
  all_goals first
    | exact k.globals.trans h.globals | exact k.locals.trans h.locals | exact k.ip.trans h.ip
    | exact k.ac.trans h.ac | exact k.pc.trans h.pc | exact k.tc.trans h.tc | exact k.frames.trans h.frames
    | exact k.tables.trans h.tables | exact k.unalignedMasked.trans h.unalignedMasked
    | exact k.config.trans h.config | exact k.bp.trans h.bp | exact k.intr.trans h.intr
    | exact k.timer0.trans h.timer0 | exact k.timer1.trans h.timer1 | exact k.deviceId.trans h.deviceId
    | exact k.dataEnabled.trans h.dataEnabled | exact k.instrEnabled.trans h.instrEnabled
    | exact k.instrLocked.trans h.instrLocked | exact k.trace.trans h.trace | exact k.plat.trans h.plat
    | exact k.inputs.trans h.inputs | exact k.free.trans h.free

theorem State.poke8_frame (s : State) (a : Word) (v : MByte) : State.StoreFrame s (s.poke8 a v) := by
  obtain ⟨m, c, h, -, h1, h2, h3, -⟩ := s.poke8_eq a v
  rw [h]
  constructor <;> first | rfl | assumption

theorem State.poke8_wf (s : State) (a : Word) (v : MByte) (h : s.mem.wf = true) : (s.poke8 a v).mem.wf = true := by
  obtain ⟨m, c, e, hm, -⟩ := s.poke8_eq a v
  rw [e]
  rcases hm with hm | hm <;> subst hm
  · exact h
  · exact Memory.wf_put _ _ _ h

/-- A store of a byte leaves every other byte alone. -/
theorem State.byteAt_poke8_ne (s : State) (a b : Word) (v : MByte) (h : b ≠ a) : (s.poke8 a v).byteAt b = s.byteAt b := by
  obtain ⟨m, c, e, hm, -⟩ := s.poke8_eq a v
  have hn : a.toNat ≠ b.toNat := fun k => h (BitVec.eq_of_toNat_eq k.symm)
  rw [e]
  rcases hm with hm | hm <;> subst hm
  · rfl
  · exact Memory.read_put_ne _ _ _ _ hn

/-- A store of a byte to memory that can be written reads back. -/
theorem State.byteAt_poke8_self (s : State) (a : Word) (v : MByte) (hw : s.mem.wf = true) (h : s.stores a) :
    (s.poke8 a v).byteAt a = v.get := by
  simp only [State.poke8]
  split
  · exact absurd ‹_› h.1
  · exact Memory.read_put_self _ _ _ hw
  · rw [if_pos h.2]; exact Memory.read_put_self _ _ _ hw

theorem State.poke32_frame (s : State) (a : Word) (v : Slot) : State.StoreFrame s (s.poke32 a v) :=
  (((s.poke8_frame _ _).trans (State.poke8_frame _ _ _)).trans (State.poke8_frame _ _ _)).trans (State.poke8_frame _ _ _)

theorem State.poke16_frame (s : State) (a : Word) (v : Slot) : State.StoreFrame s (s.poke16 a v) :=
  (s.poke8_frame _ _).trans (State.poke8_frame _ _ _)

theorem State.poke1_frame (s : State) (a : Word) (v : Slot) : State.StoreFrame s (s.poke1 a v) := s.poke8_frame _ _

theorem State.pokeWords_frame (s : State) (a : Word) (vs : List Slot) : State.StoreFrame s (s.pokeWords a vs) := by
  induction vs generalizing s a with
  | nil => exact State.StoreFrame.refl s
  | cons v rest ih => exact (s.poke32_frame a v).trans (ih _ _)

theorem State.poke32_wf (s : State) (a : Word) (v : Slot) (h : s.mem.wf = true) : (s.poke32 a v).mem.wf = true :=
  State.poke8_wf _ _ _ (State.poke8_wf _ _ _ (State.poke8_wf _ _ _ (State.poke8_wf _ _ _ h)))

theorem State.poke16_wf (s : State) (a : Word) (v : Slot) (h : s.mem.wf = true) : (s.poke16 a v).mem.wf = true :=
  State.poke8_wf _ _ _ (State.poke8_wf _ _ _ h)

theorem State.poke1_wf (s : State) (a : Word) (v : Slot) (h : s.mem.wf = true) : (s.poke1 a v).mem.wf = true :=
  State.poke8_wf _ _ _ h

theorem State.pokeWords_wf (s : State) (a : Word) (vs : List Slot) (h : s.mem.wf = true) :
    (s.pokeWords a vs).mem.wf = true := by
  induction vs generalizing s a with
  | nil => exact h
  | cons v rest ih => exact ih _ _ (s.poke32_wf a v h)

/-- The bytes of a word store: every byte outside the four is as before. -/
theorem State.byteAt_poke32_ne (s : State) (a b : Word) (v : Slot) (h0 : b ≠ a) (h1 : b ≠ a + 1) (h2 : b ≠ a + 2)
    (h3 : b ≠ a + 3) : (s.poke32 a v).byteAt b = s.byteAt b := by
  simp only [State.poke32]
  rw [State.byteAt_poke8_ne _ _ _ _ h3, State.byteAt_poke8_ne _ _ _ _ h2, State.byteAt_poke8_ne _ _ _ _ h1,
    State.byteAt_poke8_ne _ _ _ _ h0]

/-- Memory after reset has the canonical form. -/
theorem State.reset_mem_wf : State.reset.mem.wf = true := rfl

theorem State.busWrite_wf (s : State) (a : Word) (b : Byte) (h : s.mem.wf = true) : (s.busWrite a b).mem.wf = true := by
  simp only [State.busWrite]
  split
  · exact Memory.wf_put _ _ _ h
  · exact h

end Sys2Proof.Machine
end

