-- ==== Sys2Proof/Laws/Run.lean ====
section
/-! SUPPORT. The end of an instruction: what `run` answers when the action completes, raises or stops. -/

namespace Sys2Proof.Machine

/-! The monad: what each step of an action answers. -/

@[simp] theorem M.pure_run {α : Type} (a : α) (s : State) : (pure a : M α) s = .ok a s := rfl

@[simp] theorem M.get_run (s : State) : (get : M State) s = .ok s s := rfl

@[simp] theorem M.set_run (t s : State) : (set t : M Unit) s = .ok () t := rfl

@[simp] theorem M.modify_run (f : State → State) (s : State) : (modify f : M Unit) s = .ok () (f s) := rfl

@[simp] theorem M.raise_run {α : Type} (k : FaultKind) (s : State) : (raise k : M α) s = .error (.raise k) s := rfl

@[simp] theorem M.refuse_run {α : Type} (r : Refusal) (s : State) : (refuse r : M α) s = .error (.refuse r) s := rfl

@[simp] theorem M.stopFault_run {α : Type} (f : Fault) (s : State) : (stopFault f : M α) s = .error (.fault f) s := rfl

theorem M.bind_run {α β : Type} (x : M α) (f : α → M β) (s : State) :
    (x >>= f) s = match x s with
      | .ok a t => f a t
      | .error e t => .error e t := by
  show EStateM.bind x f s = _
  unfold EStateM.bind
  cases x s <;> rfl

theorem M.map_run {α β : Type} (f : α → β) (x : M α) (s : State) :
    (f <$> x) s = match x s with
      | .ok a t => .ok (f a) t
      | .error e t => .error e t := by
  show EStateM.map f x s = _
  unfold EStateM.map
  cases x s <;> rfl

/-- What `x >>= f` answers where `x` completes. -/
theorem M.bind_ok {α β : Type} {x : M α} {f : α → M β} {s t : State} {a : α} (h : x s = .ok a t) :
    (x >>= f) s = f a t := by rw [M.bind_run, h]

/-- What `x >>= f` answers where `x` stops. -/
theorem M.bind_error {α β : Type} {x : M α} {f : α → M β} {s t : State} {e : Exit} (h : x s = .error e t) :
    (x >>= f) s = .error e t := by rw [M.bind_run, h]

/-! Completion. -/

/-- No trace event is signalled of an instruction that is not traced (60 R700). -/
@[simp] theorem State.traceEvents_false (s : State) (ev : BitVec 8) (m : Bool) : s.traceEvents false ev m = 0 := rfl

/-- Tracing is off in an untraced state (60 R700). -/
theorem State.traceOn_untraced (s : State) (h : s.untraced) : s.traceOn = false := by simp [State.traceOn, h.1, h.2]

/-- An instruction that begins untraced and opens no window is not traced (60 R701). -/
theorem State.tracedUntil_untraced (s t : State) (h : s.untraced) (ht : t.trace.teWindow = 0) :
    s.tracedUntil t = false := by simp [State.tracedUntil, ht, s.traceOn_untraced h]

/-- An action that completes untraced ends the step there: the IP advances unless it was set. -/
theorem run_next (len : Word) (action : M Done) (s t : State) (d : Done) (h : action s = .ok d t)
    (hu : s.tracedUntil t = false) (hp : d.pendingTrace = false) (hq : d.poll = false) :
    run len action s = .next ((if d.transfer then t else t.withIp (t.ip + len)).retire d.branch) := by
  cases hd : d.transfer <;> simp [run, h, complete, toOutcome, M.bind_run, hd, hu, hp, hq]

/-- An action that raises a fault ends the step with the fault call. -/
theorem run_raise (len : Word) (action : M Done) (s t : State) (k : FaultKind) (h : action s = .error (.raise k) t) :
    run len action s = toOutcome (faulted s.ip len k) t := by simp [run, h]

/-- An action that refuses ends the step with the refusal. -/
theorem run_refuse (len : Word) (action : M Done) (s t : State) (r : Refusal) (h : action s = .error (.refuse r) t) :
    run len action s = .refused r := by simp [run, h]

/-- An action that stops ends the step with the stop. -/
theorem run_fault (len : Word) (action : M Done) (s t : State) (f : Fault) (h : action s = .error (.fault f) t) :
    run len action s = .fault f := by simp [run, h]

end Sys2Proof.Machine
end

