-- ==== Sys2Proof/Laws/Access.lean ====
section
/-! SUPPORT. Accesses: what the checks, the reads and the writes of memory answer, and what memory holds after a store. -/

namespace Sys2Proof.Machine

/-! Checks. -/

/-- `n` bytes from `a` meet no absent memory. -/
theorem State.absentIn_eq_none (s : State) (a : Word) (n : Nat) :
    s.absentIn a n = none ↔ ∀ i < n, s.kindAt (a + BitVec.ofNat 32 i) ≠ .absent := by
  induction n generalizing a with
  | zero => simp [State.absentIn]
  | succ n ih =>
    simp only [State.absentIn]
    have shift : ∀ i, a + 1 + BitVec.ofNat 32 i = a + BitVec.ofNat 32 (i + 1) := by
      intro i; rw [Nat.add_comm i 1, BitVec.ofNat_add, ← BitVec.add_assoc]; rfl
    by_cases h : s.kindAt a = .absent
    · rw [if_pos h]
      refine ⟨(nomatch ·), fun hall => absurd h ?_⟩
      have := hall 0 (by omega)
      rwa [show BitVec.ofNat 32 0 = 0#32 from rfl, BitVec.add_zero] at this
    · rw [if_neg h, ih]
      constructor
      · intro hall i hi
        cases i with
        | zero => simpa using h
        | succ i => rw [← shift]; exact hall i (by omega)
      · intro hall i hi
        rw [shift]; exact hall (i + 1) (by omega)

/-- An access within one region that meets no absent memory passes. -/
theorem checkRange_ok (a : Word) (n : Nat) (s : State) (hr : regionOf (a + BitVec.ofNat 32 (n - 1)) = regionOf a)
    (hk : ∀ i < n, s.kindAt (a + BitVec.ofNat 32 i) ≠ .absent) : checkRange a n s = .ok () s := by
  have := (s.absentIn_eq_none a n).2 hk
  simp [checkRange, M.bind_run, hr, this]

/-- All that `checkRange` can answer: it never changes the state and never raises. -/
theorem checkRange_cases (a : Word) (n : Nat) (s : State) :
    checkRange a n s = .ok () s ∨ ∃ e, checkRange a n s = .error e s ∧ ∀ k, e ≠ .raise k := by
  simp only [checkRange, M.bind_run, M.get_run]
  split
  · exact Or.inr ⟨_, rfl, by intro k h; cases h⟩
  · cases s.absentIn a n with
    | some b => exact Or.inr ⟨_, rfl, by intro k h; cases h⟩
    | none => exact Or.inl rfl

/-- All that `checkImplicit` can answer. -/
theorem checkImplicit_cases (a : Word) (n : Nat) (s : State) :
    checkImplicit a n s = .ok () s ∨ ∃ e, checkImplicit a n s = .error e s ∧ ∀ k, e ≠ .raise k := by
  simp only [checkImplicit]
  split
  · exact Or.inr ⟨_, rfl, by intro k h; cases h⟩
  · exact checkRange_cases a n s

theorem checkImplicit_ok (a : Word) (n : Nat) (s : State) (hm : regionOf a ≠ .mmr)
    (hr : regionOf (a + BitVec.ofNat 32 (n - 1)) = regionOf a)
    (hk : ∀ i < n, s.kindAt (a + BitVec.ofNat 32 i) ≠ .absent) : checkImplicit a n s = .ok () s := by
  simp only [checkImplicit, if_neg hm]; exact checkRange_ok a n s hr hk

/-- All that `checkWords` can answer. -/
theorem checkWords_cases (a : Word) (n : Nat) (s : State) :
    checkWords a n s = .ok () s ∨ ∃ e, checkWords a n s = .error e s ∧ ∀ k, e ≠ .raise k := by
  induction n generalizing a with
  | zero => exact Or.inl rfl
  | succ n ih =>
    rcases checkImplicit_cases a 4 s with h | ⟨e, h, hn⟩
    · simp only [checkWords, M.bind_ok h]; exact ih _
    · exact Or.inr ⟨e, by simp only [checkWords, M.bind_error h], hn⟩

/-- Words that lie each in one region, not in MMR space, and meet no absent memory pass (20_memory R97). -/
theorem checkWords_ok (a : Word) (n : Nat) (s : State)
    (h : ∀ i < n, checkImplicit (a + BitVec.ofNat 32 (4 * i)) 4 s = .ok () s) : checkWords a n s = .ok () s := by
  induction n generalizing a with
  | zero => rfl
  | succ n ih =>
    have h0 := h 0 (by omega)
    rw [show BitVec.ofNat 32 (4 * 0) = 0#32 from rfl, BitVec.add_zero] at h0
    simp only [checkWords, M.bind_ok h0]
    refine ih _ fun i hi => ?_
    have := h (i + 1) (by omega)
    rwa [show 4 * (i + 1) = 4 + 4 * i by omega, BitVec.ofNat_add, ← BitVec.add_assoc] at this

/-- All that `checkProtected` can answer: it never changes the state. -/
theorem checkProtected_cases (a : Word) (n : Nat) (s : State) :
    checkProtected a n s = .ok () s ∨ checkProtected a n s = .error (.raise .unimplemented) s ∨
      checkProtected a n s = .error (.raise .mismatch) s := by
  simp only [checkProtected]
  split
  · exact Or.inr (Or.inl rfl)
  · simp only [M.bind_run, M.get_run]
    split
    · exact Or.inr (Or.inr rfl)
    · exact Or.inl rfl

theorem checkProtected_ok (a : Word) (n : Nat) (s : State) (hm : regionOf a ≠ .mmr)
    (hp : s.protectedIn s.supervisor a n = false) : checkProtected a n s = .ok () s := by
  simp [checkProtected, hm, M.bind_run, hp]

/-- A store to write-protected internal RAM raises TYPE.MISMATCH (20_memory R87). -/
theorem checkProtected_raises (a : Word) (n : Nat) (s : State) (hm : regionOf a ≠ .mmr)
    (hp : s.protectedIn s.supervisor a n = true) : checkProtected a n s = .error (.raise .mismatch) s := by
  simp [checkProtected, hm, M.bind_run, hp]

theorem checkLoad_ok (a : Word) (n : Nat) (s : State) (hm : regionOf a ≠ .mmr)
    (hr : regionOf (a + BitVec.ofNat 32 (n - 1)) = regionOf a)
    (hk : ∀ i < n, s.kindAt (a + BitVec.ofNat 32 i) ≠ .absent) : checkLoad a n s = .ok () s := by
  simp only [checkLoad, if_neg hm]; exact checkRange_ok a n s hr hk

/-! Reads of settled memory. -/

/-- A byte that is no device and has no stale copy reads as memory holds it. -/
theorem State.peek8_settled (s : State) (c : Bool) (a : Word) (hk : s.kindAt a ≠ .device)
    (hs : staleAt s.cache.dataStale a.toNat = false) : s.peek8 c a = s.byteAt a := by
  simp [State.peek8, hk, staleByte, hs]

/-- A word of settled memory reads as memory holds it. -/
theorem State.peek32_settled (s : State) (c : Bool) (a : Word) (h : s.settled a 4) : s.peek32 c a = s.wordAt a := by
  obtain ⟨-, -, h⟩ := h
  have e0 : s.peek8 c a = s.byteAt a := by
    have := h 0 (by omega); rw [show BitVec.ofNat 32 0 = 0#32 from rfl, BitVec.add_zero] at this; exact s.peek8_settled c _ this.2.1 this.2.2
  have e1 : s.peek8 c (a + 1) = s.byteAt (a + 1) := have := h 1 (by omega); s.peek8_settled c _ this.2.1 this.2.2
  have e2 : s.peek8 c (a + 2) = s.byteAt (a + 2) := have := h 2 (by omega); s.peek8_settled c _ this.2.1 this.2.2
  have e3 : s.peek8 c (a + 3) = s.byteAt (a + 3) := have := h 3 (by omega); s.peek8_settled c _ this.2.1 this.2.2
  simp only [State.peek32, State.wordAt, e0, e1, e2, e3]

theorem State.peek16_settled (s : State) (c : Bool) (a : Word) (h : s.settled a 2) : s.peek16 c a = s.halfAt a := by
  obtain ⟨-, -, h⟩ := h
  have e0 : s.peek8 c a = s.byteAt a := by
    have := h 0 (by omega); rw [show BitVec.ofNat 32 0 = 0#32 from rfl, BitVec.add_zero] at this; exact s.peek8_settled c _ this.2.1 this.2.2
  have e1 : s.peek8 c (a + 1) = s.byteAt (a + 1) := have := h 1 (by omega); s.peek8_settled c _ this.2.1 this.2.2
  simp only [State.peek16, State.halfAt, e0, e1]

/-- A word the processor reads by itself from settled memory. -/
theorem readImplicit_ok (c : Bool) (a : Word) (s : State) (h : s.settled a 4) :
    readImplicit c a s = .ok (s.wordAt a) s := by
  have hc := checkImplicit_ok a 4 s h.1 h.2.1 (fun i hi => (h.2.2 i hi).1)
  simp [readImplicit, M.bind_ok hc, M.map_run, s.peek32_settled c a h]

/-- All that `readImplicit` can answer: a word, or a stop, in the same state. -/
theorem readImplicit_cases (c : Bool) (a : Word) (s : State) :
    readImplicit c a s = .ok (s.peek32 c a) s ∨ ∃ e, readImplicit c a s = .error e s ∧ ∀ k, e ≠ .raise k := by
  rcases checkImplicit_cases a 4 s with h | ⟨e, h, hn⟩
  · left; simp [readImplicit, M.bind_ok h, M.map_run]
  · right; exact ⟨e, by simp [readImplicit, M.bind_error h], hn⟩

/-- A word load from settled memory, past the data cache or not. -/
theorem readWord_ok (c : Bool) (a : Word) (s : State) (h : s.settled a 4) : readWord c a s = .ok (s.wordAt a) s := by
  have hc := checkRange_ok a 4 s h.2.1 (fun i hi => (h.2.2 i hi).1)
  simp only [readWord, if_neg h.1]
  rw [M.bind_ok hc]
  simp [M.bind_run, s.peek32_settled c a h]

/-- A word load from settled memory. -/
theorem loadWord_ok (a : Word) (s : State) (h : s.settled a 4) : loadWord a s = .ok (s.wordAt a) s :=
  readWord_ok true a s h

/-- No alignment fault where the address is aligned or the fault is masked (20_memory R104). -/
theorem unalignedTrap_ok (a : Word) (bits : Nat) (s : State) (h : s.alignedFor a bits) :
    unalignedTrap a bits s = .ok () s := by
  simp only [unalignedTrap, M.bind_run, M.get_run]
  rw [if_neg]
  · rfl
  · rintro ⟨h1, h2⟩
    rcases h with h | h
    · exact h1 h
    · simp [h] at h2

/-- An alignment fault where the address is not aligned and the fault is not masked (20_memory R104). -/
theorem unalignedTrap_raises (a : Word) (bits : Nat) (s : State) (h : a.toNat % 2 ^ bits ≠ 0)
    (hm : s.unalignedMasked = false) : unalignedTrap a bits s = .error (.raise .unaligned) s := by
  simp [unalignedTrap, M.bind_run, h, hm]

/-! Writes. -/

/-- Words of RAM pass. -/
theorem checkWords_writable (a : Word) (n : Nat) (s : State) (hw : s.wordsWritable a n) : checkWords a n s = .ok () s :=
  checkWords_ok a n s fun i hi => checkImplicit_ok _ 4 s (hw i hi).1 (hw i hi).2.1
    (fun j hj => by rw [(hw i hi).2.2 j hj]; intro h; cases h)

/-- Words of settled memory pass. -/
theorem checkWords_settled (a : Word) (n : Nat) (s : State) (hw : s.wordsSettled a n) : checkWords a n s = .ok () s :=
  checkWords_ok a n s fun i hi => checkImplicit_ok _ 4 s (hw i hi).1 (hw i hi).2.1 (fun j hj => ((hw i hi).2.2 j hj).1)

/-- Words the processor writes by itself to RAM that is not protected. -/
theorem writeImplicit_ok (em : Bool) (a : Word) (vs : List Slot) (s : State) (hw : s.wordsWritable a vs.length)
    (hp : s.protectedIn em a (4 * vs.length) = false) : writeImplicit em a vs s = .ok () (s.pokeWords a vs) := by
  have hc := checkWords_writable a vs.length s hw
  simp [writeImplicit, M.bind_ok hc, M.bind_run, hp]

/-- All that `writeImplicit` can answer: the words are stored, or a stop in the same state. -/
theorem writeImplicit_cases (em : Bool) (a : Word) (vs : List Slot) (s : State) :
    writeImplicit em a vs s = .ok () (s.pokeWords a vs) ∨
      ∃ e, writeImplicit em a vs s = .error e s ∧ ∀ k, e ≠ .raise k := by
  rcases checkWords_cases a vs.length s with h | ⟨e, h, hn⟩
  · simp only [writeImplicit, M.bind_ok h, M.bind_run, M.get_run]
    split
    · exact Or.inr ⟨_, rfl, by intro k h; cases h⟩
    · exact Or.inl rfl
  · right; exact ⟨e, by simp [writeImplicit, M.bind_error h], hn⟩

/-- A word store to RAM that is not protected. -/
theorem storeWord_ok (a : Word) (v : Slot) (s : State) (hw : s.writable a 4)
    (hp : s.protectedIn s.supervisor a 4 = false) : storeWord a v s = .ok () (s.poke32 a v) := by
  have h1 := checkProtected_ok a 4 s hw.1 hp
  have h2 := checkRange_ok a 4 s hw.2.1 (fun i hi => by rw [hw.2.2 i hi]; intro h; cases h)
  simp only [storeWord, if_neg hw.1]
  rw [M.bind_ok h1, M.bind_ok h2]
  rfl

/-- A word store to write-protected internal RAM raises TYPE.MISMATCH and stores nothing (20_memory R87). -/
theorem storeWord_raises (a : Word) (v : Slot) (s : State) (hm : regionOf a ≠ .mmr)
    (hp : s.protectedIn s.supervisor a 4 = true) : storeWord a v s = .error (.raise .mismatch) s := by
  simp only [storeWord, if_neg hm]
  rw [M.bind_error (checkProtected_raises a 4 s hm hp)]

/-- The byte of a vector in unprotected RAM gets its bit (48_processor_management R607). -/
theorem postByte_ok (a : Word) (bit : Byte) (s : State) (hw : s.writable a 1)
    (hp : s.protectedIn s.supervisor a 1 = false) :
    postByte a bit s = .ok () (s.poke8 a (.val (s.peek8 false a ||| bit))) := by
  have hk : ∀ i < 1, s.kindAt (a + BitVec.ofNat 32 i) ≠ .absent := fun i hi h => by
    have := hw.2.2 i hi; rw [h] at this; cases this
  rw [postByte, M.bind_ok (checkLoad_ok a 1 s hw.1 hw.2.1 hk), M.bind_ok (checkProtected_ok a 1 s hw.1 hp), M.modify_run]

/-- The byte of a vector in write-protected RAM raises TYPE.MISMATCH (20_memory R87). -/
theorem postByte_raises (a : Word) (bit : Byte) (s : State) (hw : s.writable a 1)
    (hp : s.protectedIn s.supervisor a 1 = true) : postByte a bit s = .error (.raise .mismatch) s := by
  have hk : ∀ i < 1, s.kindAt (a + BitVec.ofNat 32 i) ≠ .absent := fun i hi h => by
    have := hw.2.2 i hi; rw [h] at this; cases this
  rw [postByte, M.bind_ok (checkLoad_ok a 1 s hw.1 hw.2.1 hk), M.bind_error (checkProtected_raises a 1 s hw.1 hp)]

/-! What memory holds after a store. -/

/-- The kind of an address does not change by a store. -/
theorem State.kindAt_of_plat {s t : State} (h : t.plat = s.plat) (a : Word) : t.kindAt a = s.kindAt a := by
  simp [State.kindAt, h]

/-- A byte store changes no other byte and keeps what can be written. -/
theorem State.stores_poke8 (s : State) (a b : Word) (v : MByte) (h : s.stores b) : (s.poke8 a v).stores b := by
  refine ⟨h.1, ?_⟩
  rw [State.kindAt_of_plat (s.poke8_frame a v).plat]; exact h.2

/-- In a range of RAM within one region every byte can be written. -/
theorem regionOf_mono (a b : Word) (h : a.toNat ≤ b.toNat) (hb : regionOf b ≠ .mmr) : regionOf a ≠ .mmr := by
  simp only [regionOf] at *
  split at hb
  · exact absurd rfl hb
  · rw [if_neg (by omega)]; split <;> simp

/-- The four bytes of a word store. -/
theorem State.holdsWord_poke32 (s : State) (a : Word) (v : Slot) (hw : s.mem.wf = true)
    (hs : ∀ i < 4, s.stores (a + BitVec.ofNat 32 i)) : (s.poke32 a v).holdsWord a v := by
  intro i hi
  have ne : ∀ {i j : Nat}, i < 4 → j < 4 → i ≠ j → a + BitVec.ofNat 32 i ≠ a + BitVec.ofNat 32 j := by
    intro i j hi hj h e
    have := congrArg BitVec.toNat ((BitVec.add_right_inj a).1 e)
    simp only [BitVec.toNat_ofNat] at this
    omega
  have hbe : (s.poke32 a v).bigEndian = s.bigEndian := by simp [State.bigEndian, (s.poke32_frame a v).config]
  rw [hbe]
  have h0 : s.stores a := by
    have := hs 0 (by omega); rwa [show BitVec.ofNat 32 0 = 0#32 from rfl, BitVec.add_zero] at this
  have h1 : s.stores (a + 1) := hs 1 (by omega)
  have h2 : s.stores (a + 2) := hs 2 (by omega)
  have h3 : s.stores (a + 3) := hs 3 (by omega)
  have e01 : a ≠ a + 1 := by
    have := ne (i := 0) (j := 1) (by omega) (by omega) (by omega)
    rwa [show BitVec.ofNat 32 0 = 0#32 from rfl, BitVec.add_zero] at this
  have e02 : a ≠ a + 2 := by
    have := ne (i := 0) (j := 2) (by omega) (by omega) (by omega)
    rwa [show BitVec.ofNat 32 0 = 0#32 from rfl, BitVec.add_zero] at this
  have e03 : a ≠ a + 3 := by
    have := ne (i := 0) (j := 3) (by omega) (by omega) (by omega)
    rwa [show BitVec.ofNat 32 0 = 0#32 from rfl, BitVec.add_zero] at this
  have e12 : a + 1 ≠ a + 2 := ne (i := 1) (j := 2) (by omega) (by omega) (by omega)
  have e13 : a + 1 ≠ a + 3 := ne (i := 1) (j := 3) (by omega) (by omega) (by omega)
  have e23 : a + 2 ≠ a + 3 := ne (i := 2) (j := 3) (by omega) (by omega) (by omega)
  simp only [State.poke32]
  have w1 := s.poke8_wf a (v.byte (laneAt s.bigEndian 4 0)) hw
  have w2 := State.poke8_wf _ (a + 1) (v.byte (laneAt s.bigEndian 4 1)) w1
  have w3 := State.poke8_wf _ (a + 2) (v.byte (laneAt s.bigEndian 4 2)) w2
  obtain rfl | rfl | rfl | rfl : i = 0 ∨ i = 1 ∨ i = 2 ∨ i = 3 := by omega
  · rw [show BitVec.ofNat 32 0 = 0#32 from rfl, BitVec.add_zero,
      State.byteAt_poke8_ne _ _ _ _ e03, State.byteAt_poke8_ne _ _ _ _ e02, State.byteAt_poke8_ne _ _ _ _ e01,
      State.byteAt_poke8_self _ _ _ hw h0]
    simp [laneAt]
  · rw [show BitVec.ofNat 32 1 = (1 : Word) from rfl, State.byteAt_poke8_ne _ _ _ _ e13,
      State.byteAt_poke8_ne _ _ _ _ e12, State.byteAt_poke8_self _ _ _ w1 (s.stores_poke8 _ _ _ h1)]
    simp [laneAt]
  · rw [show BitVec.ofNat 32 2 = (2 : Word) from rfl, State.byteAt_poke8_ne _ _ _ _ e23,
      State.byteAt_poke8_self _ _ _ w2 (State.stores_poke8 _ _ _ _ (s.stores_poke8 _ _ _ h2))]
    simp [laneAt]
  · rw [show BitVec.ofNat 32 3 = (3 : Word) from rfl, State.byteAt_poke8_self _ _ _ w3
      (State.stores_poke8 _ _ _ _ (State.stores_poke8 _ _ _ _ (s.stores_poke8 _ _ _ h3)))]
    simp [laneAt]

end Sys2Proof.Machine
end

