-- ==== Sys2Proof/Laws/Calls.lean ====
section
/-! SUPPORT. Calls, returns, faults and interrupts: all that each shared operation can answer, said once. The one fault that
any of them raises is the TYPE.MISMATCH of a spill; where one stops before its first change it stops in the state it was
started in. -/

namespace Sys2Proof.Machine

/-- What `push_frame` makes of `s` (45_call_return R505): the set is the last of the cache; if the cache had no room, the
oldest set went to its save area, or the new one itself if there was no other. -/
inductive State.Pushed (s : State) (f : CachedFrame) : State → Prop where
  | kept : s.pushSpills = false →
      State.Pushed s f (s.withFrames { s.frames with cache := s.frames.cache ++ [f] })
  | itself : s.pushSpills = true → s.frames.cache = [] →
      State.Pushed s f (s.pokeWords f.save f.regs.toList)
  | spilled (old : CachedFrame) (rest : List CachedFrame) : s.pushSpills = true → s.frames.cache = old :: rest →
      s.chainIntact = true →
      State.Pushed s f ((s.pokeWords old.save old.regs.toList).withFrames { s.frames with cache := rest ++ [f] })

/-- All that a spill of one set can answer (45_call_return R505, 20_memory R87). -/
theorem spillSet_cases (f : CachedFrame) (s : State) :
    spillSet f s = .ok () (s.pokeWords f.save f.regs.toList) ∨
      ∃ e, spillSet f s = .error e s ∧ ∀ k, e = .raise k → k = .mismatch := by
  simp only [spillSet, M.bind_run, M.get_run]
  split
  · exact Or.inr ⟨_, rfl, by intro k h; cases h; rfl⟩
  · rcases checkWords_cases f.save 16 s with h | ⟨e, h, hn⟩
    · exact Or.inl (by rw [M.bind_ok h]; rfl)
    · exact Or.inr ⟨e, by rw [M.bind_error h], fun k hk => absurd hk (hn k)⟩

/-- A set is spilled to RAM that is not protected. -/
theorem spillSet_ok (f : CachedFrame) (s : State) (hw : s.wordsWritable f.save 16)
    (hp : s.protectedIn s.supervisor f.save 64 = false) :
    spillSet f s = .ok () (s.pokeWords f.save f.regs.toList) := by
  simp [spillSet, M.bind_run, hp, checkWords_writable f.save 16 s hw]

/-- All that `push_frame` can answer. -/
theorem pushFrame_cases (f : CachedFrame) (s : State) :
    (∃ t, pushFrame f s = .ok () t ∧ s.Pushed f t) ∨
      ∃ e, pushFrame f s = .error e s ∧ ∀ k, e = .raise k → k = .mismatch := by
  simp only [pushFrame, M.bind_run, M.get_run]
  by_cases hp : s.pushSpills = true
  · rw [if_pos hp]
    cases hc : s.frames.cache with
    | nil =>
      rcases spillSet_cases f s with h | h
      · exact Or.inl ⟨_, h, .itself hp hc⟩
      · exact Or.inr h
    | cons old rest =>
      dsimp only
      by_cases hi : s.chainIntact = true
      · rw [if_pos hi]
        rcases spillSet_cases old s with h | ⟨e, h, hn⟩
        · refine Or.inl ⟨_, by rw [M.bind_ok h, M.modify_run], ?_⟩
          rw [(s.pokeWords_frame _ _).frames]
          exact .spilled old rest hp hc hi
        · exact Or.inr ⟨e, by rw [M.bind_error h], hn⟩
      · rw [if_neg hi]
        exact Or.inr ⟨_, rfl, by intro k h; cases h⟩
  · rw [if_neg hp]
    exact Or.inl ⟨_, rfl, .kept (by simpa using hp)⟩

/-- All that the call operation can answer (45_call_return R503). -/
theorem doCall_cases (rip : Slot) (target : Word) (rt : BitVec 3) (base : Word) (s : State) :
    (∃ t, s.Pushed (s.suspended rip) t ∧
      doCall rip target rt base s = .ok () (t.enterFrame (s.linkWord rt) (roundUp16 base) target)) ∨
    ∃ e, doCall rip target rt base s = .error e s ∧ ∀ k, e = .raise k → k = .mismatch := by
  rcases pushFrame_cases (s.suspended rip) s with ⟨t, h, hp⟩ | ⟨e, h, hn⟩
  · left
    refine ⟨t, hp, ?_⟩
    simp only [doCall, M.bind_run, M.get_run, h, M.modify_run]
  · right
    refine ⟨e, ?_, hn⟩
    simp only [doCall, M.bind_run, M.get_run, h]

/-- The call operation after a change of PC is the call operation of the changed state (45_call_return R515, R522). -/
theorem switchCall_run (pc : Word) (rip : Slot) (target : Word) (rt : BitVec 3) (base : Word) (s : State) :
    switchCall pc rip target rt base s = doCall rip target rt base (s.setPcNow pc) := by
  simp only [switchCall, M.bind_run, M.modify_run]

/-- All that the call operation after a change of PC can answer. -/
theorem switchCall_cases (pc : Word) (rip : Slot) (target : Word) (rt : BitVec 3) (base : Word) (s : State) :
    (∃ t, (s.setPcNow pc).Pushed ((s.setPcNow pc).suspended rip) t ∧ switchCall pc rip target rt base s =
      .ok () (t.enterFrame ((s.setPcNow pc).linkWord rt) (roundUp16 base) target)) ∨
    ∃ e, switchCall pc rip target rt base s = .error e (s.setPcNow pc) ∧ ∀ k, e = .raise k → k = .mismatch := by
  rw [switchCall_run]; exact doCall_cases rip target rt base (s.setPcNow pc)

/-- What `pop_frame` makes of `s` (45_call_return R505): the locals come from the last cached set, or from the save area. -/
inductive State.Popped (s : State) (a : Word) : State → Prop where
  | cached (f : CachedFrame) : s.frames.cache.getLast? = some f → f.link = a →
      State.Popped s a ((s.withLocals f.regs).withFrames { s.frames with cache := s.frames.cache.dropLast })
  | loaded : s.frames.cache = [] →
      State.Popped s a
        (s.withLocals (Vector.ofFn (fun i : Fin 16 => Slot.val (s.peek32 true (a + BitVec.ofNat 32 (4 * i.val))))))

/-- All that `pop_frame` can answer. -/
theorem popFrame_cases (a : Word) (s : State) :
    (∃ t, popFrame a s = .ok () t ∧ s.Popped a t) ∨ ∃ e, popFrame a s = .error e s ∧ ∀ k, e ≠ .raise k := by
  simp only [popFrame, M.bind_run, M.get_run]
  cases hl : s.frames.cache.getLast? with
  | some f =>
    dsimp only
    by_cases hf : f.link = a
    · rw [if_pos hf]; exact Or.inl ⟨_, rfl, .cached f hl hf⟩
    · rw [if_neg hf]; exact Or.inr ⟨_, rfl, by intro k h; cases h⟩
  | none =>
    dsimp only
    rcases checkWords_cases a 16 s with h | ⟨e, h, hn⟩
    · refine Or.inl ⟨_, by rw [M.bind_ok h]; rfl, .loaded ?_⟩
      simpa using hl
    · exact Or.inr ⟨e, by rw [M.bind_error h], hn⟩

/-- The frame of the caller, `t` being `s` with its locals restored (45_call_return R507). -/
def State.backIn (s t : State) : State :=
  ((t.withGlobals (t.globals.set 15 (.val s.pfpAddress))).withFrames
    { t.frames with current := s.pfpAddress, pfpDirty := false }).jump (t.reg 2)

/-- All that `get_FP_and_IP` can answer (45_call_return R507, R523). -/
theorem returnToFrame_cases (s : State) :
    (∃ t, s.Popped s.pfpAddress t ∧ returnToFrame s = .ok () (s.backIn t)) ∨
      ∃ e, returnToFrame s = .error e s ∧ ∀ k, e ≠ .raise k := by
  rcases popFrame_cases s.pfpAddress s with ⟨t, h, hp⟩ | ⟨e, h, hn⟩
  · exact Or.inl ⟨t, hp, by simp only [returnToFrame, M.bind_run, M.get_run, h, M.modify_run]; rfl⟩
  · exact Or.inr ⟨e, by simp only [returnToFrame, M.bind_run, M.get_run, h], hn⟩

/-! Actions that only look. -/

/-- An action that leaves the state as it was and raises no fault: it answers, or it stops. -/
def M.Looks {α : Type} (x : M α) (s : State) : Prop :=
  (∃ a, x s = .ok a s) ∨ ∃ e, x s = .error e s ∧ ∀ k, e ≠ .raise k

theorem M.looks_pure {α : Type} (a : α) (s : State) : M.Looks (pure a) s := Or.inl ⟨a, rfl⟩

theorem M.looks_refuse {α : Type} (r : Refusal) (s : State) : M.Looks (refuse r : M α) s :=
  Or.inr ⟨_, rfl, by intro k h; cases h⟩

theorem M.looks_stop {α : Type} (f : Fault) (s : State) : M.Looks (stopFault f : M α) s :=
  Or.inr ⟨_, rfl, by intro k h; cases h⟩

theorem M.looks_get (s : State) : M.Looks get s := Or.inl ⟨s, rfl⟩

theorem M.looks_bind {α β : Type} {x : M α} {f : α → M β} {s : State} (hx : M.Looks x s) (hf : ∀ a, M.Looks (f a) s) :
    M.Looks (x >>= f) s := by
  rcases hx with ⟨a, h⟩ | ⟨e, h, hn⟩
  · rcases hf a with ⟨b, hb⟩ | ⟨e, hb, hn⟩
    · exact Or.inl ⟨b, by rw [M.bind_ok h, hb]⟩
    · exact Or.inr ⟨e, by rw [M.bind_ok h, hb], hn⟩
  · exact Or.inr ⟨e, by rw [M.bind_error h], hn⟩

theorem M.looks_ite {α : Type} {p : Prop} [Decidable p] {x y : M α} {s : State} (hx : M.Looks x s) (hy : M.Looks y s) :
    M.Looks (if p then x else y) s := by by_cases h : p <;> simp [h, hx, hy]

theorem readImplicit_looks (c : Bool) (a : Word) (s : State) : M.Looks (readImplicit c a) s := by
  rcases readImplicit_cases c a s with h | h
  · exact Or.inl ⟨_, h⟩
  · exact Or.inr h

/-- The choice of a fault handler changes nothing (60_exceptions R650 to R652). -/
theorem faultTarget_looks (n : BitVec 8) (s : State) : M.Looks (faultTarget n) s := by
  have local_ : ∀ w : Word, M.Looks (if n = 1 then refuse .traceEntry else pure (w, false)) s :=
    fun w => M.looks_ite (M.looks_refuse _ s) (M.looks_pure _ s)
  refine M.looks_bind (M.looks_get s) fun u => M.looks_bind (readImplicit_looks _ _ s) fun entry => ?_
  refine M.looks_ite (local_ _) (M.looks_ite ?_ (M.looks_refuse _ s))
  refine M.looks_bind (readImplicit_looks _ _ s) fun second => ?_
  refine M.looks_ite (M.looks_refuse _ s) (M.looks_ite (M.looks_refuse _ s) ?_)
  refine M.looks_bind (readImplicit_looks _ _ s) fun proc => ?_
  exact M.looks_ite (M.looks_pure _ s) (M.looks_ite (local_ _) (M.looks_refuse _ s))

/-- The frame address has its low four bits clear (70_reset R749 c). -/
@[simp] theorem State.fpAddress_low (s : State) : s.fpAddress.extractLsb' 0 4 = 0#4 := by
  ext i hi
  have : i = 0 ∨ i = 1 ∨ i = 2 ∨ i = 3 := by omega
  rcases this with rfl | rfl | rfl | rfl <;> simp [State.fpAddress]

/-- All that a read of the saved controls can answer: the two words of the record below the frame, or a stop, in the same
state (45_call_return R523, 70_reset R749 c). -/
theorem savedControls_cases (s : State) :
    savedControls s = .ok (s.peek32 true (s.fpAddress - 16), s.peek32 true (s.fpAddress - 12)) s ∨
      ∃ e, savedControls s = .error e s ∧ ∀ k, e ≠ .raise k := by
  rcases readImplicit_cases true (s.fpAddress - 16) s with hp | ⟨e, hp, hn⟩
  · rcases readImplicit_cases true (s.fpAddress - 12) s with ha | ⟨e, ha, hn⟩
    · exact Or.inl (by simp only [savedControls, M.bind_run, M.get_run, hp, ha]; rfl)
    · exact Or.inr ⟨e, by simp only [savedControls, M.bind_run, M.get_run, hp, ha], hn⟩
  · exact Or.inr ⟨e, by simp only [savedControls, M.bind_run, M.get_run, hp], hn⟩

/-- The saved controls are read without a change (45_call_return R523). -/
theorem savedControls_looks (s : State) : M.Looks savedControls s :=
  (savedControls_cases s).imp_left fun h => ⟨_, h⟩

/-- An interrupt table entry is read without a change (60_exceptions R686). -/
theorem vectorEntry_looks (v : Byte) (s : State) : M.Looks (vectorEntry v) s :=
  M.looks_bind (M.looks_get s) fun _ => readImplicit_looks _ _ s

/-! Faults and interrupts. -/

/-- The state in which a fault's call is made: the record is stored, and PC is the handler's where the call switches the
mode or the fault is a TRACE fault (60_exceptions R650 to R655, R703). -/
def State.faultStored (s : State) (n sub : BitVec 8) (ip : Slot) (deferred switches : Bool) : State :=
  let t := s.pokeWords (s.faultStack switches)
    (faultRecord s.free (if deferred then pcSetTfp s.pc true else s.pc) s.ac (faultTypeWord n sub) ip)
  if switches || n = 1 then t.setPcNow (t.handlerPc switches (n = 1)) else t

/-- All that the fault call can answer (60_exceptions R650 to R655): it stops, or it makes the call from the state that
holds the record. -/
theorem faultCall_cases (n sub : BitVec 8) (rip ip : Slot) (deferred : Bool) (s : State) :
    (∃ target switches, faultTarget n s = .ok (target, switches) s ∧
      faultCall n sub rip ip deferred s =
        doCall rip target 1 (s.faultStack switches + Config.faultRecordBytes)
          (s.faultStored n sub ip deferred switches)) ∨
    ∃ e, faultCall n sub rip ip deferred s = .error e s ∧ ∀ k, e ≠ .raise k := by
  rcases faultTarget_looks n s with ⟨⟨target, switches⟩, h⟩ | ⟨e, h, hn⟩
  · rcases writeImplicit_cases (s.supervisor || switches) (s.faultStack switches)
      (faultRecord s.free (if deferred then pcSetTfp s.pc true else s.pc) s.ac (faultTypeWord n sub) ip) s with
      hw | ⟨e, hw, hn⟩
    · refine Or.inl ⟨target, switches, h, ?_⟩
      simp only [faultCall, M.bind_run, h, M.get_run, hw, M.modify_run, State.faultStored]
    · refine Or.inr ⟨e, ?_, hn⟩
      simp only [faultCall, M.bind_run, h, M.get_run, hw]
  · exact Or.inr ⟨e, by simp only [faultCall, M.bind_run, h], hn⟩

/-- Where the record of an interrupt starts (60_exceptions R688, R689). -/
def State.interruptStack (s : State) : Word :=
  roundUp16 (if pcInterrupted s.pc then s.reg 1 else s.tables.isp)

/-- The state in which an interrupt's call is made: the record is stored, PC is the handler's (60_exceptions R688, R690). -/
def State.interruptStored (s : State) (v : Byte) : State :=
  let t := s.pokeWords s.interruptStack [.val s.pc, .val s.ac, .val (v.zeroExtend 32), .free s.free (Site.record 0)]
  (t.setPcNow (pcForInterrupt t.pc (vectorPriority v))).withIntr { t.intr with halted := false }

/-- All that the interrupt call can answer (60_exceptions R688 to R690). -/
theorem interruptCall_cases (v : Byte) (target : Word) (s : State) :
    interruptCall v target s =
      ((doCall (.val s.ip) target 7 (s.interruptStack + 16) >>= fun _ => pure (s.interruptStack + 16))
        (s.interruptStored v)) ∨
    ∃ e, interruptCall v target s = .error e s ∧ ∀ k, e ≠ .raise k := by
  rcases writeImplicit_cases true s.interruptStack
    [.val s.pc, .val s.ac, .val (v.zeroExtend 32), .free s.free (Site.record 0)] s with hw | ⟨e, hw, hn⟩
  · left
    simp only [State.interruptStack] at hw ⊢
    simp only [interruptCall, M.bind_run, M.get_run, hw, M.modify_run, State.interruptStored, State.interruptStack]
  · right
    refine ⟨e, ?_, hn⟩
    simp only [State.interruptStack] at hw
    simp only [interruptCall, M.bind_run, M.get_run, hw]

end Sys2Proof.Machine
end

