-- ==== Sys2Proof/Laws/Fetch.lean ====
section
/-! SUPPORT. What a fetch answers: the word that memory holds where no older copy can be, OPERATION.UNIMPLEMENTED outside
external memory, a stop where there is none. -/

namespace Sys2Proof.Machine

/-- A byte of code of which no older copy can be reads as memory holds it. -/
theorem State.codeByte_settled (s : State) (a : Word) (hk : s.kindAt a ≠ .device)
    (hs : staleAt (s.codeCopies a.toNat) a.toNat = false) : s.codeByte a = s.byteAt a := by
  simp [State.codeByte, hk, staleByte, hs]

/-- A word of code of which no older copy can be reads as memory holds it. -/
theorem State.codeWord_settled (s : State) (a : Word) (h : s.codeSettled a) : s.codeWord a = s.wordAt a := by
  have hb : ∀ i < 4, s.codeByte (a + BitVec.ofNat 32 i) = s.byteAt (a + BitVec.ofNat 32 i) :=
    fun i hi => s.codeByte_settled _ (h.2 i hi).2.1 (h.2 i hi).2.2
  have h0 := hb 0 (by decide)
  rw [show a + BitVec.ofNat 32 0 = a by simp] at h0
  rw [State.codeWord, State.wordAt, h0]
  exact congr (congr (congr rfl (hb 1 (by decide))) (hb 2 (by decide))) (hb 3 (by decide))

/-- A fetch of settled code answers the word of memory, and the fetch buffer then holds its block. -/
theorem fetchWord_ok (a : Word) (s : State) (h : s.codeSettled a) : fetchWord a s = .ok (s.wordAt a) (s.fetched a) := by
  have ha : s.absentIn a 4 = none := (s.absentIn_eq_none a 4).mpr fun i hi => (h.2 i hi).1
  simp [fetchWord, M.bind_run, h.1, ha, s.codeWord_settled a h, M.map_run]

/-- All that a fetch can answer. -/
theorem fetchWord_cases (a : Word) (s : State) :
    fetchWord a s = .ok (s.codeWord a) (s.fetched a) ∨ fetchWord a s = .error (.raise .unimplemented) s ∨
      ∃ b, fetchWord a s = .error (.fault (.absentMemory b)) s := by
  by_cases hr : regionOf a ≠ .external
  · exact .inr (.inl (by simp [fetchWord, M.bind_run, hr]))
  · simp only [ne_eq, not_not] at hr
    cases ha : s.absentIn a 4 with
    | none => exact .inl (by simp [fetchWord, M.bind_run, hr, ha, M.map_run])
    | some b => exact .inr (.inr ⟨b, by simp [fetchWord, M.bind_run, hr, ha]⟩)

/-- A fetch changes nothing that a program can see. -/
@[simp] theorem State.fetched_mem (s : State) (a : Word) : (s.fetched a).mem = s.mem := rfl
@[simp] theorem State.fetched_ip (s : State) (a : Word) : (s.fetched a).ip = s.ip := rfl
@[simp] theorem State.fetched_wordAt (s : State) (a b : Word) : (s.fetched a).wordAt b = s.wordAt b := rfl
theorem State.Inv.fetched {s : State} (h : s.Inv) (a : Word) : (s.fetched a).Inv := h

end Sys2Proof.Machine
end

