-- ==== Sys2Proof/Laws/Registers.lean ====
section
/-! SUPPORT. Registers: what a read sees after a write, and what a write leaves alone. -/

namespace Sys2Proof.Machine

/-- A read of the register just written. -/
@[simp] theorem State.slot_setSlot_self (s : State) (n : RegNum) (v : Slot) : (s.setSlot n v).slot n = v := by
  simp only [State.setSlot, State.slot]
  split
  · split <;> simp
  · simp

/-- A read of another register. -/
theorem State.slot_setSlot_ne (s : State) (n m : RegNum) (v : Slot) (h : m ≠ n) :
    (s.setSlot n v).slot m = s.slot m := by
  have hn : m.toNat ≠ n.toNat := fun e => h (BitVec.eq_of_toNat_eq e)
  have := n.isLt
  have := m.isLt
  simp only [State.setSlot, State.slot]
  split <;> split
  · split <;> simp [Ne.symm hn]
  · simp
  · split <;> simp
  · simp only [State.withGlobals_globals, Vector.getElem_set]
    rw [if_neg (by omega)]

theorem State.slot_setSlot (s : State) (n m : RegNum) (v : Slot) :
    (s.setSlot n v).slot m = if m = n then v else s.slot m := by
  split
  · rename_i h; subst h; simp
  · exact s.slot_setSlot_ne n m v ‹_›

/-- A write of r0 marks PFP written, a write of another register leaves the frames (45_call_return R509). -/
theorem State.setSlot_frames (s : State) (n : RegNum) (v : Slot) :
    (s.setSlot n v).frames = if n = 0 then s.frames.pfpWritten else s.frames := by
  simp only [State.setSlot]
  split
  · split <;> rfl
  · rename_i h
    have h0 : n ≠ 0 := by intro e; subst e; simp at h
    rw [if_neg h0]; rfl

/-- A write of r0 leaves the suspended sets, the reserved frames and the current frame. -/
@[simp] theorem Frames.pfpWritten_cache (f : Frames) : f.pfpWritten.cache = f.cache := rfl
@[simp] theorem Frames.pfpWritten_reserved (f : Frames) : f.pfpWritten.reserved = f.reserved := rfl
@[simp] theorem Frames.pfpWritten_current (f : Frames) : f.pfpWritten.current = f.current := rfl
@[simp] theorem Frames.pfpWritten_pfpDirty (f : Frames) : f.pfpWritten.pfpDirty = true := rfl

/-- No register write changes the suspended sets. -/
@[simp] theorem State.setSlot_frames_cache (s : State) (n : RegNum) (v : Slot) :
    (s.setSlot n v).frames.cache = s.frames.cache := by rw [State.setSlot_frames]; split <;> rfl

@[simp] theorem State.setSlot_ip (s : State) (n : RegNum) (v : Slot) : (s.setSlot n v).ip = s.ip := by
  simp only [State.setSlot]; split <;> (try split) <;> rfl
@[simp] theorem State.setSlot_ac (s : State) (n : RegNum) (v : Slot) : (s.setSlot n v).ac = s.ac := by
  simp only [State.setSlot]; split <;> (try split) <;> rfl
@[simp] theorem State.setSlot_pc (s : State) (n : RegNum) (v : Slot) : (s.setSlot n v).pc = s.pc := by
  simp only [State.setSlot]; split <;> (try split) <;> rfl
@[simp] theorem State.setSlot_tc (s : State) (n : RegNum) (v : Slot) : (s.setSlot n v).tc = s.tc := by
  simp only [State.setSlot]; split <;> (try split) <;> rfl
@[simp] theorem State.setSlot_tables (s : State) (n : RegNum) (v : Slot) : (s.setSlot n v).tables = s.tables := by
  simp only [State.setSlot]; split <;> (try split) <;> rfl
@[simp] theorem State.setSlot_unalignedMasked (s : State) (n : RegNum) (v : Slot) : (s.setSlot n v).unalignedMasked = s.unalignedMasked := by
  simp only [State.setSlot]; split <;> (try split) <;> rfl
@[simp] theorem State.setSlot_config (s : State) (n : RegNum) (v : Slot) : (s.setSlot n v).config = s.config := by
  simp only [State.setSlot]; split <;> (try split) <;> rfl
@[simp] theorem State.setSlot_bp (s : State) (n : RegNum) (v : Slot) : (s.setSlot n v).bp = s.bp := by
  simp only [State.setSlot]; split <;> (try split) <;> rfl
@[simp] theorem State.setSlot_intr (s : State) (n : RegNum) (v : Slot) : (s.setSlot n v).intr = s.intr := by
  simp only [State.setSlot]; split <;> (try split) <;> rfl
@[simp] theorem State.setSlot_timer0 (s : State) (n : RegNum) (v : Slot) : (s.setSlot n v).timer0 = s.timer0 := by
  simp only [State.setSlot]; split <;> (try split) <;> rfl
@[simp] theorem State.setSlot_timer1 (s : State) (n : RegNum) (v : Slot) : (s.setSlot n v).timer1 = s.timer1 := by
  simp only [State.setSlot]; split <;> (try split) <;> rfl
@[simp] theorem State.setSlot_deviceId (s : State) (n : RegNum) (v : Slot) : (s.setSlot n v).deviceId = s.deviceId := by
  simp only [State.setSlot]; split <;> (try split) <;> rfl
@[simp] theorem State.setSlot_cache (s : State) (n : RegNum) (v : Slot) : (s.setSlot n v).cache = s.cache := by
  simp only [State.setSlot]; split <;> (try split) <;> rfl
@[simp] theorem State.setSlot_trace (s : State) (n : RegNum) (v : Slot) : (s.setSlot n v).trace = s.trace := by
  simp only [State.setSlot]; split <;> (try split) <;> rfl
@[simp] theorem State.setSlot_mem (s : State) (n : RegNum) (v : Slot) : (s.setSlot n v).mem = s.mem := by
  simp only [State.setSlot]; split <;> (try split) <;> rfl
@[simp] theorem State.setSlot_plat (s : State) (n : RegNum) (v : Slot) : (s.setSlot n v).plat = s.plat := by
  simp only [State.setSlot]; split <;> (try split) <;> rfl
@[simp] theorem State.setSlot_inputs (s : State) (n : RegNum) (v : Slot) : (s.setSlot n v).inputs = s.inputs := by
  simp only [State.setSlot]; split <;> (try split) <;> rfl
@[simp] theorem State.setSlot_free (s : State) (n : RegNum) (v : Slot) : (s.setSlot n v).free = s.free := by
  simp only [State.setSlot]; split <;> (try split) <;> rfl

/-! Updates that leave the registers. -/

@[simp] theorem State.slot_withIp (s : State) (v : Word) (n : RegNum) : (s.withIp v).slot n = s.slot n := rfl
@[simp] theorem State.slot_withAc (s : State) (v : Word) (n : RegNum) : (s.withAc v).slot n = s.slot n := rfl
@[simp] theorem State.slot_withPc (s : State) (v : Word) (n : RegNum) : (s.withPc v).slot n = s.slot n := rfl
@[simp] theorem State.slot_withTc (s : State) (v : Word) (n : RegNum) : (s.withTc v).slot n = s.slot n := rfl
@[simp] theorem State.slot_withFrames (s : State) (v : Frames) (n : RegNum) : (s.withFrames v).slot n = s.slot n := rfl
@[simp] theorem State.slot_withTables (s : State) (v : Tables) (n : RegNum) : (s.withTables v).slot n = s.slot n := rfl
@[simp] theorem State.slot_withUnalignedMasked (s : State) (v : Bool) (n : RegNum) : (s.withUnalignedMasked v).slot n = s.slot n := rfl
@[simp] theorem State.slot_withConfig (s : State) (v : MemConfig) (n : RegNum) : (s.withConfig v).slot n = s.slot n := rfl
@[simp] theorem State.slot_withBp (s : State) (v : Breakpoints) (n : RegNum) : (s.withBp v).slot n = s.slot n := rfl
@[simp] theorem State.slot_withIntr (s : State) (v : Interrupts) (n : RegNum) : (s.withIntr v).slot n = s.slot n := rfl
@[simp] theorem State.slot_withTimer0 (s : State) (v : Timer) (n : RegNum) : (s.withTimer0 v).slot n = s.slot n := rfl
@[simp] theorem State.slot_withTimer1 (s : State) (v : Timer) (n : RegNum) : (s.withTimer1 v).slot n = s.slot n := rfl
@[simp] theorem State.slot_withDeviceId (s : State) (v : Word) (n : RegNum) : (s.withDeviceId v).slot n = s.slot n := rfl
@[simp] theorem State.slot_withCache (s : State) (v : Caches) (n : RegNum) : (s.withCache v).slot n = s.slot n := rfl
@[simp] theorem State.slot_withTrace (s : State) (v : TraceDelay) (n : RegNum) : (s.withTrace v).slot n = s.slot n := rfl
@[simp] theorem State.slot_withMem (s : State) (v : Memory) (n : RegNum) : (s.withMem v).slot n = s.slot n := rfl
@[simp] theorem State.slot_withPlat (s : State) (v : Platform) (n : RegNum) : (s.withPlat v).slot n = s.slot n := rfl
@[simp] theorem State.slot_withInputs (s : State) (v : List (List Event)) (n : RegNum) : (s.withInputs v).slot n = s.slot n := rfl
@[simp] theorem State.slot_withFree (s : State) (v : Nat) (n : RegNum) : (s.withFree v).slot n = s.slot n := rfl

@[simp] theorem State.slot_setCc (s : State) (c : BitVec 3) (n : RegNum) : (s.setCc c).slot n = s.slot n := rfl

/-- The word of a register is that of its slot. -/
theorem State.reg_eq (s : State) (n : RegNum) : s.reg n = (s.slot n).get := rfl

@[simp] theorem State.reg_setReg_self (s : State) (n : RegNum) (v : Word) : (s.setReg n v).reg n = v := by
  simp [State.reg, State.setReg, Slot.get]

end Sys2Proof.Machine
end

