-- ==== Sys2Proof/Laws/Forms.lean ====
section
/-! SUPPORT. The shapes of action that several instructions share: once for each, all that it can answer. -/

namespace Sys2Proof.Machine

/-! The end of a step. -/

/-- The state in which an instruction of `len` bytes that transferred no control ends its step. -/
def State.after (s : State) (len : Word) (branch : Bool) : State := (s.withIp (s.ip + len)).retire branch

theorem State.after_eq (s : State) (len : Word) (b : Bool) :
    s.after len b = ((s.withIp (s.ip + len)).withTrace (s.trace.pass b)).withFree (s.free + 1) := rfl

@[simp] theorem State.after_ip (s : State) (len : Word) (b : Bool) : (s.after len b).ip = s.ip + len := rfl
@[simp] theorem State.after_ac (s : State) (len : Word) (b : Bool) : (s.after len b).ac = s.ac := rfl
@[simp] theorem State.after_slot (s : State) (len : Word) (b : Bool) (n : RegNum) : (s.after len b).slot n = s.slot n := rfl

/-- The registers a write of `d` leaves. -/
theorem State.sameRegsBut_setSlot (s : State) (d : RegNum) (v : Slot) : s.sameRegsBut (s.setSlot d v) [d] := by
  refine ⟨fun n hn => s.slot_setSlot_ne d n v (by simpa using hn), ?_, ?_⟩ <;>
    by_cases h : d = 0#5 <;> simp [State.setSlot_frames, h, eq_comm (a := 0#5)]

theorem State.changesOnly_setSlot (s : State) (d : RegNum) (v : Slot) : s.changesOnly (s.setSlot d v) [d] := by
  refine ⟨s.sameRegsBut_setSlot d v, ?_, ?_, ?_⟩
  · simp [State.sameSpecial]
  · by_cases h : d = 0#5 <;> simp [State.sameFrames, State.setSlot_frames, h]
  · intro a; simp [State.byteAt]

/-- What holds of a state holds of it with AC changed. -/
theorem State.changesOnly_withAc {s t : State} {ds : List RegNum} (h : s.changesOnly t ds) (w : Word) :
    s.changesOnly (t.withAc w) ds := h

theorem State.changesOnly_after {s t : State} {ds : List RegNum} (h : s.changesOnly t ds) (len : Word) (b : Bool) :
    s.changesOnly (t.after len b) ds := h

theorem State.changesOnly_refl (s : State) : s.changesOnly s [] := by
  refine ⟨⟨fun n _ => rfl, by simp, by simp⟩, ?_, ?_, fun a => rfl⟩
  · simp [State.sameSpecial]
  · simp [State.sameFrames]

/-! Actions. -/

/-- A destination that is not r2 passes. -/
theorem checkDst_ok (n : RegNum) (s : State) (h : n ≠ 2) : checkDst n 1 s = .ok () s := by
  have hn : n.toNat ≠ 2 := fun e => h (BitVec.eq_of_toNat_eq e)
  have : groupHasRip n 1 = false := by
    simp only [groupHasRip, decide_eq_false_iff_not]; omega
  simp [checkDst, this]

/-- r2 as a destination raises OPERATION.UNIMPLEMENTED (10_state R25). -/
theorem checkDst_rip (s : State) : checkDst 2 1 s = .error (.raise .unimplemented) s := rfl

/-- The end of an instruction that transfers no control and reports nothing. -/
theorem run_after {len : Word} {action : M Done} {s t : State} {d : Done} (h : action s = .ok d t) (hu : s.untraced)
    (hw : t.trace.teWindow = 0)
    (hp : d.pendingTrace = false) (hq : d.poll = false) (ht : d.transfer = false) :
    run len action s = .next (t.after len d.branch) := by
  rw [run_next len action s t d h (s.tracedUntil_untraced t hu hw) hp hq, ht]; rfl

/-- The end of an instruction that set the IP. -/
theorem run_transfer {len : Word} {action : M Done} {s t : State} {d : Done} (h : action s = .ok d t) (hu : s.untraced)
    (hw : t.trace.teWindow = 0)
    (hp : d.pendingTrace = false) (hq : d.poll = false) (ht : d.transfer = true) :
    run len action s = .next (t.retire d.branch) := by
  rw [run_next len action s t d h (s.tracedUntil_untraced t hu hw) hp hq, ht]; rfl

theorem binary_ok (f : Word → Word → Word) (a b : Operand) (d : RegNum) (s : State) (hd : d ≠ 2) :
    binary f a b d s = .ok {} (s.setReg d (f (operandValue a Site.src1 s) (operandValue b Site.src2 s))) := by
  simp [binary, M.bind_run, M.map_run, checkDst_ok d s hd, setDst]

/-- `binary` completes: the destination holds `f src1 src2`. -/
theorem binary_next (f : Word → Word → Word) (a b : Operand) (d : RegNum) (s : State) (hd : d ≠ 2) (hu : s.untraced) :
    run 4 (binary f a b d) s =
      .next ((s.setReg d (f (operandValue a Site.src1 s) (operandValue b Site.src2 s))).after 4 false) :=
  run_after (binary_ok f a b d s hd) hu (by simpa [State.setReg] using hu.2) rfl rfl rfl

theorem unary_next (f : Word → Word) (a : Operand) (d : RegNum) (s : State) (hd : d ≠ 2) (hu : s.untraced) :
    run 4 (unary f a d) s = .next ((s.setReg d (f (operandValue a Site.src1 s))).after 4 false) :=
  run_after (d := {}) (by simp [unary, M.bind_run, M.map_run, checkDst_ok d s hd, setDst]) hu
    (by simpa [State.setReg] using hu.2) rfl rfl rfl

/-- `compareOp` completes: it writes `AC.cc` alone. -/
theorem compareOp_next (f : Word → Word → BitVec 3) (a b : Operand) (s : State) (hu : s.untraced) :
    run 4 (compareOp f a b) s =
      .next ((s.setCc (f (operandValue a Site.src1 s) (operandValue b Site.src2 s))).after 4 false) :=
  run_after (d := {}) (by simp [compareOp, M.bind_run]) hu hu.2 rfl rfl rfl

end Sys2Proof.Machine
end

