-- ==== Sys2Proof/Laws/Init.lean ====
section
/-! SUPPORT. Initialization: where `Process_PRCB`, the control table and the hardware reset complete, on a platform whose
external addresses are all RAM, and what they leave of the state. -/

namespace Sys2Proof.Machine

/-- What initialization from a PRCB keeps: the process controls, the registers, the platform, the memory configuration
words that order bytes, and no absent memory. -/
structure State.InitFrame (s t : State) : Prop where
  pc : t.pc = s.pc
  ip : t.ip = s.ip
  globals : t.globals = s.globals
  locals : t.locals = s.locals
  plat : t.plat = s.plat
  trace : t.trace = s.trace
  free : t.free = s.free
  deviceId : t.deviceId = s.deviceId
  cached : t.frames.cache = s.frames.cache

theorem State.InitFrame.refl (s : State) : State.InitFrame s s := by constructor <;> rfl

theorem State.InitFrame.trans {s t u : State} (h : State.InitFrame s t) (k : State.InitFrame t u) :
    State.InitFrame s u :=
  ⟨k.pc.trans h.pc, k.ip.trans h.ip, k.globals.trans h.globals, k.locals.trans h.locals, k.plat.trans h.plat,
    k.trace.trans h.trace, k.free.trans h.free, k.deviceId.trans h.deviceId, k.cached.trans h.cached⟩

/-- Where all external addresses are RAM, a word of an initialization structure within one region is read. -/
theorem initWord_ok (a : Word) (s : State) (hp : s.plat.ranges = []) (hm : regionOf a ≠ .mmr)
    (hr : regionOf (a + 3) = regionOf a) : initWord a s = .ok (s.peek32 true a) s := by
  have hc := checkImplicit_ok a 4 s hm hr (fun i _ => by
    simp only [State.kindAt, hp, kindIn]; split <;> (intro h; cases h))
  simp [initWord, readImplicit, M.bind_ok hc, M.map_run]

/-- The PMCON words are read. -/
theorem loadPmcon_ok (c : Word) (n : Nat) (s : State) (hp : s.plat.ranges = [])
    (hr : ∀ i < n, regionOf (c + 0x20 + BitVec.ofNat 32 (8 * i)) ≠ .mmr ∧
      regionOf (c + 0x20 + BitVec.ofNat 32 (8 * i) + 3) = regionOf (c + 0x20 + BitVec.ofNat 32 (8 * i))) :
    ∃ t, loadPmcon c n s = .ok () t ∧ s.InitFrame t ∧ t.tables = s.tables := by
  induction n with
  | zero => exact ⟨s, rfl, .refl s, rfl⟩
  | succ n ih =>
    obtain ⟨t, h, hf, ht⟩ := ih fun i hi => hr i (by omega)
    have hw := initWord_ok (c + 0x20 + BitVec.ofNat 32 (8 * n)) t (by rw [hf.plat, hp]) (hr n (by omega)).1
      (hr n (by omega)).2
    refine ⟨_, by simp only [loadPmcon, M.bind_ok h, M.bind_ok hw, M.modify_run]; rfl, hf.trans ?_, ?_⟩
    · constructor <;> rfl
    · exact ht

/-- The control table at address 0, in internal RAM, is loaded (70_reset R728). -/
theorem loadControlTable_zero (s : State) (hp : s.plat.ranges = []) :
    ∃ t, loadControlTable 0 s = .ok () t ∧ s.InitFrame t ∧ t.tables = s.tables := by
  have h1 := initWord_ok (0 + 0x10) s hp (by decide) (by decide)
  have h2 := initWord_ok (0 + 0x14) s hp (by decide) (by decide)
  have h3 := initWord_ok (0 + 0x18) s hp (by decide) (by decide)
  have h4 := initWord_ok (0 + 0x1C) s hp (by decide) (by decide)
  obtain ⟨t, h5, hf, ht⟩ := loadPmcon_ok 0 8 (s.withIntr { s.intr with
    imap0 := s.peek32 true (0 + 0x10), imap1 := s.peek32 true (0 + 0x14), imap2 := s.peek32 true (0 + 0x18)
    icon := s.peek32 true (0 + 0x1C) }) hp (by decide)
  have hp2 : t.plat.ranges = [] := by rw [hf.plat]; exact hp
  have h6 := initWord_ok (0 + 0x68) t hp2 (by decide) (by decide)
  have h7 := initWord_ok (0 + 0x6C) (t.withTc (t.peek32 true (0 + 0x68) &&& tcMask)) hp2 (by decide) (by decide)
  refine ⟨_, by simp only [loadControlTable, M.bind_ok h1, M.bind_ok h2, M.bind_ok h3, M.bind_ok h4, M.bind_run,
    M.modify_run, h5, h6, h7]; rfl, ?_, ?_⟩
  · exact ⟨hf.pc, hf.ip, hf.globals, hf.locals, hf.plat, hf.trace, hf.free, hf.deviceId, hf.cached⟩
  · exact ht

/-- A PRCB whose control table, interrupt table and system procedure table are at address 0 is processed (70_reset R726):
the interrupt stack pointer is its word. -/
theorem processPrcb_zeros (p : Word) (s : State) (hp : s.plat.ranges = [])
    (hr : ∀ k ∈ ([0, 4, 8, 0xC, 0x10, 0x14, 0x1C, 0x20, 0x24] : List Word),
      regionOf (p + k) ≠ .mmr ∧ regionOf (p + k + 3) = regionOf (p + k))
    (hc : s.peek32 true (p + 4) = 0) (hi : s.peek32 true (p + 0x10) = 0) (ht : s.peek32 true (p + 0x14) = 0) :
    ∃ t, processPrcb p s = .ok () t ∧ s.InitFrame t ∧ t.tables.isp = s.peek32 true (p + 0x1C) := by
  have rd : ∀ k ∈ ([0, 4, 8, 0xC, 0x10, 0x14, 0x1C, 0x20, 0x24] : List Word),
      initWord (p + k) s = .ok (s.peek32 true (p + k)) s := fun k hk => initWord_ok _ s hp (hr k hk).1 (hr k hk).2
  have r0 : initWord p s = .ok (s.peek32 true p) s := by
    have := rd 0 (by simp); rwa [show p + 0 = p by simp] at this
  have r1 : initWord (p + 0x04) s = .ok 0 s := (rd 4 (by simp)).trans (by rw [hc])
  have r2 := rd 8 (by simp)
  have r3 := rd 0xC (by simp)
  have r4 : initWord (p + 0x10) s = .ok 0 s := (rd 0x10 (by simp)).trans (by rw [hi])
  have r5 : initWord (p + 0x14) s = .ok 0 s := (rd 0x14 (by simp)).trans (by rw [ht])
  have r6 := rd 0x1C (by simp)
  have r7 := rd 0x20 (by simp)
  have r8 := rd 0x24 (by simp)
  have r9 := initWord_ok (0 + 12) s hp (by decide) (by decide)
  let u := (((((s.withTables { prcb := p, spt := 0, interrupt := 0, fault := s.peek32 true p, control := 0
                               isp := s.peek32 true (p + 0x1C), ssp := s.peek32 true (0 + 12) }).withAc
    (s.peek32 true (p + 8) &&& acMask)).withUnalignedMasked ((s.peek32 true (p + 0xC)).getLsbD 30)).withCache
    { s.cache with instrEnabled := !(s.peek32 true (p + 0x20)).getLsbD 16 }).withFrames
    { s.frames with reserved := (s.peek32 true (p + 0x24)).extractLsb' 8 3 })
  obtain ⟨t, h, hf, htab⟩ := loadControlTable_zero u hp
  have r10 := initWord_ok (0 + 36 + 4 * (248 - 8)) t (by rw [hf.plat]; exact hp) (by decide) (by decide)
  have e : processPrcb p s = .ok () (t.poke32 0 (.val (t.peek32 true (0 + 36 + 4 * (248 - 8))))) := by
    unfold processPrcb
    rw [M.bind_ok r0, M.bind_ok r1, M.bind_ok r2, M.bind_ok r3, M.bind_ok r4, M.bind_ok r5, M.bind_ok r6,
      M.bind_ok r7, M.bind_ok r8, M.bind_ok r9, M.bind_ok (M.modify_run _ s), M.bind_ok h, M.bind_ok r10]
    rfl
  have sf := t.poke32_frame 0 (.val (t.peek32 true (0 + 36 + 4 * (248 - 8))))
  refine ⟨_, e, ?_, by rw [sf.tables, htab]; rfl⟩
  exact State.InitFrame.trans (State.InitFrame.trans (t := u) (by constructor <;> rfl) hf)
    ⟨sf.pc, sf.ip, sf.globals, sf.locals, sf.plat, sf.trace, sf.free, sf.deviceId, by rw [sf.frames]⟩

/-- The hardware reset from a boot record whose PRCB is as in `processPrcb_zeros` and has 0 as its interrupt stack pointer
(70_reset R731): it completes with the process controls that `resetCore` sets. -/
theorem hardwareReset_zeros (p : Word) (s : State) (hp : s.plat.ranges = [])
    (hb : s.resetCore.peek32 true 0xFEFFFF44 = p)
    (hr : ∀ k ∈ ([0, 4, 8, 0xC, 0x10, 0x14, 0x1C, 0x20, 0x24] : List Word),
      regionOf (p + k) ≠ .mmr ∧ regionOf (p + k + 3) = regionOf (p + k))
    (hz : ∀ k ∈ ([4, 0x10, 0x14, 0x1C] : List Word), s.resetCore.peek32 true (p + k) = 0) :
    ∃ t, hardwareReset s = .ok () t ∧ t.pc = s.resetCore.pc := by
  have hp1 : s.resetCore.plat.ranges = [] := hp
  have h1 := initWord_ok 0xFEFFFF44 s.resetCore hp1 (by decide) (by decide)
  rw [hb] at h1
  obtain ⟨t, h2, hf, ht⟩ := processPrcb_zeros p s.resetCore hp1 hr (hz _ (by simp)) (hz _ (by simp)) (hz _ (by simp))
  rw [hz 0x1C (by simp)] at ht
  have h3 := initWord_ok 0xFEFFFF40 t (by rw [hf.plat]; exact hp1) (by decide) (by decide)
  have ha : ¬(t.tables.isp &&& 0xF ≠ 0) := by rw [ht]; decide
  refine ⟨_, by
    unfold hardwareReset
    rw [M.bind_ok (M.modify_run _ s), M.bind_ok h1, M.bind_ok h2, M.bind_ok h3, M.bind_ok (M.get_run t)]
    dsimp only
    rw [if_neg ha]
    rfl, ?_⟩
  simp [State.jump, State.setReg, hf.pc]

end Sys2Proof.Machine
end

