-- ==== Sys2Proof/Laws/Keeps.lean ====
section
/-! SUPPORT. A predicate that an action leads to, and the invariant through the shared operations: calls, returns, faults,
interrupts and the end of an instruction. -/

namespace Sys2Proof.Machine

/-! Actions that lead to a predicate. -/

/-- Every state the action started in `s` can end in, whatever the way it ends, meets `P`. -/
def M.Leads {α : Type} (P : State → Prop) (x : M α) (s : State) : Prop :=
  (∀ a t, x s = .ok a t → P t) ∧ ∀ e t, x s = .error e t → P t

/-- An action that answers leads to what its end meets. -/
theorem M.leads_of_ok {α : Type} {P : State → Prop} {x : M α} {s t : State} {a : α} (e : x s = .ok a t) (h : P t) :
    M.Leads P x s := by
  refine ⟨fun b u k => ?_, fun b u k => ?_⟩
  · rw [e] at k; cases k; exact h
  · rw [e] at k; cases k

/-- An action that does not answer leads to what its end meets. -/
theorem M.leads_of_error {α : Type} {P : State → Prop} {x : M α} {s t : State} {a : Exit} (e : x s = .error a t)
    (h : P t) : M.Leads P x s := by
  refine ⟨fun b u k => ?_, fun b u k => ?_⟩
  · rw [e] at k; cases k
  · rw [e] at k; cases k; exact h

theorem M.leads_pure {α : Type} {P : State → Prop} (a : α) {s : State} (h : P s) : M.Leads P (pure a) s :=
  M.leads_of_ok (M.pure_run a s) h

theorem M.leads_get {P : State → Prop} {s : State} (h : P s) : M.Leads P get s := M.leads_of_ok (M.get_run s) h

theorem M.leads_set {P : State → Prop} {s : State} (t : State) (h : P t) : M.Leads P (set t : M Unit) s :=
  M.leads_of_ok (M.set_run t s) h

theorem M.leads_modify {P : State → Prop} {s : State} (f : State → State) (h : P (f s)) :
    M.Leads P (modify f : M Unit) s := M.leads_of_ok (M.modify_run f s) h

theorem M.leads_raise {α : Type} {P : State → Prop} {s : State} (k : FaultKind) (h : P s) :
    M.Leads P (raise k : M α) s := M.leads_of_error (M.raise_run k s) h

theorem M.leads_refuse {α : Type} {P : State → Prop} {s : State} (r : Refusal) (h : P s) :
    M.Leads P (refuse r : M α) s := M.leads_of_error (M.refuse_run r s) h

theorem M.leads_stop {α : Type} {P : State → Prop} {s : State} (f : Fault) (h : P s) :
    M.Leads P (stopFault f : M α) s := M.leads_of_error (M.stopFault_run f s) h

/-- An action that only looks leads to what held before it. -/
theorem M.Looks.leads {α : Type} {P : State → Prop} {x : M α} {s : State} (hx : M.Looks x s) (h : P s) :
    M.Leads P x s := by
  rcases hx with ⟨a, e⟩ | ⟨e', e, -⟩
  · exact M.leads_of_ok e h
  · exact M.leads_of_error e h

/-- One action after another, the second from the states the first can answer in. -/
theorem M.leads_bind_of {α β : Type} {P : State → Prop} {x : M α} {f : α → M β} {s : State}
    (hx : ∀ e t, x s = .error e t → P t) (hf : ∀ a t, x s = .ok a t → M.Leads P (f a) t) :
    M.Leads P (x >>= f) s := by
  cases h : x s with
  | ok a t =>
    have := hf a t h
    exact ⟨fun b u e => this.1 b u (by rwa [M.bind_ok h] at e), fun b u e => this.2 b u (by rwa [M.bind_ok h] at e)⟩
  | error e t =>
    refine ⟨fun b u k => ?_, fun b u k => ?_⟩
    · rw [M.bind_error h] at k; cases k
    · rw [M.bind_error h] at k; cases k; exact hx e t h

/-- One action after another, where the second leads from every state that meets `P`. -/
theorem M.leads_bind {α β : Type} {P : State → Prop} {x : M α} {f : α → M β} {s : State} (hx : M.Leads P x s)
    (hf : ∀ a t, P t → M.Leads P (f a) t) : M.Leads P (x >>= f) s :=
  M.leads_bind_of hx.2 fun a t e => hf a t (hx.1 a t e)

/-- An action that begins by reading the state. -/
theorem M.leads_get_bind {β : Type} {P : State → Prop} {f : State → M β} {s : State} (hf : M.Leads P (f s) s) :
    M.Leads P (get >>= f) s := hf

theorem M.leads_ite {α : Type} {P : State → Prop} {p : Prop} [Decidable p] {x y : M α} {s : State}
    (hx : p → M.Leads P x s) (hy : ¬p → M.Leads P y s) : M.Leads P (if p then x else y) s := by
  by_cases h : p
  · rw [if_pos h]; exact hx h
  · rw [if_neg h]; exact hy h

/-- What an action leads to holds of a next state that it makes an outcome of. -/
theorem M.Leads.next {P : State → Prop} {x : M Unit} {s t : State} (h : M.Leads P x s) (e : toOutcome x s = .next t) :
    P t := by
  unfold toOutcome at e
  split at e
  · rename_i hx; cases e; exact h.1 _ _ hx
  all_goals cases e

/-! The invariant and single changes. -/

/-- The invariant depends on the memory, IP, AC, PC, TC and the register cache alone. -/
theorem State.Inv.of_eq {s t : State} (h : s.Inv) (hm : t.mem.wf = true) (hi : t.ip = s.ip) (ha : t.ac = s.ac)
    (hp : t.pc = s.pc) (ht : t.tc = s.tc) (hf : t.frames.cache.length ≤ 7) : t.Inv := by
  obtain ⟨-, h2, h3, h4, h5, -⟩ := h
  refine ⟨hm, ?_, ?_, ?_, ?_, ?_⟩
  · simpa [State.ipAligned, hi] using h2
  · simpa [State.acLegal, ha] using h3
  · simpa [State.pcLegal, hp] using h4
  · simpa [State.tcLegal, ht] using h5
  · simpa [State.cacheBounded] using hf

theorem State.Inv.bound {s : State} (h : s.Inv) : s.frames.cache.length ≤ 7 := by
  simpa [State.cacheBounded] using h.2.2.2.2.2

theorem State.Inv.withLocals {s : State} (h : s.Inv) (v : Vector Slot 16) : (s.withLocals v).Inv := h
theorem State.Inv.withGlobals {s : State} (h : s.Inv) (v : Vector Slot 16) : (s.withGlobals v).Inv := h
theorem State.Inv.withTables {s : State} (h : s.Inv) (v : Tables) : (s.withTables v).Inv := h
theorem State.Inv.withUnalignedMasked {s : State} (h : s.Inv) (v : Bool) : (s.withUnalignedMasked v).Inv := h
theorem State.Inv.withConfig {s : State} (h : s.Inv) (v : MemConfig) : (s.withConfig v).Inv := h
theorem State.Inv.withBp {s : State} (h : s.Inv) (v : Breakpoints) : (s.withBp v).Inv := h
theorem State.Inv.withIntr {s : State} (h : s.Inv) (v : Interrupts) : (s.withIntr v).Inv := h
theorem State.Inv.withTimer0 {s : State} (h : s.Inv) (v : Timer) : (s.withTimer0 v).Inv := h
theorem State.Inv.withTimer1 {s : State} (h : s.Inv) (v : Timer) : (s.withTimer1 v).Inv := h
theorem State.Inv.withDeviceId {s : State} (h : s.Inv) (v : Word) : (s.withDeviceId v).Inv := h
theorem State.Inv.withCache {s : State} (h : s.Inv) (v : Caches) : (s.withCache v).Inv := h
theorem State.Inv.withTrace {s : State} (h : s.Inv) (v : TraceDelay) : (s.withTrace v).Inv := h
theorem State.Inv.withInputs {s : State} (h : s.Inv) (v : List (List Event)) : (s.withInputs v).Inv := h
theorem State.Inv.withFree {s : State} (h : s.Inv) (v : Nat) : (s.withFree v).Inv := h

theorem State.Inv.withFrames {s : State} (h : s.Inv) (v : Frames) (hv : v.cache.length ≤ 7) : (s.withFrames v).Inv :=
  h.of_eq h.1 rfl rfl rfl rfl hv

theorem State.Inv.setSlot {s : State} (h : s.Inv) (n : RegNum) (v : Slot) : (s.setSlot n v).Inv := by
  refine h.of_eq (by simpa using h.1) (by simp) (by simp) (by simp) (by simp) ?_
  rw [State.setSlot_frames_cache]; exact h.bound

theorem State.Inv.withMem {s : State} (h : s.Inv) (m : Memory) (hm : m.wf = true) : (s.withMem m).Inv :=
  h.of_eq hm rfl rfl rfl rfl h.bound

/-- A word with its two low bits dropped is word aligned. -/
theorem wordAligned_mask (a : Word) : (a &&& 0xFFFFFFFC).extractLsb' 0 2 = 0#2 := by
  ext i hi
  have : i = 0 ∨ i = 1 := by omega
  rcases this with rfl | rfl <;> simp

theorem State.Inv.withIp {s : State} (h : s.Inv) (a : Word) (ha : a.extractLsb' 0 2 = 0#2) : (s.withIp a).Inv := by
  obtain ⟨h1, -, h3, h4, h5, h6⟩ := h
  exact ⟨h1, by simp [State.ipAligned, ha], h3, h4, h5, h6⟩

theorem State.Inv.jump {s : State} (h : s.Inv) (a : Word) : (s.jump a).Inv :=
  (h.withIp _ (wordAligned_mask a)).withCache _

/-- An aligned IP stays aligned past one or two words. -/
theorem wordAligned_add (a len : Word) (ha : a.extractLsb' 0 2 = 0#2) (hl : len.extractLsb' 0 2 = 0#2) :
    (a + len).extractLsb' 0 2 = 0#2 := by
  apply BitVec.eq_of_toNat_eq
  have h1 := congrArg BitVec.toNat ha
  have h2 := congrArg BitVec.toNat hl
  simp only [BitVec.extractLsb'_toNat, BitVec.toNat_add, BitVec.toNat_ofNat, Nat.shiftRight_zero] at h1 h2 ⊢
  omega

theorem State.Inv.withPc {s : State} (h : s.Inv) (w : Word) (hw : w &&& ~~~pcMask = 0) : (s.withPc w).Inv := by
  obtain ⟨h1, h2, h3, -, h5, h6⟩ := h
  exact ⟨h1, h2, h3, by simp [State.pcLegal, hw], h5, h6⟩

theorem State.Inv.withAc {s : State} (h : s.Inv) (w : Word) (hw : w &&& ~~~acMask = 0) : (s.withAc w).Inv := by
  obtain ⟨h1, h2, -, h4, h5, h6⟩ := h
  exact ⟨h1, h2, by simp [State.acLegal, hw], h4, h5, h6⟩

theorem State.Inv.withTc {s : State} (h : s.Inv) (w : Word) (hw : w &&& ~~~tcMask = 0) : (s.withTc w).Inv := by
  obtain ⟨h1, h2, h3, h4, -, h6⟩ := h
  exact ⟨h1, h2, h3, h4, by simp [State.tcLegal, hw], h6⟩

/-- A word masked with a mask has no bit outside it. -/
theorem and_mask_legal (w m : Word) : (w &&& m) &&& ~~~m = 0 := by
  rw [BitVec.and_assoc, BitVec.and_not_self]; exact BitVec.and_zero

/-- A merge under a legal mask of legal words is legal. -/
theorem merge_legal (m k w v : Word) (hm : m &&& ~~~k = 0) (hv : v &&& ~~~k = 0) : merge m w v &&& ~~~k = 0 := by
  apply BitVec.eq_of_getLsbD_eq
  intro i hi
  have h1 := congrArg (BitVec.getLsbD · i) hm
  have h2 := congrArg (BitVec.getLsbD · i) hv
  simp only [merge, BitVec.getLsbD_and, BitVec.getLsbD_or, BitVec.getLsbD_not, hi, decide_true, Bool.true_and] at h1 h2 ⊢
  revert h1 h2
  cases m.getLsbD i <;> cases k.getLsbD i <;> cases w.getLsbD i <;> cases v.getLsbD i <;> simp

theorem State.Inv.pcLegal_eq {s : State} (h : s.Inv) : s.pc &&& ~~~pcMask = 0 := by simpa [State.pcLegal] using h.2.2.2.1

theorem pcSetTe_legal (pc : Word) (b : Bool) (h : pc &&& ~~~pcMask = 0) : pcSetTe pc b &&& ~~~pcMask = 0 :=
  merge_legal _ _ _ _ (by decide) h

theorem pcSetSupervisor_legal (pc : Word) (b : Bool) (h : pc &&& ~~~pcMask = 0) :
    pcSetSupervisor pc b &&& ~~~pcMask = 0 := merge_legal _ _ _ _ (by decide) h

theorem pcSetTfp_legal (pc : Word) (b : Bool) (h : pc &&& ~~~pcMask = 0) : pcSetTfp pc b &&& ~~~pcMask = 0 :=
  merge_legal _ _ _ _ (by decide) h

theorem pcForInterrupt_legal (pc : Word) (p : BitVec 5) (h : pc &&& ~~~pcMask = 0) :
    pcForInterrupt pc p &&& ~~~pcMask = 0 := merge_legal _ _ _ _ (by decide) h

theorem State.Inv.handlerPc_legal {s : State} (h : s.Inv) (sw tr : Bool) : s.handlerPc sw tr &&& ~~~pcMask = 0 := by
  cases sw <;> cases tr <;> simp only [State.handlerPc, if_true, if_false, Bool.false_eq_true]
  · exact h.pcLegal_eq
  · exact pcSetTe_legal _ _ h.pcLegal_eq
  · exact pcSetTe_legal _ _ (pcSetSupervisor_legal _ _ h.pcLegal_eq)
  · exact pcSetTe_legal _ _ (pcSetTe_legal _ _ (pcSetSupervisor_legal _ _ h.pcLegal_eq))

theorem State.Inv.setPcNow {s : State} (h : s.Inv) (w : Word) (hw : w &&& ~~~pcMask = 0) : (s.setPcNow w).Inv :=
  (h.withPc w hw).withTrace _

theorem State.Inv.retire {s : State} (h : s.Inv) (b : Bool) : (s.retire b).Inv := (h.withTrace _).withFree _

theorem State.Inv.signal {s : State} (h : s.Inv) (ev : BitVec 8) : (s.signal ev).Inv := by
  refine h.withTc _ ?_
  have ht : s.tc &&& ~~~tcMask = 0 := by simpa [State.tcLegal] using h.2.2.2.2.1
  have hx := and_mask_legal (BitVec.zeroExtend 32 ev <<< 16) tcMask
  apply BitVec.eq_of_getLsbD_eq
  intro i hi
  have h1 := congrArg (BitVec.getLsbD · i) ht
  have h2 := congrArg (BitVec.getLsbD · i) hx
  simp only [tcSetEvents, BitVec.getLsbD_and, BitVec.getLsbD_or, BitVec.getLsbD_not, hi, decide_true, Bool.true_and]
    at h1 h2 ⊢
  revert h1 h2
  cases tcMask.getLsbD i <;> cases s.tc.getLsbD i <;> cases (BitVec.zeroExtend 32 ev <<< 16).getLsbD i <;> simp

theorem State.Inv.storeFrame {s t : State} (h : s.Inv) (f : State.StoreFrame s t) (hm : t.mem.wf = true) : t.Inv :=
  h.of_eq hm f.ip f.ac f.pc f.tc (by rw [f.frames]; exact h.bound)

theorem State.Inv.poke8 {s : State} (h : s.Inv) (a : Word) (v : MByte) : (s.poke8 a v).Inv :=
  h.storeFrame (s.poke8_frame a v) (s.poke8_wf a v h.1)

theorem State.Inv.poke16 {s : State} (h : s.Inv) (a : Word) (v : Slot) : (s.poke16 a v).Inv :=
  h.storeFrame (s.poke16_frame a v) (s.poke16_wf a v h.1)

theorem State.Inv.poke32 {s : State} (h : s.Inv) (a : Word) (v : Slot) : (s.poke32 a v).Inv :=
  h.storeFrame (s.poke32_frame a v) (s.poke32_wf a v h.1)

theorem State.Inv.pokeWords {s : State} (h : s.Inv) (a : Word) (vs : List Slot) : (s.pokeWords a vs).Inv :=
  h.storeFrame (s.pokeWords_frame a vs) (s.pokeWords_wf a vs h.1)

/-! The invariant through the shared operations. -/

theorem writeImplicit_inv (em : Bool) (a : Word) (vs : List Slot) {s : State} (h : s.Inv) :
    M.Leads State.Inv (writeImplicit em a vs) s := by
  rcases writeImplicit_cases em a vs s with e | ⟨x, e, -⟩
  · exact M.leads_of_ok e (h.pokeWords _ _)
  · exact M.leads_of_error e h

/-- A pushed set leaves the cache within its size (45_call_return R505). -/
theorem State.Pushed.inv {s t : State} {f : CachedFrame} (hp : s.Pushed f t) (h : s.Inv) : t.Inv := by
  have hb := h.bound
  cases hp with
  | kept hs =>
    refine h.withFrames _ ?_
    simp only [State.pushSpills, Bool.or_eq_false_iff, beq_eq_false_iff_ne, ne_eq] at hs
    simp only [List.length_append, List.length_cons, List.length_nil]
    omega
  | itself hs hc => exact h.pokeWords _ _
  | spilled old rest hs hc hi =>
    refine (h.pokeWords _ _).withFrames _ ?_
    rw [hc] at hb
    simpa using hb

theorem State.Inv.enterFrame {s : State} (h : s.Inv) (pfp fp target : Word) : (s.enterFrame pfp fp target).Inv :=
  (((((h.pokeWords fp (newSaveArea s.free)).withLocals (newLocals s.free pfp (fp + 64))).withGlobals
    (s.globals.set 15 (.val fp))).withFrames _ h.bound).withFree (s.free + 1)).jump target

theorem doCall_inv (rip : Slot) (target : Word) (rt : BitVec 3) (base : Word) {s : State} (h : s.Inv) :
    M.Leads State.Inv (doCall rip target rt base) s := by
  rcases doCall_cases rip target rt base s with ⟨t, hp, e⟩ | ⟨x, e, -⟩
  · exact M.leads_of_ok e ((hp.inv h).enterFrame _ _ _)
  · exact M.leads_of_error e h

theorem State.Popped.inv {s t : State} {a : Word} (hp : s.Popped a t) (h : s.Inv) : t.Inv := by
  cases hp with
  | cached f hl hf =>
    refine (h.withLocals _).withFrames _ ?_
    have := h.bound
    simp only [List.length_dropLast]; omega
  | loaded hc => exact h.withLocals _

theorem returnToFrame_inv {s : State} (h : s.Inv) : M.Leads State.Inv returnToFrame s := by
  rcases returnToFrame_cases s with ⟨t, hp, e⟩ | ⟨x, e, -⟩
  · have ht := hp.inv h
    exact M.leads_of_ok e (((ht.withGlobals _).withFrames _ ht.bound).jump _)
  · exact M.leads_of_error e h

theorem State.Inv.faultStored {s : State} (h : s.Inv) (n sub : BitVec 8) (ip : Slot) (d sw : Bool) :
    (s.faultStored n sub ip d sw).Inv := by
  simp only [State.faultStored]
  split
  · have := h.pokeWords (s.faultStack sw)
      (faultRecord s.free (if d then pcSetTfp s.pc true else s.pc) s.ac (faultTypeWord n sub) ip)
    exact this.setPcNow _ (this.handlerPc_legal _ _)
  · exact h.pokeWords _ _

theorem faultCall_inv (n sub : BitVec 8) (rip ip : Slot) (d : Bool) {s : State} (h : s.Inv) :
    M.Leads State.Inv (faultCall n sub rip ip d) s := by
  rcases faultCall_cases n sub rip ip d s with ⟨target, sw, -, e⟩ | ⟨x, e, -⟩
  · have := doCall_inv rip target 1 (s.faultStack sw + Config.faultRecordBytes) (h.faultStored n sub ip d sw)
    exact ⟨fun b u k => this.1 b u (e ▸ k), fun b u k => this.2 b u (e ▸ k)⟩
  · exact M.leads_of_error e h

theorem State.Inv.interruptStored {s : State} (h : s.Inv) (v : Byte) : (s.interruptStored v).Inv :=
  have := h.pokeWords s.interruptStack [.val s.pc, .val s.ac, .val (v.zeroExtend 32), .free s.free (Site.record 0)]
  (this.setPcNow _ (pcForInterrupt_legal _ _ this.pcLegal_eq)).withIntr _

theorem interruptCall_inv (v : Byte) (target : Word) {s : State} (h : s.Inv) :
    M.Leads State.Inv (interruptCall v target) s := by
  rcases interruptCall_cases v target s with e | ⟨x, e, -⟩
  · have : M.Leads State.Inv (doCall (.val s.ip) target 7 (s.interruptStack + 16) >>= fun _ => pure (s.interruptStack + 16))
        (s.interruptStored v) :=
      M.leads_bind (doCall_inv _ _ _ _ (h.interruptStored v)) fun _ _ ht => M.leads_pure _ ht
    exact ⟨fun b u k => this.1 b u (e ▸ k), fun b u k => this.2 b u (e ▸ k)⟩
  · exact M.leads_of_error e h

/-- A fault of an instruction (60_exceptions R640). -/
theorem faulted_inv (ip len : Word) (k : FaultKind) {s : State} (h : s.Inv) : M.Leads State.Inv (faulted ip len k) s :=
  M.leads_get_bind (M.leads_bind (M.leads_set _ ((h.signal _).retire _)) fun _ _ ht => faultCall_inv _ _ _ _ _ ht)

/-- The delivery of an interrupt (60_exceptions R682 to R693). -/
theorem deliver_inv (src : Source) {s : State} (h : s.Inv) : M.Leads State.Inv (deliver src) s := by
  cases src with
  | nmi =>
    exact M.leads_get_bind (M.leads_bind (M.leads_set _ (h.withIntr _)) fun _ _ ht =>
      M.leads_bind (interruptCall_inv _ _ ht) fun _ _ hu => M.leads_modify _ (hu.withIntr _))
  | hardware r =>
    have call : ∀ target t, t.Inv → M.Leads State.Inv (interruptCall r.vector target >>= fun _ =>
        if s.intr.icon.getLsbD (if r.dedicated then 11 else 12) then
          modify (fun t => (t.setReg 3 s.intr.imsk).withIntr { t.intr with imsk := 0 }) else pure ()) t :=
      fun target t ht => M.leads_bind (interruptCall_inv _ _ ht) fun _ v hv =>
        M.leads_ite (fun _ => M.leads_modify _ ((hv.setSlot _ _).withIntr _)) fun _ => M.leads_pure _ hv
    have clear : ∀ target t, t.Inv → M.Leads State.Inv (if s.intr.clearsPending r then
        (modify (fun t => t.withIntr { t.intr with ipnd := t.intr.ipnd &&& ~~~bitWord r.bit }) : M Unit) >>= fun _ =>
          interruptCall r.vector target >>= fun _ =>
          if s.intr.icon.getLsbD (if r.dedicated then 11 else 12) then
            modify (fun t => (t.setReg 3 s.intr.imsk).withIntr { t.intr with imsk := 0 }) else pure ()
        else interruptCall r.vector target >>= fun _ =>
          if s.intr.icon.getLsbD (if r.dedicated then 11 else 12) then
            modify (fun t => (t.setReg 3 s.intr.imsk).withIntr { t.intr with imsk := 0 }) else pure ()) t :=
      fun target t ht => M.leads_ite
        (fun _ => M.leads_bind (M.leads_modify _ (ht.withIntr _)) fun _ u hu => call target u hu) fun _ => call target t ht
    exact M.leads_get_bind (M.leads_ite (fun _ => M.leads_bind (M.leads_pure _ h) clear) fun _ =>
      M.leads_bind ((vectorEntry_looks _ s).leads h) clear)
  | software =>
    refine M.leads_get_bind (M.leads_bind ((readImplicit_looks _ _ s).leads h) fun pend t ht => ?_)
    cases topBit pend 32 with
    | none => exact M.leads_modify _ (ht.withIntr _)
    | some p =>
      have hc : M.Looks (checkImplicit (s.tables.interrupt + 4 + BitVec.ofNat 32 p) 1) t := by
        rcases checkImplicit_cases (s.tables.interrupt + 4 + BitVec.ofNat 32 p) 1 t with e | e
        · exact Or.inl ⟨_, e⟩
        · exact Or.inr e
      refine M.leads_bind (hc.leads ht) fun _ u hu => ?_
      dsimp only
      cases topBit (BitVec.zeroExtend 32 (s.peek8 false (s.tables.interrupt + 4 + BitVec.ofNat 32 p))) 8 with
      | none => exact M.leads_modify _ (hu.withIntr _)
      | some k =>
        exact M.leads_bind (M.leads_modify _ (hu.poke8 _ _)) fun _ _ h1 =>
          M.leads_bind (writeImplicit_inv _ _ _ h1) fun _ _ h2 =>
          M.leads_bind (M.leads_modify _ (h2.withIntr _)) fun _ v h3 =>
          M.leads_bind ((vectorEntry_looks _ v).leads h3) fun _ _ h4 =>
          M.leads_bind (interruptCall_inv _ _ h4) fun _ _ h5 => M.leads_pure _ h5

theorem checkPending_inv {s : State} (h : s.Inv) : M.Leads State.Inv checkPending s := by
  refine M.leads_get_bind ?_
  cases s.pendingSource with
  | none => exact M.leads_pure _ h
  | some src => exact deliver_inv src h

/-- The completion of an instruction of one or two words (10_state R34; 60_exceptions R701, R703, R680). -/
theorem complete_inv (ip len : Word) (on : Bool) (d : Done) (hl : len.extractLsb' 0 2 = 0#2) {s : State} (h : s.Inv) :
    M.Leads State.Inv (complete ip len on d) s := by
  have hi : s.ip.extractLsb' 0 2 = 0#2 := by simpa [State.ipAligned] using h.2.1
  have poll : ∀ v : State, v.Inv → M.Leads State.Inv (if d.poll then checkPending else pure ()) v :=
    fun v hv => M.leads_ite (fun _ => checkPending_inv hv) fun _ => M.leads_pure _ hv
  refine M.leads_bind (M.leads_modify _ ?_) fun _ t ht => M.leads_get_bind (M.leads_bind
    (M.leads_set _ (ht.retire _)) fun _ u hu => ?_)
  · split
    · exact h
    · exact h.withIp _ (wordAligned_add _ _ hi hl)
  · refine M.leads_ite
      (fun _ => M.leads_bind (M.leads_modify _ (hu.withPc _ (pcSetTfp_legal _ _ hu.pcLegal_eq))) fun _ v hv => ?_)
      fun _ => ?_
    · exact M.leads_ite
        (fun _ => M.leads_bind (M.leads_modify _ (hv.signal _)) fun _ _ hx =>
          M.leads_bind (faultCall_inv _ _ _ _ _ hx) fun _ => poll)
        fun _ => M.leads_ite (fun _ => M.leads_bind (faultCall_inv _ _ _ _ _ hv) fun _ => poll) fun _ => poll v hv
    · exact M.leads_ite
        (fun _ => M.leads_bind (M.leads_modify _ (hu.signal _)) fun _ _ hx =>
          M.leads_bind (faultCall_inv _ _ _ _ _ hx) fun _ => poll)
        fun _ => M.leads_ite (fun _ => M.leads_bind (faultCall_inv _ _ _ _ _ hu) fun _ => poll) fun _ => poll u hu

/-- An instruction of one or two words whose action leads to the invariant leads to it. -/
theorem run_inv {len : Word} {action : M Done} {s t : State} (hl : len.extractLsb' 0 2 = 0#2)
    (ha : M.Leads State.Inv action s) (e : run len action s = .next t) : t.Inv := by
  unfold run at e
  split at e
  · rename_i d u hu; exact (complete_inv s.ip len _ d hl (ha.1 _ _ hu)).next e
  · rename_i k u hu; exact (faulted_inv s.ip len k (ha.2 _ _ hu)).next e
  all_goals cases e

end Sys2Proof.Machine
end

