-- ==== Sys2Proof/Tests/Slice0.lean ====
section
/-! SUPPORT. Tests: ill-formed terms, decoding, one step of the instructions on the vectors of spec/95_test_vectors.md and
spec/96_derived_vectors.md, and a witness for the premises of every obligation that has some. -/

namespace Sys2Proof.Tests

open Sys2Proof Sys2Proof.Machine

set_option Elab.async false

/-! Well-formedness. -/

/-- A CTRL displacement whose low two bits are not 0 is ill formed (30_encoding R146). -/
theorem test_ill_formed_ctrl : ∀ f ∈ [Instr.b, .bal, .call, .bno, .bg, .be, .bge, .bl, .bne, .ble, .bo],
    (f 1).wellFormed = false ∧ (f 2).wellFormed = false ∧ (f 0xFFFFFE).wellFormed = false ∧
      (f 0xFFFFFC).wellFormed = true := by decide

/-- A COBR displacement whose low two bits are not 0 is ill formed (30_encoding R145). -/
theorem test_ill_formed_cobr : ∀ f ∈ [Instr.bbc, .bbs, .cmpobg, .cmpobe, .cmpobge, .cmpobl, .cmpobne, .cmpoble, .cmpibno,
    .cmpibg, .cmpibe, .cmpibge, .cmpibl, .cmpibne, .cmpible, .cmpibo],
    (f (.lit 31) 31 1).wellFormed = false ∧ (f (.reg 3) 4 2).wellFormed = false ∧
      (f (.reg 3) 4 0x1FFC).wellFormed = true := by decide

/-! Decoding. The words are written out from the formats of spec/30_encoding.md (R144 to R152) and the opcodes of
spec/opcode_table.json, one or more for every constructor; operand fields hold different values. -/

/-- The words decode to the instruction, and encode writes them. -/
def decodesAs (w0 w1 : Word) (i : Instr) : Bool :=
  (decode w0 w1 == .ok i) && (encode i == (w0, if needsSecondWord w0 then some w1 else none))

theorem test_decode_mem : ∀ p ∈ ([
    (0x90D80DB6, 0x0, .ld (.absOffset 0xDB6) 27), (0x804C6DAF, 0x0, .ldob (.indOffset 17 0xDAF) 9), (0x88B21000,
    0x0, .ldos (.indirect 8) 22), (0xC0381400, 0x4DABB481, .ldib (.ipDisp 0x4DABB481) 7), (0xC8795C14, 0x0, .ldis
    (.indIndex 5 20 .x1) 15), (0x98B03000, 0x28518867, .ldl (.absDisp 0x28518867) 22), (0xA020F400, 0xF3EBDD3, .ldt
    (.indDisp 3 0xF3EBDD3) 4), (0xB0883A0A, 0xC7321CC0, .ldq (.indexDisp 10 .x16 0xC7321CC0) 17), (0x8C9B7E11,
    0x320094EA, .lda (.indIndexDisp 13 17 .x16 0x320094EA) 19), (0x92F00669, 0x0, .st 30 (.absOffset 0x669)),
    (0x82F32F55, 0x0, .stob 30 (.indOffset 12 0xF55)), (0x8A261000, 0x0, .stos 4 (.indirect 24)), (0xC2A81400,
    0x12B2A414, .stib 21 (.ipDisp 0x12B2A414)), (0xCA65DD09, 0x0, .stis 12 (.indIndex 23 9 .x4)), (0x9A303000,
    0xEC3FBF4D, .stl 6 (.absDisp 0xEC3FBF4D)), (0xA289F400, 0xF552C94, .stt 17 (.indDisp 7 0xF552C94)), (0xB2483892,
    0x8F2DF760, .stq 9 (.indexDisp 18 .x2 0x8F2DF760)), (0x84027C1C, 0x1B2E2CD7, .bx (.indIndexDisp 9 28 .x1
    0x1B2E2CD7)), (0x85A8083D, 0x0, .balx (.absOffset 0x83D) 21), (0x86066C3F, 0x0, .callx (.indOffset 25 0xC3F))] :
    List (Word × Word × Instr)), decodesAs p.1 p.2.1 p.2.2 = true := by decide

theorem test_decode_reg_1 : ∀ p ∈ ([
    (0x5C600E0A, 0x0, .mov (.lit 10) 12), (0x5D880E18, 0x0, .movl (.lit 24) 17), (0x5E280E14, 0x0, .movt (.lit 20)
    5), (0x5F980E1B, 0x0, .movq (.lit 27) 19), (0x784CD211, 0x0, .selno (.reg 17) (.lit 19) 9), (0x7933DA17, 0x0,
    .selg (.lit 23) (.lit 15) 6), (0x7A58CA09, 0x0, .sele (.lit 9) (.reg 3) 11), (0x7B7A0209, 0x0, .selge (.reg 9)
    (.reg 8) 15), (0x7C8A4A07, 0x0, .sell (.lit 7) (.reg 9) 17), (0x7D6D9A1B, 0x0, .selne (.lit 27) (.lit 22) 13),
    (0x7E294205, 0x0, .selle (.reg 5) (.reg 5) 5), (0x7F759A03, 0x0, .selo (.lit 3) (.lit 22) 14), (0x78955007, 0x0,
    .addono (.reg 7) (.lit 21) 18), (0x793DC808, 0x0, .addog (.lit 8) (.reg 23) 7), (0x7A55801D, 0x0, .addoe (.reg
    29) (.reg 22) 10), (0x7BA5D01A, 0x0, .addoge (.reg 26) (.lit 23) 20), (0x7C2D8812, 0x0, .addol (.lit 18) (.reg
    22) 5), (0x7D218806, 0x0, .addone (.lit 6) (.reg 6) 4), (0x7E7E581A, 0x0, .addole (.lit 26) (.lit 25) 15),
    (0x7F95881D, 0x0, .addoo (.lit 29) (.reg 22) 18), (0x7839509A, 0x0, .addino (.reg 26) (.lit 5) 7), (0x79F5D094,
    0x0, .addig (.reg 20) (.lit 23) 30), (0x7AD24089, 0x0, .addie (.reg 9) (.reg 9) 26), (0x7B8C008B, 0x0, .addige
    (.reg 11) (.reg 16) 17)] :
    List (Word × Word × Instr)), decodesAs p.1 p.2.1 p.2.2 = true := by decide

theorem test_decode_reg_2 : ∀ p ∈ ([
    (0x7C620884, 0x0, .addil (.lit 4) (.reg 8) 12), (0x7D3B9885, 0x0, .addine (.lit 5) (.lit 14) 7), (0x7ECE8098,
    0x0, .addile (.reg 24) (.reg 26) 25), (0x7F748883, 0x0, .addio (.lit 3) (.reg 18) 14), (0x5BBD9003, 0x0, .addc
    (.reg 3) (.lit 22) 23), (0x59668805, 0x0, .addo (.lit 5) (.reg 26) 12), (0x59894885, 0x0, .addi (.lit 5) (.reg
    5) 17), (0x78CE911A, 0x0, .subono (.reg 26) (.lit 26) 25), (0x79C1490E, 0x0, .subog (.lit 14) (.reg 5) 24),
    (0x7A87911E, 0x0, .suboe (.reg 30) (.lit 30) 16), (0x7BB0D915, 0x0, .suboge (.lit 21) (.lit 3) 22), (0x7CB0C115,
    0x0, .subol (.reg 21) (.reg 3) 22), (0x7D35D905, 0x0, .subone (.lit 5) (.lit 23) 6), (0x7E7B591A, 0x0, .subole
    (.lit 26) (.lit 13) 15), (0x7FA74111, 0x0, .suboo (.reg 17) (.reg 29) 20), (0x782D898C, 0x0, .subino (.lit 12)
    (.reg 22) 5), (0x7936598A, 0x0, .subig (.lit 10) (.lit 25) 6), (0x7A70C98B, 0x0, .subie (.lit 11) (.reg 3) 14),
    (0x7B4D9198, 0x0, .subige (.reg 24) (.lit 22) 9), (0x7C945198, 0x0, .subil (.reg 24) (.lit 17) 18), (0x7D5E118F,
    0x0, .subine (.reg 15) (.lit 24) 11), (0x7EDF019C, 0x0, .subile (.reg 28) (.reg 28) 27), (0x7FAA898F, 0x0,
    .subio (.lit 15) (.reg 10) 21), (0x5B91C907, 0x0, .subc (.lit 7) (.reg 7) 18)] :
    List (Word × Word × Instr)), decodesAs p.1 p.2.1 p.2.2 = true := by decide

theorem test_decode_reg_3 : ∀ p ∈ ([
    (0x59594119, 0x0, .subo (.reg 25) (.reg 5) 11), (0x595C9191, 0x0, .subi (.reg 17) (.lit 18) 11), (0x709DD88F,
    0x0, .mulo (.lit 15) (.lit 23) 19), (0x74EF5899, 0x0, .muli (.lit 25) (.lit 29) 29), (0x70274D85, 0x0, .divo
    (.lit 5) (.reg 29) 4), (0x745E5D98, 0x0, .divi (.lit 24) (.lit 25) 11), (0x70AF0417, 0x0, .remo (.reg 23) (.reg
    28) 21), (0x744C540F, 0x0, .remi (.reg 15) (.lit 17) 9), (0x743EC48A, 0x0, .modi (.reg 10) (.reg 27) 7),
    (0x67B98811, 0x0, .emul (.lit 17) (.reg 6) 23), (0x674A5898, 0x0, .ediv (.lit 24) (.lit 9) 9), (0x591E4E08, 0x0,
    .shlo (.lit 8) (.reg 25) 3), (0x595A8C08, 0x0, .shro (.lit 8) (.reg 10) 11), (0x59E7870F, 0x0, .shli (.reg 15)
    (.reg 30) 28), (0x597E9590, 0x0, .shri (.reg 16) (.lit 26) 15), (0x59BA5511, 0x0, .shrdi (.reg 17) (.lit 9) 23),
    (0x59BD5E94, 0x0, .rotate (.lit 20) (.lit 21) 23), (0x5D4DC40D, 0x0, .eshro (.reg 13) (.reg 23) 9), (0x587A9789,
    0x0, .alterbit (.reg 9) (.lit 10) 15), (0x586F0894, 0x0, .and (.lit 20) (.reg 28) 13), (0x582CD10E, 0x0, .andnot
    (.reg 14) (.lit 19) 5), (0x5A800E8D, 0x0, .bswap (.lit 13) 16), (0x5A025703, 0x0, .chkbit (.reg 3) (.lit 9)),
    (0x58410E1C, 0x0, .clrbit (.lit 28) (.reg 4) 8)] :
    List (Word × Word × Instr)), decodesAs p.1 p.2.1 p.2.2 = true := by decide

theorem test_decode_reg_4 : ∀ p ∈ ([
    (0x6599D892, 0x0, .extract (.lit 18) (.lit 7) 19), (0x652E5015, 0x0, .modify (.reg 21) (.lit 25) 5),
    (0x58651713, 0x0, .nand (.reg 19) (.lit 20) 12), (0x587E140C, 0x0, .nor (.reg 12) (.lit 24) 15), (0x58A00D1E,
    0x0, .not (.lit 30) 20), (0x58A40209, 0x0, .notand (.reg 9) (.reg 16) 20), (0x581BD016, 0x0, .notbit (.reg 22)
    (.lit 15) 3), (0x58AF1694, 0x0, .notor (.reg 20) (.lit 28) 21), (0x58465385, 0x0, .or (.reg 5) (.lit 25) 8),
    (0x587F0D90, 0x0, .ornot (.lit 16) (.reg 28) 15), (0x64380892, 0x0, .scanbit (.lit 18) 7), (0x5A048E1D, 0x0,
    .scanbyte (.lit 29) (.reg 18)), (0x58B41189, 0x0, .setbit (.reg 9) (.lit 16) 22), (0x64D80007, 0x0, .spanbit
    (.reg 7) 27), (0x5851D489, 0x0, .xnor (.reg 9) (.lit 7) 10), (0x5876930D, 0x0, .xor (.reg 13) (.lit 26) 14),
    (0x5A049006, 0x0, .cmpo (.reg 6) (.lit 18)), (0x5A024899, 0x0, .cmpi (.lit 25) (.reg 9)), (0x5905C20F, 0x0,
    .cmpob (.reg 15) (.reg 23)), (0x5905C29E, 0x0, .cmpib (.reg 30) (.reg 23)), (0x5905031E, 0x0, .cmpos (.reg 30)
    (.reg 20)), (0x5905CB9A, 0x0, .cmpis (.lit 26) (.reg 23)), (0x5A6D830D, 0x0, .cmpdeco (.reg 13) (.reg 22) 13),
    (0x5A32439B, 0x0, .cmpdeci (.reg 27) (.reg 9) 6)] :
    List (Word × Word × Instr)), decodesAs p.1 p.2.1 p.2.2 = true := by decide

theorem test_decode_reg_5 : ∀ p ∈ ([
    (0x5A2E9A07, 0x0, .cmpinco (.lit 7) (.lit 26) 5), (0x5AEC0A86, 0x0, .cmpinci (.lit 6) (.reg 16) 29),
    (0x5A03C109, 0x0, .concmpo (.reg 9) (.reg 15)), (0x5A055989, 0x0, .concmpi (.lit 9) (.lit 21)), (0x66000009,
    0x0, .calls (.reg 9)), (0x66000680, 0x0, .flushreg), (0x66000580, 0x0, .mark), (0x66000600, 0x0, .fmark),
    (0x66000780, 0x0, .syncf), (0x61BC8113, 0x0, .atadd (.reg 19) (.reg 18) 23), (0x61ABC01B, 0x0, .atmod (.reg 27)
    (.reg 15) 21), (0x65D19616, 0x0, .dcctl (.reg 22) (.lit 6) 26), (0x65000691, 0x0, .halt (.reg 17)), (0x651BD597,
    0x0, .icctl (.reg 23) (.lit 15) 3), (0x65680C0B, 0x0, .intctl (.lit 11) 13), (0x5B000200, 0x0, .intdis),
    (0x5B000280, 0x0, .inten), (0x64A4929E, 0x0, .modac (.reg 30) (.lit 18) 20), (0x65641A92, 0x0, .modpc (.lit 18)
    (.lit 16) 12), (0x6564DA0E, 0x0, .modtc (.lit 14) (.lit 19) 12), (0x65C30C94, 0x0, .sysctl (.lit 20) (.reg 12)
    24)] :
    List (Word × Word × Instr)), decodesAs p.1 p.2.1 p.2.2 = true := by decide

theorem test_decode_cobr : ∀ p ∈ ([
    (0x20300000, 0x0, .testno 6), (0x21C80000, 0x0, .testg 25), (0x22980000, 0x0, .teste 19), (0x23B80000, 0x0,
    .testge 23), (0x24D80000, 0x0, .testl 27), (0x25680000, 0x0, .testne 13), (0x26980000, 0x0, .testle 19),
    (0x27C00000, 0x0, .testo 24), (0x3091C5E8, 0x0, .bbc (.reg 18) 7 0x5E8), (0x37325AE4, 0x0, .bbs (.reg 6) 9
    0x1AE4), (0x313E227C, 0x0, .cmpobg (.lit 7) 24 0x27C), (0x32D9AC84, 0x0, .cmpobe (.lit 27) 6 0xC84),
    (0x338C2DC4, 0x0, .cmpobge (.lit 17) 16 0xDC4), (0x344DA070, 0x0, .cmpobl (.lit 9) 22 0x70), (0x35BE5B08, 0x0,
    .cmpobne (.reg 23) 25 0x1B08), (0x364A2E88, 0x0, .cmpoble (.lit 9) 8 0xE88), (0x3876ACFC, 0x0, .cmpibno (.lit
    14) 26 0xCFC), (0x394D830C, 0x0, .cmpibg (.reg 9) 22 0x30C), (0x3A9F0A5C, 0x0, .cmpibe (.reg 19) 28 0xA5C),
    (0x3B2F323C, 0x0, .cmpibge (.lit 5) 28 0x123C), (0x3CB279C4, 0x0, .cmpibl (.lit 22) 9 0x19C4), (0x3DDAFD2C, 0x0,
    .cmpibne (.lit 27) 11 0x1D2C), (0x3E369A14, 0x0, .cmpible (.reg 6) 26 0x1A14), (0x3F79FC28, 0x0, .cmpibo (.lit
    15) 7 0x1C28)] :
    List (Word × Word × Instr)), decodesAs p.1 p.2.1 p.2.2 = true := by decide

theorem test_decode_ctrl : ∀ p ∈ ([
    (0x08D53C28, 0x0, .b 0xD53C28), (0x0B099568, 0x0, .bal 0x99568), (0x1028747C, 0x0, .bno 0x28747C), (0x11FD8468,
    0x0, .bg 0xFD8468), (0x124878E4, 0x0, .be 0x4878E4), (0x13ED48D4, 0x0, .bge 0xED48D4), (0x14AC45A8, 0x0, .bl
    0xAC45A8), (0x15186214, 0x0, .bne 0x186214), (0x16946C64, 0x0, .ble 0x946C64), (0x170FDBA4, 0x0, .bo 0xFDBA4),
    (0x0989F3A4, 0x0, .call 0x89F3A4), (0x0A000000, 0x0, .ret), (0x18000000, 0x0, .faultno), (0x19000000, 0x0,
    .faultg), (0x1A000000, 0x0, .faulte), (0x1B000000, 0x0, .faultge), (0x1C000000, 0x0, .faultl), (0x1D000000, 0x0,
    .faultne), (0x1E000000, 0x0, .faultle), (0x1F000000, 0x0, .faulto)] :
    List (Word × Word × Instr)), decodesAs p.1 p.2.1 p.2.2 = true := by decide

/-- The words that spec/96_derived_vectors.md lists as undefined encodings:
E26, E27, E28, E29, E30, E31, E33, E34, E35, E36, E37, E38, E39, E40. -/
theorem test_decode_refuses : ∀ w ∈ [0x00000000, 0x28000000, 0x0C000000, 0x5C202610, 0x5C200630, 0x59314784, 0x24C82000, 0x3E00FFF1, 0x08000015,
    0x90A41913, 0x90A41E93, 0x90A41D33, 0xD0000000, 0xFFFFFFFF],
    (match decode (BitVec.ofNat 32 w) 0 with | .ok _ => false | .error _ => true) = true := by decide

/-- E12 and E16 of spec/96_derived_vectors.md: the T bit and unused fields are ignored. -/
theorem test_decode_ignores : decode 0x24C80002 0 = .ok (.testl 25) ∧ decode 0x0A123454 0 = .ok .ret := by decide

/-- The words in memory order, as the opcode table numbers the bits. -/
theorem test_decode_table_word : decodeTableWord 32 0x591C4981 = some (.subi (.lit 1) (.reg 17) 3) ∧
    decodeTableWord 64 0x3092913D03 = some (.st 18 (.indIndexDisp 4 3 .x4 0x30)) ∧
    decodeTableWord 32 0x28000000 = none := by decide

/-! One step. -/

/-- One vector: the words at 1000H, the state before and what is looked at after it. -/
structure Vec where
  w0 : Nat
  w1 : Nat := 0
  be : Bool := false
  pc : Word := 0x001F2002
  regs : List (RegNum × Word) := []
  ac : Word := 0
  mem : List (Nat × List Byte) := []
  out : List (RegNum × Word) := []
  acOut : Word := 0
  pcOut : Word := 0x001F2002
  ip : Word := 0x1004
  memOut : List (Nat × List Byte) := []

/-- Registers set, FP 8000H and SP 8040H unless they are given. -/
def withRegs (s : State) (regs : List (RegNum × Word)) : State :=
  regs.foldl (fun t p => t.setReg p.1 p.2) ((s.setReg 31 0x8000).setReg 1 0x8040)

/-- Bytes set from an address up. -/
def withBytes (m : Memory) (a : Nat) : List Byte → Memory
  | [] => m
  | b :: rest => withBytes (m.put a (.val b)) (a + 1) rest

/-- `State.reset` with unaligned faults masked, the SSP of program P8 and the state of the vector. -/
def Vec.start (v : Vec) : State :=
  let s := ((((withRegs State.reset v.regs).withAc v.ac).withPc v.pc).withUnalignedMasked true)
  let s := s.withTables { s.tables with ssp := 0x6000 }
  let s := s.withConfig { s.config with dlmcon := if v.be then 1 else 0 }
  let s := s.withMem (v.mem.foldl (fun m p => withBytes m p.1 p.2) s.mem)
  (s.withFrames { s.frames with pfpDirty := false }).withFetchWord 64 (v.w0 + 2 ^ 32 * v.w1)

/-- Bytes from an address up. -/
def bytesAre (m : Memory) (a : Nat) : List Byte → Bool
  | [] => true
  | b :: rest => m.read a == b && bytesAre m (a + 1) rest

/-- The step ends in the state the vector says. -/
def Vec.holds (v : Vec) : Bool :=
  match step v.start with
  | .next t => v.out.all (fun p => t.reg p.1 == p.2) && t.ac == v.acOut && t.pc == v.pcOut && t.ip == v.ip &&
      v.memOut.all (fun p => bytesAre t.mem p.1 p.2)
  | .fault _ => false
  | .refused _ => false

/-- spec/95_test_vectors.md and spec/96_derived_vectors.md: V23, V32, V10, V28, V26, V14, S45, V37, V34, V12, V36,
S46, V18, V17, S52, V65. -/
theorem test_data_movement_vectors_1 : ∀ v ∈ ([
    { w0 := 0x90292014, regs := [(4, 0x2040)], mem := [(0x2054, [0x44, 0x33, 0x22, 0x11])], out := [(5, 0x11223344)]
      },
    { w0 := 0x90222004, be := true, regs := [(8, 0x3000)], mem := [(0x3000, [0x80, 0x91, 0xA2, 0xB3, 0xC4, 0xD5,
      0xE6, 0xF7, 0x8, 0x19, 0x2A, 0x3B, 0x4C, 0x5D, 0x6E, 0x7F])], out := [(4, 0xC4D5E6F7)] },
    { w0 := 0x8020E000, regs := [(3, 0x3001)], mem := [(0x3000, [0x11, 0xE2, 0x33, 0x44])], out := [(4, 0xE2)] },
    { w0 := 0x88222002, regs := [(8, 0x3000)], mem := [(0x3000, [0x80, 0x91, 0xA2, 0xB3, 0xC4, 0xD5, 0xE6, 0xF7,
      0x8, 0x19, 0x2A, 0x3B, 0x4C, 0x5D, 0x6E, 0x7F])], out := [(4, 0xB3A2)] },
    { w0 := 0xC0222000, regs := [(8, 0x3000)], mem := [(0x3000, [0x80, 0x91, 0xA2, 0xB3, 0xC4, 0xD5, 0xE6, 0xF7,
      0x8, 0x19, 0x2A, 0x3B, 0x4C, 0x5D, 0x6E, 0x7F])], out := [(4, 0xFFFFFF80)] },
    { w0 := 0xC868380C, w1 := 0x2000, regs := [(12, 0x2)], mem := [(0x2003, [0x80])], out := [(13, 0xFFFF8000)], ip
      := 0x1008 },
    { w0 := 0x9850E992, regs := [(3, 0x266E)], mem := [(0x3000, [0x44, 0x33, 0x22, 0x11, 0x88, 0x77, 0x66, 0x55])],
      out := [(10, 0x11223344), (11, 0x55667788)] },
    { w0 := 0x982A2000, regs := [(8, 0x3000)], mem := [(0x3000, [0x80, 0x91, 0xA2, 0xB3, 0xC4, 0xD5, 0xE6, 0xF7,
      0x8, 0x19, 0x2A, 0x3B, 0x4C, 0x5D, 0x6E, 0x7F])], out := [(0, 0x8001), (31, 0x8070)], ip := 0x0, memOut :=
      [(0x8064, [0x0, 0x0, 0x0, 0x0, 0x4, 0x0, 0x2, 0x0, 0x0, 0x10, 0x0, 0x0])] },
    { w0 := 0xA0222000, regs := [(8, 0x3000)], mem := [(0x3000, [0x80, 0x91, 0xA2, 0xB3, 0xC4, 0xD5, 0xE6, 0xF7,
      0x8, 0x19, 0x2A, 0x3B, 0x4C, 0x5D, 0x6E, 0x7F])], out := [(4, 0xB3A29180), (5, 0xF7E6D5C4), (6, 0x3B2A1908)] },
    { w0 := 0xB0221D09, regs := [(8, 0x3000), (9, 0x4)], mem := [(0x3010, [0x1]), (0x3014, [0x2]), (0x3018, [0x3]),
      (0x301C, [0x4])], out := [(4, 0x1), (5, 0x2), (6, 0x3), (7, 0x4)] },
    { w0 := 0xB0222000, be := true, regs := [(8, 0x3000)], mem := [(0x3000, [0x80, 0x91, 0xA2, 0xB3, 0xC4, 0xD5,
      0xE6, 0xF7, 0x8, 0x19, 0x2A, 0x3B, 0x4C, 0x5D, 0x6E, 0x7F])], out := [(4, 0x8091A2B3), (5, 0xC4D5E6F7), (6,
      0x8192A3B), (7, 0x4C5D6E7F)] },
    { w0 := 0x8C8E603A, regs := [(25, 0x1000)], out := [(17, 0x103A)] },
    { w0 := 0x5C200601, regs := [(1, 0x2040), (4, 0x99)], out := [(4, 0x2040)] },
    { w0 := 0x5DC00614, regs := [(19, 0x1), (20, 0x2), (21, 0x3), (24, 0x8), (25, 0x9)], out := [(24, 0x2), (25,
      0x3)] },
    { w0 := 0x5E200618, regs := [(24, 0x1), (25, 0x2), (26, 0x3)], out := [(4, 0x1), (5, 0x2), (6, 0x3)] },
    { w0 := 0x5FA00604, regs := [(4, 0x1), (5, 0x2), (6, 0x3), (7, 0x4)], out := [(20, 0x1), (21, 0x2), (22, 0x3),
      (23, 0x4)] }] : List Vec), v.holds = true := by decide +kernel

/-- spec/95_test_vectors.md and spec/96_derived_vectors.md: V9, V45, V42, V43, V50, V51, V54, V11, V47, V48, V72,
S66, S67, V68, V74. -/
theorem test_data_movement_vectors_2 : ∀ v ∈ ([
    { w0 := 0x92A03000, w1 := 0x2000, regs := [(20, 0xCAFE0001)], ip := 0x1008, memOut := [(0x2000, [0x1, 0x0, 0xFE,
      0xCA])] },
    { w0 := 0x92822000, be := true, regs := [(8, 0x3000), (16, 0x12345678)], memOut := [(0x3000, [0x12, 0x34, 0x56,
      0x78])] },
    { w0 := 0x82822000, regs := [(8, 0x3000), (16, 0x12345678)], memOut := [(0x3000, [0x78, 0x0, 0x0, 0x0])] },
    { w0 := 0x8A822000, regs := [(8, 0x3000), (16, 0x12345678)], memOut := [(0x3000, [0x78, 0x56, 0x0, 0x0])] },
    { w0 := 0xC2822000, regs := [(8, 0x3000), (16, 0xFFFFFF80)], memOut := [(0x3000, [0x80, 0x0, 0x0, 0x0])] },
    { w0 := 0xC2822000, regs := [(8, 0x3000), (16, 0x180)], out := [(0, 0x8001), (31, 0x8070)], ip := 0x0, memOut :=
      [(0x3000, [0x80, 0x0, 0x0, 0x0]), (0x8064, [0x0, 0x0, 0x0, 0x0, 0x1, 0x0, 0x3, 0x0, 0x0, 0x10, 0x0, 0x0])] },
    { w0 := 0xCA822000, regs := [(8, 0x3000), (16, 0xFFFF7FFF)], memOut := [(0x3000, [0xFF, 0x7F, 0x0, 0x0])] },
    { w0 := 0x9AB57400, w1 := 0x2000, regs := [(21, 0x100), (22, 0x11111111), (23, 0x22222222)], ip := 0x1008,
      memOut := [(0x2100, [0x11, 0x11, 0x11, 0x11, 0x22, 0x22, 0x22, 0x22])] },
    { w0 := 0xA2822000, regs := [(8, 0x3000), (16, 0x11111111), (17, 0x22222222), (18, 0x33333333)], memOut :=
      [(0x3000, [0x11, 0x11, 0x11, 0x11, 0x22, 0x22, 0x22, 0x22, 0x33, 0x33, 0x33, 0x33])] },
    { w0 := 0xB2A22000, regs := [(8, 0x3000), (20, 0x44444444), (21, 0x55555555), (22, 0x66666666), (23,
      0x77777777)], memOut := [(0x3000, [0x44, 0x44, 0x44, 0x44, 0x55, 0x55, 0x55, 0x55, 0x66, 0x66, 0x66, 0x66, 0x77,
      0x77, 0x77, 0x77])] },
    { w0 := 0x78815A03, regs := [(16, 0x99)], out := [(16, 0x5)] },
    { w0 := 0x7A944210, regs := [(16, 0xA), (17, 0xB)], ac := 0x2, out := [(18, 0xB)], acOut := 0x2 },
    { w0 := 0x7C944210, regs := [(16, 0xA), (17, 0xB)], ac := 0x1, out := [(18, 0xA)], acOut := 0x1 },
    { w0 := 0x7D815A03, regs := [(16, 0x99)], out := [(16, 0x3)] },
    { w0 := 0x7F815A03, regs := [(16, 0x99)], out := [(16, 0x3)] }] : List Vec), v.holds = true := by decide +kernel

/-- spec/95_test_vectors.md and spec/96_derived_vectors.md: V92, V90, S8, S7, V93, S10, V85, V19, S12, V77, V96,
S73, V95, S74, S72, V22. -/
theorem test_arithmetic_vectors_1 : ∀ v ∈ ([
    { w0 := 0x78314004, regs := [(4, 0x1), (5, 0x2), (6, 0x99)], out := [(6, 0x3)] },
    { w0 := 0x7A314004, regs := [(4, 0x1), (5, 0x2), (6, 0x99)], ac := 0x2, out := [(6, 0x3)], acOut := 0x2 },
    { w0 := 0x7D520004, regs := [(4, 0x5), (8, 0x7), (10, 0x99)], ac := 0x2, acOut := 0x2 },
    { w0 := 0x79520084, regs := [(4, 0x5), (8, 0x7), (10, 0x99)], ac := 0x1, out := [(10, 0xC)], acOut := 0x1 },
    { w0 := 0x7F314084, regs := [(4, 0x7FFFFFFF), (5, 0x1), (6, 0x99)], ac := 0x1004, out := [(6, 0x80000000)],
      acOut := 0x1104 },
    { w0 := 0x5B848010, regs := [(16, 0xFFFFFFFF), (18, 0x1)], ac := 0x1, out := [(16, 0x0)], acOut := 0x2 },
    { w0 := 0x5B314004, regs := [(4, 0x7FFFFFFF), (5, 0x1)], out := [(6, 0x80000000)], acOut := 0x1 },
    { w0 := 0x59084818, regs := [(1, 0x2040)], out := [(1, 0x2058)] },
    { w0 := 0x594D4084, regs := [(4, 0xFFFFFFFE), (21, 0x5)], out := [(9, 0x3)] },
    { w0 := 0x59314084, regs := [(4, 0x7FFFFFFF), (5, 0x1)], out := [(0, 0x8001), (31, 0x8070)], ip := 0x0, memOut
      := [(0x8064, [0x0, 0x0, 0x0, 0x0, 0x1, 0x0, 0x3, 0x0, 0x0, 0x10, 0x0, 0x0])] },
    { w0 := 0x79314104, regs := [(4, 0x3), (5, 0xA), (6, 0x99)], ac := 0x1, out := [(6, 0x7)], acOut := 0x1 },
    { w0 := 0x7B944110, regs := [(16, 0x3), (17, 0xA), (18, 0x77)], ac := 0x2, out := [(18, 0x7)], acOut := 0x2 },
    { w0 := 0x7C314184, regs := [(4, 0x1), (5, 0x80000000), (6, 0x99)], ac := 0x4, out := [(0, 0x8001), (31,
      0x8070)], acOut := 0x4, ip := 0x0, memOut := [(0x8064, [0x4, 0x0, 0x0, 0x0, 0x1, 0x0, 0x3, 0x0, 0x0, 0x10, 0x0,
      0x0])] },
    { w0 := 0x7E944190, regs := [(16, 0x3), (17, 0xA), (18, 0x77)], ac := 0x1, acOut := 0x1 },
    { w0 := 0x5BBD8115, regs := [(21, 0x1), (22, 0x0)], out := [(23, 0xFFFFFFFE)] },
    { w0 := 0x59204918, regs := [(1, 0x2058), (4, 0x99)], out := [(4, 0x2040)] }] : List Vec), v.holds = true := by decide +kernel

/-- spec/95_test_vectors.md and spec/96_derived_vectors.md: S75, V97, S53, V98, S38, V101, V103, S62, V108, V111,
S40, V117, S39, V119, V122, V124. -/
theorem test_arithmetic_vectors_2 : ∀ v ∈ ([
    { w0 := 0x59E64196, regs := [(22, 0xA), (25, 0x3)], out := [(28, 0xFFFFFFF9)] },
    { w0 := 0x70314084, regs := [(4, 0x10000), (5, 0x10001)], out := [(6, 0x10000)] },
    { w0 := 0x74490083, regs := [(3, 0xFFFFFFFD), (4, 0x7)], out := [(9, 0xFFFFFFEB)] },
    { w0 := 0x74314084, regs := [(4, 0x10000), (5, 0x8000)], ac := 0x1000, out := [(6, 0x80000000)], acOut := 0x1100
      },
    { w0 := 0x706A0583, regs := [(3, 0x7), (8, 0x64)], out := [(13, 0xE)] },
    { w0 := 0x70314584, regs := [(4, 0x0), (5, 0x7), (6, 0x99)], out := [(0, 0x8001), (31, 0x8070)], ip := 0x0,
      memOut := [(0x8064, [0x0, 0x0, 0x0, 0x0, 0x2, 0x0, 0x3, 0x0, 0x0, 0x10, 0x0, 0x0])] },
    { w0 := 0x74314584, regs := [(4, 0x2), (5, 0xFFFFFFF9)], out := [(6, 0xFFFFFFFD)] },
    { w0 := 0x70314404, regs := [(4, 0x7), (5, 0x64)], out := [(6, 0x2)] },
    { w0 := 0x74314404, regs := [(4, 0x2), (5, 0xFFFFFFF9)], out := [(6, 0xFFFFFFFF)] },
    { w0 := 0x74314484, regs := [(4, 0x2), (5, 0xFFFFFFF9)], out := [(6, 0x1)] },
    { w0 := 0x67914004, regs := [(4, 0xFFFFFFFF), (5, 0xFFFFFFFF)], out := [(18, 0x1), (19, 0xFFFFFFFE)] },
    { w0 := 0x67394004, regs := [(4, 0x1), (5, 0x1)], out := [(0, 0x8001), (31, 0x8070)], ip := 0x0, memOut :=
      [(0x8064, [0x0, 0x0, 0x0, 0x0, 0x4, 0x0, 0x2, 0x0, 0x0, 0x10, 0x0, 0x0])] },
    { w0 := 0x67D50093, regs := [(19, 0x10), (20, 0x5), (21, 0x1)], out := [(26, 0x5), (27, 0x10000000)] },
    { w0 := 0x67418084, regs := [(4, 0x0), (6, 0x1), (7, 0x0), (8, 0x99), (9, 0x99)], out := [(0, 0x8001), (31,
      0x8070)], ip := 0x0, memOut := [(0x8064, [0x0, 0x0, 0x0, 0x0, 0x2, 0x0, 0x3, 0x0, 0x0, 0x10, 0x0, 0x0])] },
    { w0 := 0x59314E04, regs := [(5, 0xF000000F)], out := [(6, 0xF0)] },
    { w0 := 0x59314404, regs := [(4, 0x1F), (5, 0x80000000)], out := [(6, 0x1)] }] : List Vec), v.holds = true := by decide +kernel

/-- spec/95_test_vectors.md and spec/96_derived_vectors.md: S69, V126, V130, V133, S63, S41. -/
theorem test_arithmetic_vectors_3 : ∀ v ∈ ([
    { w0 := 0x59350F0D, regs := [(20, 0x12345)], out := [(6, 0x2468A000)] },
    { w0 := 0x59314F01, regs := [(5, 0x40000000)], ac := 0x1000, out := [(6, 0x40000000)], acOut := 0x1100 },
    { w0 := 0x59314D84, regs := [(5, 0x80000000)], out := [(6, 0xF8000000)] },
    { w0 := 0x59314D01, regs := [(5, 0xFFFFFFFF)], out := [(6, 0x0)] },
    { w0 := 0x59620E8D, regs := [(8, 0x80000001)], out := [(12, 0x3000)] },
    { w0 := 0x5DDD0413, regs := [(19, 0x24), (20, 0x89ABCDEF), (21, 0x1234567)], out := [(27, 0x789ABCDE)] }] : List Vec), v.holds = true := by decide +kernel

/-- spec/95_test_vectors.md and spec/96_derived_vectors.md: S13, S14, S15, S79, S28, S29, S42, S50, S54, S55, S56,
S57, S58, S59, S60, S61. -/
theorem test_logical_vectors_1 : ∀ v ∈ ([
    { w0 := 0x58CD0F98, regs := [(20, 0xFF)], ac := 0x2, out := [(25, 0x10000FF)], acOut := 0x2 },
    { w0 := 0x58960887, regs := [(24, 0x12345ABD)], out := [(18, 0x5)] },
    { w0 := 0x584B0907, regs := [(12, 0x12345ABD)], out := [(9, 0x12345AB8)] },
    { w0 := 0x5AD00698, regs := [(24, 0x89ABCDEF)], out := [(26, 0xEFCDAB89)] },
    { w0 := 0x5A060F0D, regs := [(24, 0x2000)], acOut := 0x2 },
    { w0 := 0x58B4CE17, regs := [(19, 0xFFFFFFFF)], out := [(22, 0xFF7FFFFF)] },
    { w0 := 0x65A31885, regs := [(20, 0xFFFE4FE0)], out := [(20, 0x27F)] },
    { w0 := 0x65268018, regs := [(4, 0xAAAAAAAA), (24, 0xFF00), (26, 0x12345678)], out := [(4, 0xAAAA56AA)] },
    { w0 := 0x5838C715, regs := [(3, 0xFF00FF), (21, 0xF0F0F0F)], out := [(7, 0xFFF0FFF0)] },
    { w0 := 0x582F1418, regs := [(24, 0xF0F0F00)], out := [(5, 0xF0F0F0E3)] },
    { w0 := 0x58A00512, regs := [(18, 0xF0F0F0F)], out := [(20, 0xF0F0F0F0)] },
    { w0 := 0x58398205, regs := [(5, 0xF0F0F0F), (6, 0xFF00FF)], out := [(7, 0xF000F00)] },
    { w0 := 0x583B0003, regs := [(3, 0x23), (12, 0xF)], out := [(7, 0x7)] },
    { w0 := 0x58B4C69C, regs := [(19, 0xFF00FF), (28, 0xF0F0F0F)], out := [(22, 0xFF0FFF0F)] },
    { w0 := 0x589E4B8E, regs := [(25, 0x100)], out := [(19, 0x10E)] },
    { w0 := 0x585A0583, regs := [(3, 0xF0F0F0F), (8, 0xFF00FF)], out := [(11, 0xF0FFF0FF)] }] : List Vec), v.holds = true := by decide +kernel

/-- spec/95_test_vectors.md and spec/96_derived_vectors.md: S64, S65, S68, V163, S77, S78. -/
theorem test_logical_vectors_2 : ∀ v ∈ ([
    { w0 := 0x64D00098, regs := [(24, 0x12000)], out := [(26, 0x10)], acOut := 0x2 },
    { w0 := 0x5A024603, regs := [(3, 0xAB0011), (9, 0x11AB1100)], acOut := 0x2 },
    { w0 := 0x580A498F, regs := [(1, 0x2040), (9, 0x1)], out := [(1, 0x8001)] },
    { w0 := 0x64300004, regs := [(4, 0xFFFFFFFF), (6, 0x99)], ac := 0x2, out := [(6, 0xFFFFFFFF)] },
    { w0 := 0x58624483, regs := [(3, 0xF0F0F0F), (9, 0xFF00FF)], out := [(12, 0xF00FF00F)] },
    { w0 := 0x58A5C311, regs := [(17, 0xF0F0F0F), (23, 0xFF00FF)], out := [(20, 0xFF00FF0)] }] : List Vec), v.holds = true := by decide +kernel

/-- spec/95_test_vectors.md and spec/96_derived_vectors.md: S9, V178, V181, V182, V184, V185, V188, S30, S31, V187,
S37, V194, V196, V198, V199, V200. -/
theorem test_compare_vectors_1 : ∀ v ∈ ([
    { w0 := 0x5A001801, ac := 0x2, acOut := 0x1 },
    { w0 := 0x5A014084, regs := [(4, 0xFFFFFFFF), (5, 0x1)], acOut := 0x4 },
    { w0 := 0x59014204, regs := [(4, 0x1FF), (5, 0x2FE)], acOut := 0x1 },
    { w0 := 0x59014284, regs := [(4, 0x1FF), (5, 0x2FE)], acOut := 0x1 },
    { w0 := 0x59014304, regs := [(4, 0x18000), (5, 0x27FFF)], acOut := 0x1 },
    { w0 := 0x59014384, regs := [(4, 0x18000), (5, 0x27FFF)], acOut := 0x4 },
    { w0 := 0x5A314304, regs := [(4, 0x0), (5, 0x0), (6, 0x99)], out := [(6, 0xFFFFFFFF)], acOut := 0x2 },
    { w0 := 0x5A8DCB8C, regs := [(23, 0xC)], out := [(17, 0xB)], acOut := 0x2 },
    { w0 := 0x5ACC8208, regs := [(8, 0x5), (18, 0xFFFFFFFF), (25, 0x99)], out := [(25, 0x0)], acOut := 0x4 },
    { w0 := 0x5A314284, regs := [(4, 0x3), (5, 0x7FFFFFFF), (6, 0x99)], out := [(6, 0x80000000)], acOut := 0x4 },
    { w0 := 0x5A04C115, regs := [(19, 0x7), (21, 0x5), (22, 0xA)], ac := 0x1, acOut := 0x2 },
    { w0 := 0x5A014184, regs := [(4, 0xFFFFFFFF), (5, 0x0)], acOut := 0x2 },
    { w0 := 0x20300000, regs := [(6, 0x99)], out := [(6, 0x1)] },
    { w0 := 0x21300000, regs := [(6, 0x99)], ac := 0x1, out := [(6, 0x1)], acOut := 0x1 },
    { w0 := 0x22300000, regs := [(6, 0x99)], ac := 0x1, out := [(6, 0x0)], acOut := 0x1 },
    { w0 := 0x23300000, regs := [(6, 0x99)], ac := 0x2, out := [(6, 0x1)], acOut := 0x2 }] : List Vec), v.holds = true := by decide +kernel

/-- spec/95_test_vectors.md and spec/96_derived_vectors.md: S76, V202, V203, V204. -/
theorem test_compare_vectors_2 : ∀ v ∈ ([
    { w0 := 0x24C80000, regs := [(25, 0xFFFFFFFF)], ac := 0x4, out := [(25, 0x1)], acOut := 0x4 },
    { w0 := 0x25300000, regs := [(6, 0x99)], ac := 0x2, out := [(6, 0x0)], acOut := 0x2 },
    { w0 := 0x26300000, regs := [(6, 0x99)], ac := 0x1, out := [(6, 0x0)], acOut := 0x1 },
    { w0 := 0x27300000, regs := [(6, 0x99)], out := [(6, 0x0)] }] : List Vec), v.holds = true := by decide +kernel

/-- spec/95_test_vectors.md and spec/96_derived_vectors.md: S18, S19, S20, S21, S22, V226, V215, S33, V219, V220,
S23, V222, V223, V224, V231, V229. -/
theorem test_branch_vectors_1 : ∀ v ∈ ([
    { w0 := 0x08000400, ip := 0x1400 },
    { w0 := 0x84001400, w1 := 0x534, ip := 0x153C },
    { w0 := 0x0B000400, out := [(30, 0x1004)], ip := 0x1400 },
    { w0 := 0x85A4A000, regs := [(18, 0x3000)], out := [(20, 0x1004)], ip := 0x3000 },
    { w0 := 0x3051A400, regs := [(6, 0xFFFFFBFF)], ac := 0x2, ip := 0x1400 },
    { w0 := 0x37296100, regs := [(5, 0x20)], acOut := 0x2, ip := 0x1100 },
    { w0 := 0x10000100, ip := 0x1100 },
    { w0 := 0x11000400, ac := 0x1, acOut := 0x1, ip := 0x1400 },
    { w0 := 0x12000100, ac := 0x2, acOut := 0x2, ip := 0x1100 },
    { w0 := 0x13000100, ac := 0x4, acOut := 0x4 },
    { w0 := 0x14000400, ac := 0x4, acOut := 0x4, ip := 0x1400 },
    { w0 := 0x15000100, ac := 0x2, acOut := 0x2 },
    { w0 := 0x16000100, ac := 0x6, acOut := 0x6, ip := 0x1100 },
    { w0 := 0x17000100 },
    { w0 := 0x31214100, regs := [(4, 0xFFFFFFFF), (5, 0x1)], acOut := 0x1, ip := 0x1100 },
    { w0 := 0x32F96100, regs := [(5, 0x1F)], acOut := 0x2, ip := 0x1100 }] : List Vec), v.holds = true := by decide +kernel

/-- spec/95_test_vectors.md and spec/96_derived_vectors.md: S35, V233, V230, V234, V235, V232, V239, V238, S34,
V240, V237, V236. -/
theorem test_branch_vectors_2 : ∀ v ∈ ([
    { w0 := 0x3399E400, regs := [(7, 0x13)], acOut := 0x2, ip := 0x1400 },
    { w0 := 0x34214FFC, regs := [(4, 0x1), (5, 0x2)], acOut := 0x4, ip := 0x1FFC },
    { w0 := 0x35214100, regs := [(4, 0x5), (5, 0x5)], acOut := 0x2 },
    { w0 := 0x36215000, regs := [(4, 0x2), (5, 0x2)], acOut := 0x2, ip := 0x0 },
    { w0 := 0x38214100, regs := [(4, 0x1), (5, 0x1)], acOut := 0x2 },
    { w0 := 0x39214100, regs := [(4, 0xFFFFFFFF), (5, 0x1)], acOut := 0x4 },
    { w0 := 0x3A214100, regs := [(4, 0x1), (5, 0x2)], acOut := 0x4 },
    { w0 := 0x3B214100, regs := [(4, 0x80000000), (5, 0x80000000)], acOut := 0x2, ip := 0x1100 },
    { w0 := 0x3C9E4400, regs := [(19, 0xFFFFFFFF), (25, 0x1)], acOut := 0x4, ip := 0x1400 },
    { w0 := 0x3D214100, regs := [(4, 0x1), (5, 0x2)], acOut := 0x4, ip := 0x1100 },
    { w0 := 0x3E016100, regs := [(5, 0xFFFFFFFF)], acOut := 0x1 },
    { w0 := 0x3F214100, regs := [(4, 0x1), (5, 0x2)], acOut := 0x4, ip := 0x1100 }] : List Vec), v.holds = true := by decide +kernel

/-- spec/95_test_vectors.md and spec/96_derived_vectors.md: S24, S27, S25, V244. -/
theorem test_call_vectors : ∀ v ∈ ([
    { w0 := 0x09000400, regs := [(0, 0x1F00), (1, 0x2040), (31, 0x2000)], out := [(0, 0x2000), (1, 0x2080), (31,
      0x2040)], ip := 0x1400 },
    { w0 := 0x86056000, regs := [(0, 0x1F00), (1, 0x2050), (21, 0x3000), (31, 0x2000)], out := [(0, 0x2000), (1,
      0x2090), (31, 0x2050)], ip := 0x3000 },
    { w0 := 0x6600000C, regs := [(0, 0x1F00), (1, 0x2048), (12, 0x2), (31, 0x2000)], mem := [(0x4039, [0x50])], out
      := [(0, 0x2000), (1, 0x2090), (31, 0x2050)], ip := 0x5000 },
    { w0 := 0x66000004, regs := [(4, 0x104)], out := [(0, 0x8001), (31, 0x8070)], ip := 0x0, memOut := [(0x8064,
      [0x0, 0x0, 0x0, 0x0, 0x2, 0x0, 0x7, 0x0, 0x0, 0x10, 0x0, 0x0])] }] : List Vec), v.holds = true := by decide +kernel

/-- spec/95_test_vectors.md and spec/96_derived_vectors.md: V249, V248, V250, V252, V253, V254, V255, V256, V257,
S87, S81, S90. -/
theorem test_fault_debug_vectors : ∀ v ∈ ([
    { w0 := 0x18000000, ac := 0x4, acOut := 0x4 },
    { w0 := 0x18000000, out := [(0, 0x8001), (31, 0x8070)], ip := 0x0, memOut := [(0x8064, [0x0, 0x0, 0x0, 0x0, 0x1,
      0x0, 0x5, 0x0, 0x0, 0x10, 0x0, 0x0])] },
    { w0 := 0x19000000, ac := 0x1, out := [(0, 0x8001), (31, 0x8070)], acOut := 0x1, ip := 0x0, memOut := [(0x8064,
      [0x1, 0x0, 0x0, 0x0, 0x1, 0x0, 0x5, 0x0, 0x0, 0x10, 0x0, 0x0])] },
    { w0 := 0x1A000000, ac := 0x5, acOut := 0x5 },
    { w0 := 0x1B000000, ac := 0x4, acOut := 0x4 },
    { w0 := 0x1C000000, ac := 0x4, out := [(0, 0x8001), (31, 0x8070)], acOut := 0x4, ip := 0x0, memOut := [(0x8064,
      [0x4, 0x0, 0x0, 0x0, 0x1, 0x0, 0x5, 0x0, 0x0, 0x10, 0x0, 0x0])] },
    { w0 := 0x1D000000, ac := 0x2, acOut := 0x2 },
    { w0 := 0x1E000000, ac := 0x1, acOut := 0x1 },
    { w0 := 0x1F000000 },
    { w0 := 0x66000580 },
    { w0 := 0x66000600 },
    { w0 := 0x66000780 }] : List Vec), v.holds = true := by decide +kernel

/-- spec/95_test_vectors.md and spec/96_derived_vectors.md: S16, S17. -/
theorem test_atomic_vectors : ∀ v ∈ ([
    { w0 := 0x6158C108, regs := [(3, 0x10), (8, 0x8000)], mem := [(0x8000, [0xF5])], out := [(11, 0xF5)], memOut :=
      [(0x8000, [0x5, 0x1, 0x0, 0x0])] },
    { w0 := 0x61D5C015, regs := [(21, 0x9000), (23, 0xFFFF), (26, 0xAAAABBBB)], mem := [(0x9000, [0x78, 0x56, 0x34,
      0x12])], out := [(26, 0x12345678)], memOut := [(0x9000, [0xBB, 0xBB, 0x34, 0x12])] }] : List Vec), v.holds = true := by decide +kernel

/-- spec/95_test_vectors.md and spec/96_derived_vectors.md: V265, S51, V269. -/
theorem test_management_vectors : ∀ v ∈ ([
    { w0 := 0x64801A80, regs := [(16, 0x99)], ac := 0x9103, out := [(16, 0x9103)], acOut := 0x9103 },
    { w0 := 0x65C64299, pc := 0x1F2002, regs := [(24, 0x0), (25, 0x1F0000)], out := [(24, 0x1F2002)], pcOut :=
      0x2002 },
    { w0 := 0x65810284, pc := 0x0, regs := [(4, 0x2), (16, 0x2)], out := [(0, 0x8001), (31, 0x8070)], pcOut := 0x0,
      ip := 0x0, memOut := [(0x8064, [0x0, 0x0, 0x0, 0x0, 0x1, 0x0, 0xA, 0x0, 0x0, 0x10, 0x0, 0x0])] }] : List Vec), v.holds = true := by decide +kernel

/-- By hand from R230, R265 and R286 for src1 = 3 and src2 = 10, a condition that holds and one that fails:
selg, selge, selle, addog, addoge, addol, addole, addoo, addino. -/
theorem test_conditional_forms_1 : ∀ v ∈ ([
    { w0 := 0x79314204, regs := [(4, 3), (5, 10), (6, 0x99)], ac := 1, out := [(6, 10)], acOut := 1 },
    { w0 := 0x79314204, regs := [(4, 3), (5, 10), (6, 0x99)], ac := 4, out := [(6, 3)], acOut := 4 },
    { w0 := 0x7B314204, regs := [(4, 3), (5, 10), (6, 0x99)], ac := 3, out := [(6, 10)], acOut := 3 },
    { w0 := 0x7B314204, regs := [(4, 3), (5, 10), (6, 0x99)], ac := 4, out := [(6, 3)], acOut := 4 },
    { w0 := 0x7E314204, regs := [(4, 3), (5, 10), (6, 0x99)], ac := 6, out := [(6, 10)], acOut := 6 },
    { w0 := 0x7E314204, regs := [(4, 3), (5, 10), (6, 0x99)], ac := 1, out := [(6, 3)], acOut := 1 },
    { w0 := 0x79314004, regs := [(4, 3), (5, 10), (6, 0x99)], ac := 1, out := [(6, 13)], acOut := 1 },
    { w0 := 0x79314004, regs := [(4, 3), (5, 10), (6, 0x99)], ac := 4, out := [(6, 153)], acOut := 4 },
    { w0 := 0x7B314004, regs := [(4, 3), (5, 10), (6, 0x99)], ac := 3, out := [(6, 13)], acOut := 3 },
    { w0 := 0x7B314004, regs := [(4, 3), (5, 10), (6, 0x99)], ac := 4, out := [(6, 153)], acOut := 4 },
    { w0 := 0x7C314004, regs := [(4, 3), (5, 10), (6, 0x99)], ac := 4, out := [(6, 13)], acOut := 4 },
    { w0 := 0x7C314004, regs := [(4, 3), (5, 10), (6, 0x99)], ac := 2, out := [(6, 153)], acOut := 2 },
    { w0 := 0x7E314004, regs := [(4, 3), (5, 10), (6, 0x99)], ac := 6, out := [(6, 13)], acOut := 6 },
    { w0 := 0x7E314004, regs := [(4, 3), (5, 10), (6, 0x99)], ac := 1, out := [(6, 153)], acOut := 1 },
    { w0 := 0x7F314004, regs := [(4, 3), (5, 10), (6, 0x99)], ac := 7, out := [(6, 13)], acOut := 7 },
    { w0 := 0x7F314004, regs := [(4, 3), (5, 10), (6, 0x99)], out := [(6, 153)] },
    { w0 := 0x78314084, regs := [(4, 3), (5, 10), (6, 0x99)], out := [(6, 13)] },
    { w0 := 0x78314084, regs := [(4, 3), (5, 10), (6, 0x99)], ac := 4, out := [(6, 153)], acOut := 4 }] : List Vec), v.holds = true := by decide +kernel

/-- By hand from R230, R265 and R286 for src1 = 3 and src2 = 10, a condition that holds and one that fails:
addie, addige, addil, addine, addile, subono, suboe, subol, subone. -/
theorem test_conditional_forms_2 : ∀ v ∈ ([
    { w0 := 0x7A314084, regs := [(4, 3), (5, 10), (6, 0x99)], ac := 2, out := [(6, 13)], acOut := 2 },
    { w0 := 0x7A314084, regs := [(4, 3), (5, 10), (6, 0x99)], ac := 4, out := [(6, 153)], acOut := 4 },
    { w0 := 0x7B314084, regs := [(4, 3), (5, 10), (6, 0x99)], ac := 3, out := [(6, 13)], acOut := 3 },
    { w0 := 0x7B314084, regs := [(4, 3), (5, 10), (6, 0x99)], ac := 4, out := [(6, 153)], acOut := 4 },
    { w0 := 0x7C314084, regs := [(4, 3), (5, 10), (6, 0x99)], ac := 4, out := [(6, 13)], acOut := 4 },
    { w0 := 0x7C314084, regs := [(4, 3), (5, 10), (6, 0x99)], ac := 2, out := [(6, 153)], acOut := 2 },
    { w0 := 0x7D314084, regs := [(4, 3), (5, 10), (6, 0x99)], ac := 5, out := [(6, 13)], acOut := 5 },
    { w0 := 0x7D314084, regs := [(4, 3), (5, 10), (6, 0x99)], ac := 2, out := [(6, 153)], acOut := 2 },
    { w0 := 0x7E314084, regs := [(4, 3), (5, 10), (6, 0x99)], ac := 6, out := [(6, 13)], acOut := 6 },
    { w0 := 0x7E314084, regs := [(4, 3), (5, 10), (6, 0x99)], ac := 1, out := [(6, 153)], acOut := 1 },
    { w0 := 0x78314104, regs := [(4, 3), (5, 10), (6, 0x99)], out := [(6, 7)] },
    { w0 := 0x78314104, regs := [(4, 3), (5, 10), (6, 0x99)], ac := 4, out := [(6, 153)], acOut := 4 },
    { w0 := 0x7A314104, regs := [(4, 3), (5, 10), (6, 0x99)], ac := 2, out := [(6, 7)], acOut := 2 },
    { w0 := 0x7A314104, regs := [(4, 3), (5, 10), (6, 0x99)], ac := 4, out := [(6, 153)], acOut := 4 },
    { w0 := 0x7C314104, regs := [(4, 3), (5, 10), (6, 0x99)], ac := 4, out := [(6, 7)], acOut := 4 },
    { w0 := 0x7C314104, regs := [(4, 3), (5, 10), (6, 0x99)], ac := 2, out := [(6, 153)], acOut := 2 },
    { w0 := 0x7D314104, regs := [(4, 3), (5, 10), (6, 0x99)], ac := 5, out := [(6, 7)], acOut := 5 },
    { w0 := 0x7D314104, regs := [(4, 3), (5, 10), (6, 0x99)], ac := 2, out := [(6, 153)], acOut := 2 }] : List Vec), v.holds = true := by decide +kernel

/-- By hand from R230, R265 and R286 for src1 = 3 and src2 = 10, a condition that holds and one that fails:
subole, suboo, subino, subig, subie, subige, subine, subio. -/
theorem test_conditional_forms_3 : ∀ v ∈ ([
    { w0 := 0x7E314104, regs := [(4, 3), (5, 10), (6, 0x99)], ac := 6, out := [(6, 7)], acOut := 6 },
    { w0 := 0x7E314104, regs := [(4, 3), (5, 10), (6, 0x99)], ac := 1, out := [(6, 153)], acOut := 1 },
    { w0 := 0x7F314104, regs := [(4, 3), (5, 10), (6, 0x99)], ac := 7, out := [(6, 7)], acOut := 7 },
    { w0 := 0x7F314104, regs := [(4, 3), (5, 10), (6, 0x99)], out := [(6, 153)] },
    { w0 := 0x78314184, regs := [(4, 3), (5, 10), (6, 0x99)], out := [(6, 7)] },
    { w0 := 0x78314184, regs := [(4, 3), (5, 10), (6, 0x99)], ac := 4, out := [(6, 153)], acOut := 4 },
    { w0 := 0x79314184, regs := [(4, 3), (5, 10), (6, 0x99)], ac := 1, out := [(6, 7)], acOut := 1 },
    { w0 := 0x79314184, regs := [(4, 3), (5, 10), (6, 0x99)], ac := 4, out := [(6, 153)], acOut := 4 },
    { w0 := 0x7A314184, regs := [(4, 3), (5, 10), (6, 0x99)], ac := 2, out := [(6, 7)], acOut := 2 },
    { w0 := 0x7A314184, regs := [(4, 3), (5, 10), (6, 0x99)], ac := 4, out := [(6, 153)], acOut := 4 },
    { w0 := 0x7B314184, regs := [(4, 3), (5, 10), (6, 0x99)], ac := 3, out := [(6, 7)], acOut := 3 },
    { w0 := 0x7B314184, regs := [(4, 3), (5, 10), (6, 0x99)], ac := 4, out := [(6, 153)], acOut := 4 },
    { w0 := 0x7D314184, regs := [(4, 3), (5, 10), (6, 0x99)], ac := 5, out := [(6, 7)], acOut := 5 },
    { w0 := 0x7D314184, regs := [(4, 3), (5, 10), (6, 0x99)], ac := 2, out := [(6, 153)], acOut := 2 },
    { w0 := 0x7F314184, regs := [(4, 3), (5, 10), (6, 0x99)], ac := 7, out := [(6, 7)], acOut := 7 },
    { w0 := 0x7F314184, regs := [(4, 3), (5, 10), (6, 0x99)], out := [(6, 153)] }] : List Vec), v.holds = true := by decide +kernel

/-! Processor management, returns, faults and interrupts. -/

/-- What holds of the next state of an outcome. -/
def Holds (o : Host.Outcome State Fault Refusal) (p : State → Bool) : Bool :=
  match o with
  | .next t => p t
  | .fault _ => false
  | .refused _ => false

/-- Whether an outcome is the refusal. -/
def Refuses (o : Host.Outcome State Fault Refusal) (r : Refusal) : Bool :=
  match o with
  | .next _ => false
  | .fault _ => false
  | .refused q => q == r

/-- `State.reset` with registers set. -/
def st (regs : List (RegNum × Word)) : State := regs.foldl (fun t p => t.setReg p.1 p.2) State.reset

/-- The same with bytes of memory. -/
def stm (regs : List (RegNum × Word)) (mem : List (Nat × List Byte)) : State :=
  (st regs).withMem (mem.foldl (fun m p => withBytes m p.1 p.2) State.reset.mem)

/-- The same with the register cache, the PFP set by a call. -/
def State.cached (s : State) (fs : List CachedFrame) : State :=
  s.withFrames { s.frames with cache := fs, pfpDirty := false, unsetPfp := none }

/-- A suspended set whose r0 to r15 hold `v` but for r2, which holds `rip`. -/
def frame (link v rip : Word) : CachedFrame :=
  { link := link, save := link, regs := (Vector.replicate 16 (Slot.val v)).set 2 (.val rip) }

/-- S82, S84 to S86: ICON.gie is 1 while interrupts are disabled. -/
theorem test_interrupt_control :
    Holds (exec (.halt (.reg 16)) ((st [(16, 1)]).withIntr { State.reset.intr with icon := 0x400 }))
      (fun t => t.intr.icon == 0 && t.intr.halted && t.ip == 0x1004) = true ∧
    Holds (exec (.intctl (.lit 0) 20) State.reset) (fun t => t.intr.icon == 0x400 && t.reg 20 == 1) = true ∧
    Holds (exec .intdis State.reset) (fun t => t.intr.icon == 0x400) = true ∧
    Holds (exec .inten (State.reset.withIntr { State.reset.intr with icon := 0x400 }))
      (fun t => t.intr.icon == 0 && t.ip == 0x1004) = true := by decide +kernel

/-- S83, S91, S92 and R589: load and lock, invalidate and unlock, the status of a disabled 2 Kbyte data cache. -/
theorem test_cache_control :
    Holds (exec (.icctl (.reg 16) (.reg 17) 18) (st [(16, 3), (17, 0x10000000), (18, 1)]))
      (fun t => t.cache.instrLocked && t.reg 18 == 1) = true ∧
    Holds (exec (.sysctl (.reg 6) (.reg 7) 8)
        ((st [(6, 0x100)]).withCache { State.reset.cache with instrLocked := true, codeStale := [⟨0x1000, 0, 1⟩] }))
      (fun t => !t.cache.instrLocked && t.cache.codeStale == []) = true ∧
    Holds (exec (.sysctl (.reg 16) (.reg 18) 18) (st [(16, 0x204), (18, 0x20000000)]))
      (fun t => t.cache.instrLocked && t.reg 18 == 0x20000000) = true ∧
    Holds (exec (.dcctl (.lit 4) (.lit 0) 5) State.reset) (fun t => t.reg 5 == 0x7220) = true ∧
    Holds (exec (.dcctl (.lit 1) (.lit 0) 5) State.reset) (fun t => t.cache.dataEnabled) = true := by decide +kernel

/-- R8: the sets, ways and lines of R8 and R589 make up the bytes of each cache, and a lockable way is one way. -/
theorem test_cache_geometry : ∀ p : Part, p ∈ [Part.ja, .jf, .jd] ∧
    2 ^ p.icacheLog2Sets * Config.icacheWays * Config.cacheLineBytes = p.icacheBytes ∧
    2 ^ p.dcacheLog2Lines * Config.dcacheWays * Config.cacheLineBytes = p.dcacheBytes ∧
    4 * p.lockWords * Config.icacheWays = p.icacheBytes := by intro p; cases p <;> decide

/-- S88: the bits of TC that software can see. -/
theorem test_modtc : Holds (exec (.modtc (.reg 28) (.reg 26) 18) ((st [(28, 0xFFFFFFFF), (26, 0xFE)]).withTc 2))
    (fun t => t.tc == 0xFE && t.ip == 0x1004) = true := by decide +kernel

/-- S89: a return to the frame in the register cache, and one to a frame in memory. R749 (c): the return from an NMI handler
whose g15 has low bits set finds the record at FP - 16 of the frame. -/
theorem test_ret :
    Holds (exec .ret (State.cached (st [(0, 0x2000), (31, 0x2040)]) [frame 0x2000 7 0x1004]))
      (fun t => t.ip == 0x1004 && t.reg 31 == 0x2000 && t.reg 5 == 7 && t.frames.cache == []) = true ∧
    Holds (exec .ret (State.cached (stm [(0, 0x2000), (31, 0x2040)] [(0x2008, [0x07, 0x30]), (0x203C, [9])]) []))
      (fun t => t.ip == 0x3004 && t.reg 15 == 9 && t.reg 31 == 0x2000) = true ∧
    Holds (exec .ret ((State.cached (stm [(0, 0x2007), (31, 0x301F)] [(0x3000, [2, 0, 7]), (0x3004, [5])])
        [frame 0x2000 7 0x1004]).withIntr { State.reset.intr with nmiFrame := some 0x3010 }))
      (fun t => t.ip == 0x1004 && t.pc == 0x00070002 && t.ac == 5 && t.intr.nmiFrame == none) = true := by decide +kernel

/-- R724, R730: a return from the initial frame is refused, also after calls that came back to it. -/
theorem test_initial_return : Refuses (exec .ret State.reset) .initialFrame = true ∧
    Refuses (exec .ret (State.reset.withFrames { State.reset.frames with cache := [frame 0x2000 7 0x1004] }))
      .initialFrame = true := by decide +kernel

/-- R97, R505: a spill across the end of internal RAM is 16 aligned words, each in one region. -/
theorem test_flushreg_straddle : Holds (exec .flushreg (State.cached (st [(0, 0x3E0)]) [frame 0x3E0 0x12345678 0x1004]))
    (fun t => bytesAre t.mem 0x3FC [0x78, 0x56, 0x34, 0x12] && bytesAre t.mem 0x400 [0x78, 0x56, 0x34, 0x12]) = true := by
  decide +kernel

/-- R87, R607: sysctl message 0 to an interrupt table in internal RAM that BCON.sirp protects takes TYPE.MISMATCH, a fault of
type 0AH; the byte of vector 255 above the protected range stays stored. -/
theorem test_post_protected : ∀ high : Bool,
    Holds (exec (.sysctl (.reg 4) (.lit 0) 5) (((stm [(4, 0xFF), (1, 0x8000)] [(0x3050, [0x00, 0x50])]).withTables
        { State.reset.tables with interrupt := if high then 0x38 else 0x10, fault := 0x3000 }).withConfig { State.reset.config with bcon := 4 }))
      (fun t => t.ip == 0x5000 && bytesAre t.mem 0x10 [0, 0, 0, 0] && bytesAre t.mem 0x38 [0, 0, 0, 0] &&
        bytesAre t.mem 0x33 [0] && bytesAre t.mem 0x5B [if high then 0x80 else 0]) = true := by decide +kernel

/-- R87, R522: a supervisor call from user mode spills in supervisor mode, to internal RAM that BCON.irp protects from
user mode. -/
theorem test_calls_spill : Holds (exec (.calls (.reg 4)) ((State.cached (stm [(4, 259)] [(0x443C, [0x02, 0x50])])
      (frame 0x100 0x12345678 0x1004 :: List.replicate 6 (frame 0 0 0))).withPc 0 |>.withConfig
        { State.reset.config with bcon := 2 }))
    (fun t => t.ip == 0x5000 && t.supervisor && bytesAre t.mem 0x100 [0x78, 0x56, 0x34, 0x12] &&
      t.frames.cache.length == 7) = true := by decide +kernel

/-- R609: load and lock leaves a disabled instruction cache disabled. -/
theorem test_lock_disabled : Holds (exec (.sysctl (.reg 4) (.reg 5) 5) ((st [(4, 0x204), (5, 0x20000000)]).withCache
      { State.reset.cache with instrEnabled := false }))
    (fun t => t.cache.instrLocked && !t.cache.instrEnabled) = true := by decide +kernel

/-- R612: the example of the rule, DLMCON with big endian kept and the data cache enabled. -/
theorem test_modify_mmr : Holds (exec (.sysctl (.reg 4) (.lit 2) 5) ((st [(4, 0x81000500), (5, 2)]).withConfig
      { State.reset.config with dlmcon := 1 }))
    (fun t => t.config.dlmcon == 3 && t.reg 5 == 1) = true := by decide +kernel

/-- R505, R524: flushreg stores r0 at the lowest address and r15 at the highest. -/
theorem test_flushreg : Holds (exec .flushreg (State.cached (st [(0, 0x8000)]) [frame 0x8000 0x12345678 0x1004]))
    (fun t => bytesAre t.mem 0x8000 [0x78, 0x56, 0x34, 0x12] && bytesAre t.mem 0x8008 [0x04, 0x10, 0, 0] &&
      bytesAre t.mem 0x803C [0x78, 0x56, 0x34, 0x12] && t.frames.cache == []) = true := by decide +kernel

/-- S87 with a supervisor entry for TRACE faults (R652, R701): te is clear in the handler, the record names the mark. -/
theorem test_mark_fault :
    Holds (exec .mark (((State.cached (stm [(1, 0x8040)] [(0x5008, [0x16, 0, 0, 0, 0x7F, 0x02]), (0x4044, [0x02, 0x90])]) []).withPc 3).withTc 0x80))
      (fun t => t.ip == 0x9000 && t.pc == 2 && bytesAre t.mem 0x8068 [0x80, 0, 1, 0, 0, 0x10, 0, 0] &&
        t.tc == 0x00800080) = true := by decide +kernel

/-- R11, R650: a system-call entry of the fault table without its second word is refused. -/
theorem test_entry_word : Refuses (exec .faulto ((stm [(1, 0x8040)] [(0x5028, [0x16, 0, 0, 0, 0x7F, 0x03])]).withAc 2))
    (.faultEntryWord 0x37F) = true := by decide +kernel

/-- R684: the NMI of vector 248, its handler's address in word 0 of internal RAM. -/
theorem test_nmi : Holds (step ((((stm [] [(0, [0x00, 0x60])]).withPc 0).withInputs [[.nmi]]).withIntr
      { State.reset.intr with halted := true }))
    (fun t => t.ip == 0x6000 && t.pc == 0x001F2002 && bytesAre t.mem 0xA008 [248, 0, 0, 0] && t.reg 31 == 0xA010 &&
      t.reg 0 == 0xA007 && !t.intr.halted) = true := by decide +kernel

/-- R694, R714: two clocks of a timer that counts 2, reloads and then requests its vector through IPND bit 12. -/
theorem test_timer : Holds (step (((State.reset.withTimer0 { trr := 5, tcr := 2, tmr := 6 }).withInputs [[.clock0 2]]).withIntr
      { State.reset.intr with halted := true }))
    (fun t => t.timer0 == { trr := 5, tcr := 5, tmr := 7 } && t.intr.ipnd == 0x1000) = true := by decide +kernel

/-- R681: pin 0 low, detected by level, stays pending when it is delivered; detected by edge it does not. -/
theorem test_level_pin : ∀ edge : Bool,
    Holds (toOutcome (deliver (.hardware ⟨0x12, 0, true⟩))
        (State.reset.withIntr { State.reset.intr with ipnd := 1, pins := 0xFE, icon := if edge then 4 else 0 }))
      (fun t => t.mmr .ipnd == if edge then 0 else 1) = true := by decide +kernel

/-- R112, R594: a disabled instruction cache fetches a byte stored before the fetch buffer was filled as memory holds it. -/
theorem test_disabled_fetch : ∀ s ∈ [(stm [] [(0x1000, [0x14, 0, 0, 8])]).withCache
      { State.reset.cache with instrEnabled := false, codeStale := [⟨0x1000, 3, 9⟩], buffer := some ⟨0x100, 4⟩ }],
    Holds (step s) (fun t => t.ip == 0x1014) = true := by decide +kernel

/-! Witnesses: a state and operands that meet the premises of each obligation, at the boundaries of its clauses. -/

/-- OrdinalAndShiftResults, CarryArithmetic, SelectResults, LogicalResults, BitAndFieldResults, TestResults, Branches,
CompareAndBranch. -/
theorem witness_untraced_destination : State.reset.untraced ∧ (3 : RegNum) ≠ 2 ∧ (0 : RegNum) ≠ 2 ∧ (31 : RegNum) ≠ 2 := by decide

/-- IntegerResultsThatFit: both ends of the range, for each instruction. -/
theorem witness_IntegerResultsThatFit :
    ∀ p ∈ ([(1, 0x7FFFFFFE, fun a b => b.toInt + a.toInt), (0x80000000, 0, fun a b => b.toInt + a.toInt),
        (1, 0x80000001, fun a b => b.toInt - a.toInt), (0x80000001, 0xFFFFFFFF, fun a b => b.toInt - a.toInt + 1),
        (1, 0x7FFFFFFF, fun a b => b.toInt * a.toInt), (2, 0xC0000000, fun a b => b.toInt * a.toInt),
        (1, 0x80000000, fun a b => b.toInt.tdiv a.toInt), (0xFFFFFFFF, 0x80000001, fun a b => b.toInt.tdiv a.toInt),
        (31, 0xFFFFFFFF, fun a b => b.toInt * 2 ^ min a.toNat 32)] : List (Word × Word × (Word → Word → Int))),
      State.untraced (st [(4, p.1), (5, p.2.1)]) ∧ (6 : RegNum) ≠ 2 ∧
      operandValue (.reg 4) Site.src1 (st [(4, p.1), (5, p.2.1)]) ≠ 0 ∧
      -2147483648 ≤ p.2.2 (operandValue (.reg 4) Site.src1 (st [(4, p.1), (5, p.2.1)]))
        (operandValue (.reg 5) Site.src2 (st [(4, p.1), (5, p.2.1)])) ∧
      p.2.2 (operandValue (.reg 4) Site.src1 (st [(4, p.1), (5, p.2.1)]))
        (operandValue (.reg 5) Site.src2 (st [(4, p.1), (5, p.2.1)])) ≤ 2147483647 := by decide +kernel

/-- IntegerOverflowOutcome: the first value outside the range, with AC.om 1 and 0, and each condition met. -/
theorem witness_IntegerOverflowOutcome :
    (∀ p ∈ ([(1, 0x7FFFFFFF, fun a b => b.toInt + a.toInt), (1, 0x80000000, fun a b => b.toInt - a.toInt),
        (2, 0x40000000, fun a b => b.toInt * a.toInt), (0xFFFFFFFF, 0x80000000, fun a b => b.toInt.tdiv a.toInt)] :
        List (Word × Word × (Word → Word → Int))), ∀ m : BitVec 3, ∀ om : Bool,
      ∀ s ∈ [(st [(4, p.1), (5, p.2.1)]).withAc ((if om then 0x1000 else 0) ||| m.zeroExtend 32)],
        cond m s = true ∧ s.ac.getLsbD 12 = om ∧ s.untraced ∧
        ¬ (-2147483648 ≤ p.2.2 (operandValue (.reg 4) Site.src1 s) (operandValue (.reg 5) Site.src2 s) ∧
          p.2.2 (operandValue (.reg 4) Site.src1 s) (operandValue (.reg 5) Site.src2 s) ≤ 2147483647)) := by decide +kernel

/-- IntegerOverflowOutcome for shli: 2^30 shifted by 1, and 1 by a length above 32. -/
theorem witness_IntegerOverflowOutcome_shli :
    ∀ s ∈ [(st [(4, 1), (5, 0x40000000)]).withAc 0, (st [(4, 0xFFFFFFFF), (5, 1)]).withAc 0x1000],
      ¬ (-2147483648 ≤ (operandValue (.reg 5) Site.src2 s).toInt * 2 ^ min (operandValue (.reg 4) Site.src1 s).toNat 32 ∧
        (operandValue (.reg 5) Site.src2 s).toInt * 2 ^ min (operandValue (.reg 4) Site.src1 s).toNat 32 ≤ 2147483647) ∧
      s.untraced := by decide +kernel

/-- DivisionResults: a divisor that is not 0. -/
theorem witness_DivisionResults : operandValue (.lit 1) Site.src1 State.reset ≠ 0 ∧ State.reset.untraced := by decide

/-- DivisionResults: a divisor 0 with an aligned pair. -/
theorem witness_DivisionResults_zero : operandValue (.lit 0) Site.src1 State.reset = 0 ∧ (30 : RegNum).toNat % 2 = 0 ∧
    pairValue (.reg 30) State.reset ≠ none ∧ (30 : RegNum) ≠ 2 := by decide

/-- ExtendedResults: the greatest quotient that fits, one that does not, and misaligned pairs. -/
theorem witness_ExtendedResults :
    pairValue (.reg 4) (st [(4, 0xFFFFFFFF)]) = some 0xFFFFFFFF ∧
      (0xFFFFFFFF#64).toNat / (operandValue (.lit 1) Site.src1 (st [(4, 0xFFFFFFFF)])).toNat < 2 ^ 32 ∧
      operandValue (.lit 1) Site.src1 (st [(5, 1)]) ≠ 0 ∧ pairValue (.reg 4) (st [(5, 1)]) = some 0x100000000 ∧
      (30 : RegNum).toNat % 2 = 0 ∧ (31 : RegNum).toNat % 2 ≠ 0 ∧ pairValue (.reg 31) State.reset = none ∧
      pairValue (.lit 4) State.reset = none := by decide +kernel

/-- ConditionalArithmetic: a condition that fails, and one that holds at the end of the range. -/
theorem witness_ConditionalArithmetic :
    (∀ m : BitVec 3, ∃ c : BitVec 3, ¬ (m &&& c ≠ 0 ∨ m = c)) ∧
    (∀ m : BitVec 3, m &&& m ≠ 0 ∨ m = m) ∧ (0x7FFFFFFE#32).toInt + (1#32).toInt ≤ 2147483647 := by decide

/-- SearchResults: no bit found, bit 0 and bit 31. -/
theorem witness_SearchResults :
    (∀ i < 32, (operandValue (.reg 4) Site.src1 (st [(4, 0)])).getLsbD i ≠ true) ∧
    (∀ i < 32, (operandValue (.reg 4) Site.src1 (st [(4, 0xFFFFFFFF)])).getLsbD i ≠ false) ∧
    (operandValue (.reg 4) Site.src1 (st [(4, 0x80000001)])).getLsbD 31 = true ∧
    (operandValue (.reg 4) Site.src1 (st [(4, 1)])).getLsbD 0 = true ∧
    (∀ i < 32, 0 < i → (operandValue (.reg 4) Site.src1 (st [(4, 1)])).getLsbD i ≠ true) := by decide +kernel

/-- CompareResults: AC.cc[2] 0 and 1. -/
theorem witness_CompareResults : (State.reset.withAc 3).ac.getLsbD 2 = false ∧ (State.reset.withAc 4).ac.getLsbD 2 = true ∧
    (State.reset.withAc 4).untraced := by decide

/-- NotTakenGoesOn: each condition fails in some state. -/
theorem witness_NotTakenGoesOn :
    (∀ m : BitVec 3, ∃ c : BitVec 3, ¬ (m &&& (State.reset.withAc (c.zeroExtend 32)).ac.extractLsb' 0 3 ≠ 0 ∨
      m = (State.reset.withAc (c.zeroExtend 32)).ac.extractLsb' 0 3)) ∧
    (operandValue (.reg 5) Site.src2 (st [(5, 0x80000000)])).getLsbD
      ((operandValue (.lit 31) Site.src1 (st [(5, 0x80000000)])).toNat % 32) = true ∧
    (operandValue (.reg 5) Site.src2 (st [(5, 0x80000000)])).getLsbD
      ((operandValue (.lit 0) Site.src1 (st [(5, 0x80000000)])).toNat % 32) = false ∧
    (∀ p ∈ ([(0, fun a b => decide (a ≤ b)), (0, fun a b => decide (a ≠ b)), (0, fun a b => decide (a < b)),
        (1, fun a b => decide (b ≤ a)), (1, fun a b => decide (a = b)), (2, fun a b => decide (b < a))] :
        List (Word × (Int → Int → Bool))),
      p.2 (operandValue (.reg 4) Site.src1 (st [(4, p.1), (5, 1)])).toInt
        (operandValue (.reg 5) Site.src2 (st [(4, p.1), (5, 1)])).toInt = true ∧
      p.2 (operandValue (.reg 4) Site.src1 (st [(4, p.1), (5, 1)])).toNat
        (operandValue (.reg 5) Site.src2 (st [(4, p.1), (5, 1)])).toNat = true) := by decide +kernel

/-- MoveResults: the last groups of each file. -/
theorem witness_MoveResults : ∀ p ∈ ([(1, 1, 31), (2, 2, 30), (3, 4, 28), (4, 4, 28), (4, 4, 12), (2, 2, 0)] :
    List (Nat × Nat × RegNum)), p.2.2.toNat % p.2.1 = 0 ∧ ∀ i < p.1, p.2.2 + BitVec.ofNat 5 i ≠ 2 := by decide +kernel

/-- EffectiveAddresses: a base and an index that are not r2. -/
theorem witness_EffectiveAddresses : (0 : RegNum) ≠ 2 ∧ (31 : RegNum) ≠ 2 ∧ State.reset.untraced := by decide

/-- LoadResults: the ends of internal RAM and of external memory, aligned or with unaligned accesses
masked. -/
theorem witness_LoadResults : ∀ p ∈ ([(0, 1, 0), (0x3FF, 1, 0), (0x3FE, 2, 1), (0x400, 4, 2), (0xFEFFFFFC, 4, 2),
    (0x3F8, 8, 3), (0x3F0, 12, 4), (0xFEFFFFF0, 16, 4), (0x1001, 4, 2)] : List (Word × Nat × Nat)),
    State.reset.settled (efa (.absDisp p.1) State.reset) p.2.1 ∧
      State.reset.alignedFor (efa (.absDisp p.1) State.reset) p.2.2 := by decide +kernel

theorem witness_LoadResults_strict : State.alignedFor (State.reset.withUnalignedMasked false) 0xFEFFFFF0 4 ∧
    (28 : RegNum).toNat % 4 = 0 ∧ (∀ i < 4, (28 : RegNum) + BitVec.ofNat 5 i ≠ 2) := by decide +kernel

/-- StoreResults, IntegerStoreResults: the same places, where the first 64 bytes are the supervisor's. -/
theorem witness_StoreResults : ∀ p ∈ ([(0, 1, 0), (0x3FF, 1, 0), (0x3FE, 2, 1), (0x400, 4, 2), (0xFEFFFFFC, 4, 2),
    (0x3F8, 8, 3), (0x3F0, 12, 4), (0xFEFFFFF0, 16, 4)] : List (Word × Nat × Nat)),
    State.reset.mem.wf = true ∧ State.reset.writable (efa (.absDisp p.1) State.reset) p.2.1 ∧
      State.reset.protectedIn State.reset.supervisor (efa (.absDisp p.1) State.reset) p.2.1 = false ∧
      State.reset.alignedFor (efa (.absDisp p.1) State.reset) p.2.2 := by decide +kernel

/-- IntegerStoreResults: discarded bits all 0, all 1, and neither, with AC.om 0 and 1. -/
theorem witness_IntegerStoreResults :
    ((State.srcSlot (st [(4, 0xFF)]) Site.srcDst 4).get.toNat / 2 ^ (8 * 1) = 0) ∧
    ((State.srcSlot (st [(4, 0xFFFFFF00)]) Site.srcDst 4).get.toNat / 2 ^ (8 * 1) = 2 ^ (32 - 8 * 1) - 1) ∧
    (¬ ((State.srcSlot (st [(4, 0x10000)]) Site.srcDst 4).get.toNat / 2 ^ (8 * 2) = 0 ∨
      (State.srcSlot (st [(4, 0x10000)]) Site.srcDst 4).get.toNat / 2 ^ (8 * 2) = 2 ^ (32 - 8 * 2) - 1)) ∧
    State.reset.ac.getLsbD 12 = true ∧ (State.reset.withAc 0).ac.getLsbD 12 = false := by decide +kernel

/-- UnalignedAccessFaults: odd addresses of settled memory, unaligned faults not masked. -/
theorem witness_UnalignedAccessFaults : ∀ p ∈ ([(0x3FD, 2, 1), (0x1001, 4, 2), (0x1002, 4, 2), (0x1004, 8, 3),
    (0x1008, 12, 4), (0x1008, 16, 4)] : List (Word × Nat × Nat)), ∀ s ∈ [State.reset.withUnalignedMasked false],
    s.settled (efa (.absDisp p.1) s) p.2.1 ∧ s.writable (efa (.absDisp p.1) s) p.2.1 ∧ s.mem.wf = true ∧
      s.protectedIn s.supervisor (efa (.absDisp p.1) s) p.2.1 = false ∧
      (efa (.absDisp p.1) s).toNat % 2 ^ p.2.2 ≠ 0 ∧ s.unalignedMasked = false := by decide +kernel

/-- `State.reset` in user mode. -/
def user : State := State.reset.withPc 0

/-- AccessFaults: each protection at both ends of its range, and MMR space at both ends. -/
theorem witness_AccessFaults :
    (∀ p ∈ ([(0, 4, user), (0x3F, 1, user), (0x40, 4, user.withConfig { user.config with bcon := 2 }),
        (0x3FC, 4, user.withConfig { user.config with bcon := 2 }),
        (0x3C, 4, State.reset.withConfig { State.reset.config with bcon := 4 })] : List (Word × Nat × State)),
      (efa (.absDisp p.1) p.2.2).toNat + p.2.1 ≤ 0x400 ∧
        p.2.2.protectedIn p.2.2.supervisor (efa (.absDisp p.1) p.2.2) p.2.1 = true) ∧
    0xFF000000 ≤ (efa (.absDisp 0xFF000000) State.reset).toNat ∧ 0xFF000000 ≤ (efa (.absDisp 0xFFFFFFFF) State.reset).toNat ∧
    (efa (.absDisp 0xFFFFFFFF) State.reset).toNat % 4 ≠ 0 ∧ (4 : RegNum).toNat % 4 = 0 := by decide +kernel

/-- MisalignedGroupFaults. -/
theorem witness_MisalignedGroupFaults : (31 : RegNum).toNat % 2 ≠ 0 ∧ (30 : RegNum).toNat % 4 ≠ 0 ∧
    (efa (.absDisp 0xFEFFFFF0) State.reset).toNat < 0xFF000000 ∧
    State.reset.protectedIn State.reset.supervisor (efa (.absDisp 0xFEFFFFF0) State.reset) 16 = false := by decide +kernel

/-- MmrWordAccesses: every register is named by an operand; a supervisor and a user may store to one, a user may not to
supervisor space and to a protected timer, no one to a breakpoint register without the rights. -/
theorem witness_MmrWordAccesses :
    (∀ p ∈ mmrTable, efa (.absDisp (BitVec.ofNat 32 (0xFF000000 + p.1))) State.reset = BitVec.ofNat 32 (0xFF000000 + p.1)) ∧
    (∀ p ∈ mmrTable, State.mmrGranted (State.reset.withBp { State.reset.bp with rights := ⟨true, true, true, true, true⟩ })
      p.2 = true) ∧
    ((0x300, .trr0) ∈ mmrTable ∧ user.timerProtected .trr0 = false) ∧
    State.timerProtected (user.withTimer0 { user.timer0 with tmr := 8 }) .trr0 = true ∧
    ((0x8404, .ipb1) ∈ mmrTable ∧ State.reset.mmrGranted .ipb1 = false) ∧ user.supervisor = false ∧
    State.reset.supervisor = true := by decide +kernel

/-- RipDestinationFaults: the premises of the management clauses. -/
theorem witness_RipDestinationFaults : pairValue (.reg 4) State.reset ≠ none ∧ State.reset.supervisor = true ∧
    operandValue (.lit 0) Site.src2 user = 0 ∧ (operandValue (.lit 2) Site.src1 State.reset).toNat ≤ 2 ∧
    (operandValue (.lit 4) Site.src1 State.reset).setWidth 8 = 4#8 ∧
    (operandValue (.reg 4) Site.src1 (st [(4, 0x500)])).extractLsb' 8 8 = 5#8 ∧
    (operandValue (.reg 4) Site.src1 (st [(4, 0x6FF)])).extractLsb' 8 8 = 6#8 := by decide +kernel

/-- AtomicUpdates: RAM at both ends of external memory, protected RAM, and MMR space. -/
theorem witness_AtomicUpdates : (∀ s ∈ [st [(4, 0x400)], st [(4, 0xFEFFFFFF)], st [(4, 3)]],
      s.writable (operandValue (.reg 4) Site.src1 s &&& 0xFFFFFFFC) 4 ∧
      s.protectedIn s.supervisor (operandValue (.reg 4) Site.src1 s &&& 0xFFFFFFFC) 4 = false) ∧
    user.protectedIn user.supervisor (operandValue (.lit 31) Site.src1 user &&& 0xFFFFFFFC) 4 = true ∧
    0xFF000000 ≤ (operandValue (.reg 4) Site.src1 (st [(4, 0xFF008503)]) &&& 0xFFFFFFFC).toNat ∧
    operandValue (.reg 4) Site.src1 (st [(4, 0xFF008503)]) &&& 0xFFFFFFFC = BitVec.ofNat 32 (0xFF000000 + 0x8500) ∧
    (0x8500, .ipnd) ∈ mmrTable ∧ State.reset.mmrGranted .ipnd = true ∧ State.reset.supervisor = true ∧
    user.supervisor = false ∧ ((0x8404, .ipb1) ∈ mmrTable ∧ State.reset.mmrGranted .ipb1 = false) ∧
    ((0x300, .trr0) ∈ mmrTable ∧ user.timerProtected .trr0 = false ∧
      State.timerProtected (user.withTimer0 { user.timer0 with tmr := 8 }) .trr0 = true) ∧
    MmrName.sysctlOnly .ipb1 = true ∧ MmrName.sysctlOnly .ipnd = false := by decide +kernel

/-- LocalCalls: the last call that does not spill. -/
theorem witness_LocalCalls : State.untraced State.reset ∧
    State.pushSpills (State.cached State.reset (List.replicate 6 (frame 0 0 0))) = false := by decide +kernel

/-- CallSpillsOldest: seven suspended sets, the first saved at the last 64 bytes of external memory, across the end of
internal RAM, or in protected RAM; and no suspended set, all but one of the sets being reserved. -/
def full (user : Bool) (save : Word) : State :=
  (State.cached State.reset (frame save 1 0x1004 :: List.replicate 6 (frame 0 0 0))).withPc (if user then 0 else 2)

/-- A suspended set that is spilled to a save area of RAM. -/
def spillsTo (user : Bool) (save : Word) : Prop :=
  (full user save).untraced ∧ (full user save).pushSpills = true ∧ (full user save).chainIntact = true ∧
    (full user save).mem.wf = true ∧
    (full user save).frames.cache = frame save 1 0x1004 :: List.replicate 6 (frame 0 0 0) ∧
    (full user save).wordsWritable save 16

theorem witness_CallSpillsOldest : (spillsTo false 0xFEFFFFC0 ∧ spillsTo false 0x3E0 ∧ spillsTo true 0) ∧
    (full false 0xFEFFFFC0).protectedIn (full false 0xFEFFFFC0).supervisor 0xFEFFFFC0 64 = false ∧
    (full false 0x3E0).protectedIn (full false 0x3E0).supervisor 0x3E0 64 = false ∧
    (full true 0).protectedIn (full true 0).supervisor 0 64 = true := by
  refine ⟨⟨?_, ?_, ?_⟩, ?_⟩ <;> (try unfold spillsTo) <;> decide +kernel

/-- `State.reset` in user mode with all but one of the register sets reserved. -/
def reserving : State := user.withFrames { user.frames with reserved := 7 }

theorem witness_CallSpillsOldest_own : reserving.untraced ∧ reserving.pushSpills = true ∧ reserving.frames.cache = [] ∧
    reserving.reg 31 &&& 0xFFFFFFF0 = reserving.frames.current ∧ reserving.mem.wf = true ∧
    reserving.wordsWritable reserving.frames.current 16 ∧
    reserving.protectedIn reserving.supervisor reserving.frames.current 64 = false := by decide +kernel

/-- FlushregEmptiesCache: two sets that stand side by side. -/
theorem witness_FlushregEmptiesCache :
    ∀ s ∈ [State.cached (st [(0, 0x8040)]) [frame 0x8000 1 0, frame 0x8040 2 0]],
    s.untraced ∧ s.chainIntact = true ∧ s.mem.wf = true ∧
      (∀ f ∈ s.frames.cache, s.wordsWritable f.save 16 ∧ s.protectedIn s.supervisor f.save 64 = false) ∧
      s.frames.cache.Pairwise (fun f g => f.save.toNat + 64 ≤ g.save.toNat ∨ g.save.toNat + 64 ≤ f.save.toNat) := by
  decide +kernel

/-- FlushregEmptiesCache: a set whose save area is protected. -/
theorem witness_FlushregEmptiesCache_protected : ∀ s ∈ [State.cached (user.setReg 0 0) [frame 0 1 0x1004]],
    s.frames.cache = [frame 0 1 0x1004] ∧ s.chainIntact = true ∧ s.protectedIn s.supervisor 0 64 = true := by decide +kernel

/-- SystemCalls: the last valid number, the first invalid one, and an entry of each type. -/
theorem witness_SystemCalls :
    259 < (operandValue (.reg 4) Site.src1 (st [(4, 260)])).toNat ∧
    (∀ b ∈ ([0, 1, 2] : List Byte), ∀ s ∈ [stm [(4, 259)] [(0x443C, [b])], (stm [(4, 259)] [(0x443C, [b])]).withPc 0],
      (operandValue (.reg 4) Site.src1 s).toNat ≤ 259 ∧
      s.settled (s.tables.spt + 48 + 4 * operandValue (.reg 4) Site.src1 s) 4 ∧
      s.wordAt (s.tables.spt + 48 + 4 * operandValue (.reg 4) Site.src1 s) = b.zeroExtend 32 ∧ s.untraced ∧
      s.pushSpills = false) ∧ user.supervisor = false := by decide +kernel

/-- SystemCalls: an entry of type 10 in user mode with a full register cache, spilled to RAM that only supervisor mode may
write, or to RAM that it may not write either. -/
theorem witness_SystemCalls_spill : ∀ p ∈ [((2 : Word), (0x100 : Word), false), (4, 0, true)],
    ∀ s ∈ [(((stm [] [(0x4030, [2])]).withFrames (full true p.2.1).frames).withPc 0).withConfig
      { State.reset.config with bcon := p.1 }],
    (operandValue (.lit 0) Site.src1 s).toNat ≤ 259 ∧ s.settled (s.tables.spt + 48 + 4 * operandValue (.lit 0) Site.src1 s) 4 ∧
      (s.wordAt (s.tables.spt + 48 + 4 * operandValue (.lit 0) Site.src1 s)).extractLsb' 0 2 = 2#2 ∧ s.untraced ∧
      s.supervisor = false ∧ s.pushSpills = true ∧ s.chainIntact = true ∧
      s.frames.cache = frame p.2.1 1 0x1004 :: List.replicate 6 (frame 0 0 0) ∧ s.mem.wf = true ∧
      s.wordsWritable p.2.1 16 ∧ s.protectedIn true p.2.1 64 = p.2.2 := by decide +kernel

/-- ReturnsFromCalls and ReturnsFromHandlers: each return type in both modes, to a frame in the cache or in memory. -/
def returning (rt : BitVec 3) (supervisor : Bool) (fs : List CachedFrame) : State :=
  (State.cached (st [(0, 0x2000 ||| rt.zeroExtend 32), (31, 0x3010)]) fs).withPc (if supervisor then 2 else 0)

theorem witness_ReturnsFromCalls : ∀ (rt : BitVec 3) (em : Bool), ∀ s ∈ [returning rt em [frame 0x2000 7 0x1004],
      returning rt em []], s.untraced ∧ s.pfpSound ∧ (s.reg 0).extractLsb' 0 3 = rt ∧ s.supervisor = em ∧ s.quiet := by
  decide +kernel

theorem witness_ReturnsFromHandlers : ∀ (rt : BitVec 3) (em : Bool), ∀ s ∈ [returning rt em [frame 0x2000 7 0x1004],
      returning rt em []], s.wordsSettled ((s.reg 31 &&& 0xFFFFFFF0) - 16) 2 ∧
        s.wordAt ((s.reg 31 &&& 0xFFFFFFF0) - 16) = 0 := by decide +kernel

/-- ReturnsFromCalls and ReturnsFromHandlers: the refusals, and a record whose PC image has a reserved bit. -/
theorem witness_ReturnsFromCalls_refused :
    State.reset.frames.pfpDirty = false ∧ State.reset.frames.unsetPfp = some State.reset.frames.current ∧
    (State.setReg State.reset 0 0x2000).frames.pfpDirty = true ∧
    (∀ s ∈ [returning 0 true [frame 0x3000 7 0]], s.untraced ∧ s.pfpSound ∧ (s.reg 0).extractLsb' 0 3 = 0#3 ∧
      s.frames.cache.getLast? = some (frame 0x3000 7 0) ∧ (0x3000#32) ≠ s.reg 0 &&& 0xFFFFFFF0) ∧
    (∀ s ∈ [(returning 7 true []).withMem (withBytes State.reset.mem 0x3000 [4])],
      s.wordAt ((s.reg 31 &&& 0xFFFFFFF0) - 16) &&& ~~~0x001F2403 ≠ 0 ∧ s.supervisor = true) := by decide +kernel

theorem witness_ReturnsFromCalls_cached : ∀ (rt : BitVec 3) (em : Bool),
    (returning rt em [frame 0x2000 7 0x1004]).canReturn := by
  intro rt em
  show (0x2000 : Word) = (returning rt em [frame 0x2000 7 0x1004]).reg 0 &&& 0xFFFFFFF0
  revert rt em; decide +kernel

theorem witness_ReturnsFromCalls_memory : ∀ (rt : BitVec 3) (em : Bool), (returning rt em []).canReturn := by
  intro rt em
  show (returning rt em []).wordsSettled ((returning rt em []).reg 0 &&& 0xFFFFFFF0) 16
  revert rt em; decide +kernel

/-- ConditionalFaults: each condition is met in some state and not met in another. -/
theorem witness_ConditionalFaults : ∀ m : BitVec 3,
    (m &&& (State.reset.withAc (m.zeroExtend 32)).ac.extractLsb' 0 3 ≠ 0 ∨
      m = (State.reset.withAc (m.zeroExtend 32)).ac.extractLsb' 0 3) ∧
    ∃ c : BitVec 3, ¬ (m &&& (State.reset.withAc (c.zeroExtend 32)).ac.extractLsb' 0 3 ≠ 0 ∨
      m = (State.reset.withAc (c.zeroExtend 32)).ac.extractLsb' 0 3) := by decide +kernel

/-- MarksAndSyncf: tracing off, and on with the mark mode alone or with none. -/
theorem witness_MarksAndSyncf : State.reset.untraced ∧ (∀ s ∈ [(State.reset.withPc 3).withTc 0, (State.reset.withPc 3).withTc 0x80],
    pcTe s.pc = true ∧ s.trace.teWindow = 0 ∧ s.trace.tcWindow = 0 ∧ s.bp.written = false ∧
      (s.tc.setWidth 8 = 0x80#8 ∨ s.tc.setWidth 8 = 0x00#8)) := by decide +kernel

/-- SupervisorOnlyInstructions: both modes, a mask that is 0 and one that is not. -/
theorem witness_SupervisorOnlyInstructions : user.supervisor = false ∧ operandValue (.lit 1) Site.src2 user ≠ 0 ∧
    operandValue (.lit 0) Site.src2 user = 0 ∧ user.untraced ∧ user.chainIntact = true ∧
    (∀ f ∈ (State.cached user [frame 0x8000 1 0]).frames.cache, user.wordsWritable f.save 16 ∧
      user.protectedIn user.supervisor f.save 64 = false) := by decide +kernel

/-- LocalFaultCall: the fault table of `State.reset` has local entries; its stack is RAM. -/
theorem witness_LocalFaultCall : ∀ k ∈ [FaultKind.invalidOpcode, .unimplemented, .unaligned, .invalidOperand, .overflow,
    .zeroDivide, .range, .length, .mismatch], ∀ s ∈ [State.reset], s.untraced ∧ k ≠ .prereturn ∧ s.pushSpills = false ∧
    s.mem.wf = true ∧ s.settled (s.tables.fault + 8 * k.typeNumber.zeroExtend 32) 4 ∧
    (s.wordAt (s.tables.fault + 8 * k.typeNumber.zeroExtend 32)).extractLsb' 0 2 = 0#2 ∧
    s.wordsWritable (frameAt (s.reg 1)) 12 ∧ s.protectedIn s.supervisor (frameAt (s.reg 1)) 48 = false := by decide +kernel

/-- A state whose fault table has system entries for OVERFLOW and TRACE that name the last procedure, of type `kind`, and
whose supervisor stack is in external memory. -/
def faulting (kind : Byte) (pc : Word) : State :=
  (stm [(1, 0x8040)] [(0x5008, [0x0E, 0x04, 0, 0, 0x7F, 0x02]), (0x5018, [0x0E, 0x04, 0, 0, 0x7F, 0x02]),
    (0x443C, [kind])]).withPc pc
    |>.withTables { State.reset.tables with ssp := 0x6000 }

/-- SupervisorFaultCall: a system entry that names the last procedure, of type 00 and 10, in both modes. -/
theorem witness_SupervisorFaultCall : ∀ kind switches : Bool,
    ∀ s ∈ [faulting (if kind then 2 else 0) (if switches then 0 else 2)],
    s.untraced ∧ s.pushSpills = false ∧ s.mem.wf = true ∧
    s.settled (s.tables.fault + 8 * FaultKind.overflow.typeNumber.zeroExtend 32) 4 ∧
    s.wordAt (s.tables.fault + 8 * FaultKind.overflow.typeNumber.zeroExtend 32) = 0x40E ∧
    s.tables.spt + 48 + 4 * (0x40E#32 >>> 2) = 0x443C ∧ s.settled 0x443C 4 ∧ (s.wordAt 0x443C).getLsbD 0 = false := by
  decide +kernel

theorem witness_SupervisorFaultCall_second : ∀ kind switches : Bool,
    ∀ s ∈ [faulting (if kind then 2 else 0) (if switches then 0 else 2)],
    s.settled (s.tables.fault + 8 * FaultKind.overflow.typeNumber.zeroExtend 32 + 4) 4 ∧
    s.wordAt (s.tables.fault + 8 * FaultKind.overflow.typeNumber.zeroExtend 32 + 4) = 0x27F ∧
    s.settled (s.tables.fault + 12) 4 ∧ s.wordAt (s.tables.fault + 12) = 0x27F := by decide +kernel

/-- SupervisorFaultCall: a system entry whose second word is 0. -/
theorem witness_SupervisorFaultCall_refused : ∀ s ∈ [stm [] [(0x5018, [0x0E, 0x04])]],
    s.wordAt (s.tables.fault + 8 * FaultKind.overflow.typeNumber.zeroExtend 32) = 0x40E ∧
    s.settled (s.tables.fault + 8 * FaultKind.overflow.typeNumber.zeroExtend 32 + 4) 4 ∧
    s.wordAt (s.tables.fault + 8 * FaultKind.overflow.typeNumber.zeroExtend 32 + 4) ≠ 0x27F := by decide +kernel

theorem witness_SupervisorFaultCall_stack : ∀ switches : Bool, ∀ s ∈ [faulting 2 (if switches then 0 else 2)],
    s.wordsWritable (frameAt (if switches then s.tables.ssp &&& 0xFFFFFFFC else s.reg 1)) 12 ∧
    s.protectedIn true (frameAt (if switches then s.tables.ssp &&& 0xFFFFFFFC else s.reg 1)) 48 = false ∧
    s.protectedIn false (frameAt (if switches then s.tables.ssp &&& 0xFFFFFFFC else s.reg 1)) 48 = false := by decide +kernel

/-- TraceEvents: every mode enabled, a call to the last procedure in both modes, each kind of return. -/
theorem witness_TraceEvents : ∀ em : Bool,
    ∀ s ∈ [((faulting 2 (if em then 3 else 1)).setReg 4 259).withTc 0xFE], s.traced ∧ s.pushSpills = false ∧
      (operandValue (.reg 4) Site.src1 s).toNat ≤ 259 ∧
      s.settled (s.tables.spt + 48 + 4 * operandValue (.reg 4) Site.src1 s) 4 ∧
      (s.wordAt (s.tables.spt + 48 + 4 * operandValue (.reg 4) Site.src1 s)).extractLsb' 0 2 = 2#2 ∧
      s.supervisor = em := by decide +kernel

theorem witness_TraceEvents_prereturn : ∀ on : Bool,
    ∀ s ∈ [((State.cached (st [(0, 0x2008), (31, 0x3010)]) [frame 0x2000 7 0x1004]).withPc 3).withTc (if on then 0x20 else 0)],
      s.traced ∧ s.pfpSound ∧ (s.reg 0).extractLsb' 0 3 = 0#3 ∧ (s.reg 0).getLsbD 3 = true ∧ s.tc.getLsbD 5 = on := by
  decide +kernel

theorem witness_TraceEvents_return : State.canReturn
    (((State.cached (st [(0, 0x2008), (31, 0x3010)]) [frame 0x2000 7 0x1004]).withPc 3).withTc 0) := by
  show (0x2000 : Word) = State.reg _ 0 &&& 0xFFFFFFF0
  decide +kernel

/-- TraceFaultCalls: a local entry, procedures of both types in both modes, a fault with tracing on, and a return to a PC
with te and tfp. -/
theorem witness_TraceFaultCalls : State.reset.settled (State.reset.tables.fault + 8) 4 ∧
    (State.reset.wordAt (State.reset.tables.fault + 8)).extractLsb' 0 2 = 0#2 ∧
    (∀ kind em : Bool, ∀ s ∈ [faulting (if kind then 2 else 0) (if em then 3 else 1)],
      s.settled (s.tables.fault + 8) 4 ∧ s.wordAt (s.tables.fault + 8) = 0x40E ∧
      (s.wordAt 0x443C).extractLsb' 0 2 = (if kind then 2#2 else 0#2) ∧ s.pushSpills = false ∧ s.mem.wf = true) := by
  decide +kernel

/-- TraceFaultCalls: RANGE with the instruction mode enabled. -/
theorem witness_TraceFaultCalls_deferred : ∀ s ∈ [(State.reset.withPc 3).withTc 2],
    s.traced ∧ s.tc.getLsbD 1 = true ∧ s.pushSpills = false ∧ s.mem.wf = true ∧
      s.settled (s.tables.fault + 8 * FaultKind.range.typeNumber.zeroExtend 32) 4 ∧
      s.wordAt (s.tables.fault + 8 * FaultKind.range.typeNumber.zeroExtend 32) = 0 ∧
      s.wordsWritable (frameAt (s.reg 1)) 12 ∧ s.protectedIn s.supervisor (frameAt (s.reg 1)) 48 = false := by decide +kernel

theorem witness_TraceFaultCalls_return : ∀ interrupt : Bool,
    ∀ s ∈ [(returning (if interrupt then 7 else 1) true [frame 0x2000 7 0x1004]).withMem
        (withBytes State.reset.mem 0x3000 [1, 4])], s.untraced ∧ s.pfpSound ∧ s.supervisor = true ∧ s.quiet ∧
      s.wordsSettled ((s.reg 31 &&& 0xFFFFFFF0) - 16) 2 ∧ s.wordAt ((s.reg 31 &&& 0xFFFFFFF0) - 16) = 0x401 := by decide +kernel

/-- ControlRegisterResults: a mask of PC that keeps the reserved bits and one that does not. -/
theorem witness_ControlRegisterResults : State.reset.supervisor = true ∧ State.reset.untraced ∧ State.reset.quiet ∧
    (∀ p ∈ [(st [(4, 0x001F0000), (5, 0)], true), (st [(4, 2), (5, 0)], true), (st [(4, 0x100), (5, 0x100)], false)],
      operandValue (.reg 4) Site.src2 p.1 ≠ 0 ∧
      ((((p.1.reg 5 &&& p.1.reg 4) ||| (p.1.pc &&& ~~~p.1.reg 4)) ^^^ p.1.pc) &&& ~~~0x001F2403#32 = 0 ↔ p.2 = true)) := by decide +kernel

/-- InterruptControl: the operands 0, 1, 2 and 3. -/
theorem witness_InterruptControl : State.reset.supervisor = true ∧ State.reset.untraced ∧ State.reset.quiet ∧
    2 < (operandValue (.lit 3) Site.src1 State.reset).toNat ∧
    (∀ v : BitVec 5, operandValue (.lit v) Site.src1 State.reset = v.zeroExtend 32) := by decide +kernel

/-- CacheControl: each function, and the first and the last reserved one. -/
theorem witness_CacheControl : State.reset.supervisor = true ∧ State.reset.untraced ∧
    (∀ f ∈ [0, 1, 2, 3, 4, 5, 7, 0xFF],
      (operandValue (.reg 4) Site.src1 (st [(4, BitVec.ofNat 32 f)])).setWidth 8 = BitVec.ofNat 8 f) := by decide +kernel

/-- SystemControl: each message, with the lowest and the highest vector for message 0. -/
theorem witness_SystemControl :
    (∀ v ∈ [0x008, 0x0FF, 0x100, 0x200, 0x201, 0x500, 0x600, 0x400, 0x700, 0xFF00],
      operandValue (.reg 4) Site.src1 (st [(4, BitVec.ofNat 32 v)]) = BitVec.ofNat 32 v) ∧
    (∀ s ∈ [State.reset.withIntr { State.reset.intr with icon := 0x400 }], s.supervisor = true ∧ s.untraced ∧ s.mem.wf = true ∧
      s.intr.nmiPending = false ∧ s.intr.icon.getLsbD 10 = true ∧ s.writable s.tables.interrupt 36 ∧
      s.protectedIn true s.tables.interrupt 36 = false) ∧ State.reset.quiet ∧
    (∃ p ∈ mmrTable, BitVec.ofNat 32 p.1 = (0x85040500#32 : Word) >>> 16 ∧ State.reset.mmrGranted p.2 = true) ∧
    (∃ p ∈ mmrTable, BitVec.ofNat 32 p.1 = (0x84000500#32 : Word) >>> 16 ∧ State.reset.mmrGranted p.2 = false) ∧
    ((0x85020500#32 : Word) >>> 16).extractLsb' 0 2 ≠ 0#2 ∧ ((0x85080500#32 : Word) >>> 16).extractLsb' 0 2 = 0#2 ∧
    (∀ p ∈ mmrTable, BitVec.ofNat 32 p.1 ≠ (0x85080500#32 : Word) >>> 16) := by decide +kernel

/-- SystemControl: the interrupt table at both ends of protected internal RAM, the byte of a vector at both sides of the
bound. -/
theorem witness_SystemControl_protected : ∀ p ∈ [((0 : Word), (0 : Nat), true), (0x3C, 0, true), (0x18, 31, true),
      (0x1C, 31, true), (0x20, 31, false), (0x3C, 1, false)],
    ∀ s ∈ [((st [(4, BitVec.ofNat 32 (8 * p.2.1))]).withTables { State.reset.tables with interrupt := p.1 }).withConfig
      { State.reset.config with bcon := 4 }],
    s.supervisor = true ∧ s.config.bcon.getLsbD 2 = true ∧ s.tables.interrupt.toNat < 0x40 ∧
      s.tables.interrupt.toNat % 4 = 0 ∧ (operandValue (.reg 4) Site.src1 s).extractLsb' 8 8 = 0#8 ∧
      ((operandValue (.reg 4) Site.src1 s).setWidth 8).toNat / 8 = p.2.1 ∧
      (p.2.2 = true ↔ p.2.1 = 0 ∨ s.tables.interrupt.toNat + 4 + p.2.1 < 0x40) := by decide +kernel

/-- CacheLoadsAndDumps: each count, the load-and-lock modes, the first and the last set, a range that is empty. -/
theorem witness_CacheLoadsAndDumps :
    (∀ f ∈ [0x003, 0x006, 0x204, 0x206], operandValue (.reg 4) Site.src1 (st [(4, BitVec.ofNat 32 f)]) = BitVec.ofNat 32 f) ∧
    (∀ v ∈ [0, 1, 2, 0x7F007F, 0xFFFF0000, 1], operandValue (.reg 5) Site.srcDst (st [(5, BitVec.ofNat 32 v)]) = BitVec.ofNat 32 v) ∧
    State.reset.supervisor = true ∧ State.reset.untraced ∧ State.reset.mem.wf = true ∧
    (∀ i < 4 * State.reset.plat.part.lockWords,
      State.reset.kindAt ((0x20000000#32 &&& 0xFFFFFFF0) + BitVec.ofNat 32 i) ≠ .absent) ∧
    (State.reset.wordsWritable 0x3000 13 ∧ State.reset.protectedIn true 0x3000 52 = false) := by decide +kernel

/-- Reinitialization: a PRCB of zeros. -/
def reinitializing : State := st [(4, 0x300), (5, 0x3000)]

theorem witness_Reinitialization : reinitializing.supervisor = true ∧ reinitializing.untraced ∧
    reinitializing.mem.wf = true ∧ (operandValue (.reg 4) Site.src1 reinitializing).extractLsb' 8 8 = 3#8 ∧
    operandValue (.reg 5) Site.srcDst reinitializing = 0x3000 ∧ reinitializing.wordAt 0x3004 = 0 ∧
    reinitializing.wordAt 0x3010 = 0 ∧ reinitializing.wordAt 0x3014 = 0 := by decide +kernel

theorem witness_Reinitialization_settled : reinitializing.wordsSettled 0x3000 10 ∧ reinitializing.wordsSettled 0x10 24 ∧
    reinitializing.settled 996 4 ∧ reinitializing.settled 12 4 := by decide +kernel

/-- InterruptDelivery: an interrupted state and one that is not, the cache all but full, the first and the last vector, with
and without vector caching and the mask operations, a pin that is low. -/
theorem witness_InterruptDelivery : ∀ edge masks caching : Bool,
    ∀ s ∈ [(State.cached State.reset (List.replicate 6 (frame 0 0 0))).withIntr { State.reset.intr with
        pins := 0, icon := (if edge then 4 else 0) ||| (if masks then 0x800 else 0) ||| (if caching then 0x2000 else 0) },
      user],
    s.pcLegal = true ∧ s.mem.wf = true ∧ s.frames.cache.length + 1 < 8 - s.frames.reserved.toNat ∧
    s.wordsWritable (frameAt (if s.pc.getLsbD 13 then s.reg 1 else s.tables.isp)) 4 ∧
    s.protectedIn true (frameAt (if s.pc.getLsbD 13 then s.reg 1 else s.tables.isp)) 16 = false := by decide +kernel

theorem witness_InterruptDelivery_entry : user.settled (user.tables.interrupt + 4 + 4 * (8 : Byte).zeroExtend 32) 4 ∧
    user.settled (user.tables.interrupt + 4 + 4 * (255 : Byte).zeroExtend 32) 4 := by decide +kernel

/-- SoftwareDelivery: nothing posted, a word whose byte is 0, vector 8 alone and vector 255 above another. -/
theorem witness_SoftwareDelivery : ∀ p ∈ ([([], 0, 0), ([(0x7000, [2])], 2, 0), ([(0x7000, [2]), (0x7005, [1])], 2, 1),
      ([(0x7003, [0x80]), (0x7023, [0x81])], 0x80000000, 0x81)] : List (List (Nat × List Byte) × Word × Byte)),
    ∀ s ∈ [stm [] p.1], s.tables.interrupt = 0x7000 ∧ s.mem.wf = true ∧ s.wordAt 0x7000 = p.2.1 ∧
      (s.byteAt 0x7005 = p.2.2 ∨ s.byteAt 0x7023 = p.2.2) := by decide +kernel

theorem witness_SoftwareDelivery_place : State.reset.wordsWritable 0x7000 9 ∧ State.reset.protectedIn true 0x7000 36 = false ∧
    State.reset.pcLegal = true ∧ State.reset.frames.cache.length + 1 < 8 - State.reset.frames.reserved.toNat ∧
    State.reset.wordsWritable 0xA040 4 ∧ State.reset.protectedIn true 0xA040 16 = false ∧
    frameAt (if State.reset.pc.getLsbD 13 then State.reset.reg 1 else State.reset.tables.isp) = 0xA040 ∧
    State.reset.settled (0x7004 + 4 * 8) 4 ∧ State.reset.settled (0x7004 + 4 * 255) 4 := by decide +kernel

theorem witness_SoftwareDelivery_apart : ∀ i < 36, ∀ j < 80, (0x7000 : Word) + BitVec.ofNat 32 i ≠ 0xA040 + BitVec.ofNat 32 j := by
  decide +kernel

/-- PendingSourceChoice: an NMI, one that waits for the first, a request of each kind above the priority, and none. -/
theorem witness_PendingSourceChoice :
    State.pendingSource (State.reset.withIntr { State.reset.intr with nmiPending := true }) = some .nmi ∧
    (State.reset.withIntr { State.reset.intr with nmiPending := true, nmiFrame := some 0 }).pendingSource = none ∧
    (user.withIntr { user.intr with ipnd := 0x1000, imsk := 0x1000, imap2 := 0x10000 }).pendingSource =
      some (.hardware ⟨0x12, 12, true⟩) ∧
    (user.withIntr { user.intr with icon := 1, imsk := 1, vector := some 0xFF }).pendingSource =
      some (.hardware ⟨0xFF, 0, false⟩) ∧
    (user.withIntr { user.intr with swPriority := 1 }).pendingSource = some .software ∧
    (user.withIntr { user.intr with swPriority := 1, icon := 0x400 }).pendingSource = none := by decide +kernel

/-- `State.reset` with a boot record that names a PRCB at 00303000H; the other bytes of memory are 0. -/
def bootable : State := { State.reset with mem := { cells := [(0xFEFFFF45, 0x30), (0xFEFFFF46, 0x30)], freeBytes := [] } }

/-- A word that `bootable` reads during a reset, its bytes the same in both byte orders: the byte order of a reset depends
on a free value. -/
theorem bootable_word (a : Word) (x y : Byte) (h : ∀ p ∈ [(a, x), (a + 1, y), (a + 2, y), (a + 3, x)],
    bootable.resetCore.peek8 true p.1 = p.2) : bootable.resetCore.peek32 true a = x ++ y ++ y ++ x := by
  rw [State.peek32, h (a, x) (by simp), h (a + 1, y) (by simp), h (a + 2, y) (by simp), h (a + 3, x) (by simp)]
  cases bootable.resetCore.bigEndian <;> rfl

/-- ResetProcessControls: a hardware reset that completes. -/
theorem witness_ResetProcessControls_pin : ∃ t, hardwareReset bootable = .ok () t ∧ t.pc = 0x001F2002 := by
  have zero : ∀ a : Word, (∀ i ∈ [0, 1, 2, 3], bootable.resetCore.peek8 true (a + BitVec.ofNat 32 i) = 0) →
      bootable.resetCore.peek32 true a = 0 := by
    intro a h
    refine bootable_word a 0 0 ?_
    have h0 := h 0 (by simp)
    rw [show a + BitVec.ofNat 32 0 = a by simp] at h0
    simp only [List.mem_cons, List.not_mem_nil, or_false]
    rintro p (rfl | rfl | rfl | rfl)
    · exact h0
    · exact h 1 (by simp)
    · exact h 2 (by simp)
    · exact h 3 (by simp)
  have prcb : bootable.resetCore.peek32 true 0xFEFFFF44 = 0x00303000 := by
    refine (bootable_word 0xFEFFFF44 0 0x30 ?_).trans (by decide)
    simp only [List.mem_cons, List.not_mem_nil, or_false]
    rintro p (rfl | rfl | rfl | rfl) <;> decide +kernel
  refine hardwareReset_zeros 0x00303000 bootable rfl prcb ?_ ?_
  · simp only [List.mem_cons, List.not_mem_nil, or_false]
    rintro k (rfl | rfl | rfl | rfl | rfl | rfl | rfl | rfl | rfl) <;> decide
  · simp only [List.mem_cons, List.not_mem_nil, or_false]
    rintro k (rfl | rfl | rfl | rfl) <;> refine zero _ ?_ <;>
      simp only [List.mem_cons, List.not_mem_nil, or_false] <;> rintro i (rfl | rfl | rfl | rfl) <;> decide +kernel

/-- ResetProcessControls: a reinitialization from a PRCB of zeros completes. -/
theorem witness_ResetProcessControls :
    (operandValue (.reg 4) Site.src1 (st [(4, 0x300), (5, 0x3000)])).extractLsb' 8 8 = 3#8 ∧
    State.untraced (st [(4, 0x300), (5, 0x3000)]) ∧ State.supervisor (st [(4, 0x300), (5, 0x3000)]) = true ∧
    Holds (exec (.sysctl (.reg 4) (.reg 5) 5) (st [(4, 0x300), (5, 0x3000)])) (fun t => t.ip == 0x3000) = true := by
  decide +kernel

/-- DecodeOfEncode: well-formed instructions of one and of two words. -/
theorem witness_DecodeOfEncode : Instr.wellFormed (.b 0xFFFFFC) = true ∧
    Instr.wellFormed (.st 18 (.indIndexDisp 4 3 .x4 0x30)) = true := by decide

/-- TimerClocks: a timer that counts, reaches 0, holds 0 with and without reload, and is stopped. -/
theorem witness_TimerClocks : ∀ enable reload : Bool, ∀ n ∈ [0, 1, 5],
    (({ trr := 7, tcr := BitVec.ofNat 32 n, tmr := (if enable then 2 else 0) ||| (if reload then 4 else 0) } :
      Timer).tmr.getLsbD 1 = enable) ∧
    (({ trr := 7, tcr := BitVec.ofNat 32 n, tmr := (if enable then 2 else 0) ||| (if reload then 4 else 0) } :
      Timer).tmr.getLsbD 2 = reload) := by decide +kernel

/-- ReservedEncodingsRefused: a word for each clause, and one that decodes. -/
theorem witness_ReservedEncodingsRefused :
    decode 0x591C4981 0 = .ok (.subi (.lit 1) (.reg 17) 3) ∧
    ((0x3F000001#32).toNat / 2 ^ 24 < 0x40 ∧ (0x3F000001#32).getLsbD 0 = true) ∧
    ((0x27002000#32).toNat / 2 ^ 24 < 0x28 ∧ (0x27002000#32).getLsbD 13 = true) ∧
    ((0x58000020#32).getLsbD 5 = true ∧ (0x58000040#32).getLsbD 6 = true) ∧
    ((0x5C202610#32).getLsbD 13 = true ∧ 16 * ((0x5C202610#32).toNat / 2 ^ 24) + (0x5C202610#32).toNat / 2 ^ 7 % 16 = 0x5CC) ∧
    ((0x90001800#32).getLsbD 12 = true ∧ (0x90001800#32).toNat / 2 ^ 10 % 16 = 6) ∧
    (5 ≤ (0x90001E80#32).toNat / 2 ^ 7 % 8 ∧ (0x90001020#32).getLsbD 5 = true) ∧
    ((0x07000000#32).toNat / 2 ^ 24 < 0x08 ∧ (0xFF000000#32).toNat / 2 ^ 24 = 0xFF) := by decide +kernel

/-- ReservedEncodingsRefused: the unlisted 12-bit opcodes 585H, 599H and 5A8H. -/
theorem witness_ReservedEncodingsRefused_twelve : ∀ p ∈ ([(0x58000280, 0x585), (0x59000480, 0x599), (0x5A000400, 0x5A8)] :
    List (Word × Nat)), 16 * (p.1.toNat / 2 ^ 24) + p.1.toNat / 2 ^ 7 % 16 = p.2 ∧ decode p.1 0 = .error .unlistedOpcode := by
  decide +kernel

/-- StepRunsDecoded: an instruction at IP, a word that is none, an IP outside external memory, a halt, and an interrupt. -/
theorem witness_StepRunsDecoded :
    (∀ s ∈ [State.reset, stm [] [(0x1000, [0x14, 0, 0, 8])], (stm [] [(0xFEFFFFFC, [0x14, 0, 0, 8])]).withIp 0xFEFFFFFC],
      s.inputs = [] ∧ s.pendingSource = none ∧ s.intr.halted = false ∧ s.codeSettled s.ip ∧
      needsSecondWord (s.wordAt s.ip) = false) ∧
    decode (State.reset.wordAt 0x1000) 0 = .error .unlistedOpcode ∧
    decode (State.wordAt (stm [] [(0x1000, [0x14, 0, 0, 8])]) 0x1000) 0 = .ok (.b 0x14) ∧
    (State.reset.withIp 0x3FC).ip.toNat < 0x400 ∧ 0xFF000000 ≤ (State.reset.withIp 0xFF000000).ip.toNat ∧
    (∀ h : Bool, State.pendingSource (State.reset.withIntr { State.reset.intr with nmiPending := true, halted := h }) = some .nmi) ∧
    (∀ s ∈ [stm [] [(0x1000, [0x00, 0x30, 0x00, 0x84, 0x78, 0x56, 0x34, 0x12])]], s.codeSettled s.ip ∧
      needsSecondWord (s.wordAt s.ip) = true ∧ (s.fetched s.ip).codeSettled (s.ip + 4)) := by
  decide +kernel

/-- DeliveryIsFair: an NMI that waits for one more instruction, a branch. -/
theorem witness_DeliveryIsFair : ∀ s ∈ [(stm [] [(0x1000, [0x14, 0, 0, 8])]).withIntr
      { State.reset.intr with nmiPending := true, latency := some 1 }], s.inputs = [] ∧ s.pendingSource = some .nmi ∧
    s.intr.halted = false ∧ s.intr.latency = some (0 + 1) ∧
    Holds (step s) (fun t => t.ip == 0x1014 && t.inputs == [] && t.pendingSource == some .nmi && !t.intr.halted &&
      t.intr.latency == some 0 && Holds (step t) (fun u => u.intr.nmiFrame == some (u.reg 31))) = true := by decide +kernel

/-- DeliveryIsFair: an interrupt that has just become deliverable. -/
theorem witness_DeliveryIsFair_new : ∀ s ∈ [State.reset.withIntr { State.reset.intr with nmiPending := true }],
    s.inputs = [] ∧ s.pendingSource = some .nmi ∧ s.intr.halted = false ∧ s.intr.latency = none := by decide +kernel

/-- StepKeepsInvariant: `State.reset` meets the invariant, and its step ends in a state. -/
theorem witness_StepKeepsInvariant : State.reset.Inv ∧ Holds (step State.reset) (fun _ => true) = true := by
  simp only [State.Inv]; decide +kernel

/-- UserModeKeepsSystemState: an instruction that completes in user mode. -/
theorem witness_UserModeKeepsSystemState : user.supervisor = false ∧
    Holds (exec (.addo (.lit 1) (.lit 2) 3) user) (fun t => t.reg 3 == 3) = true := by decide +kernel

end Sys2Proof.Tests
end

section
/-! Returns: the state that each operation of `ret` leaves where the frame that PFP names can be restored
(45_call_return R504 to R509, R523), and the end of an instruction that checks for interrupts while none waits
(60_exceptions R680, R682). -/

namespace Sys2Proof.Machine

/-! The end of an instruction while no interrupt waits. -/

/-- Nothing is delivered while no interrupt is requested, whatever PC and ICON allow (60_exceptions R682). -/
theorem State.pendingSource_quiet (s : State) (h : s.quiet) : s.pendingSource = none := by
  obtain ⟨hnmi, hhard, hsoft⟩ := h
  simp [State.pendingSource, hnmi, hhard, hsoft]

theorem checkPending_quiet (s : State) (h : s.quiet) : checkPending s = .ok () s := by
  simp [checkPending, M.bind_run, s.pendingSource_quiet h]

/-- `run_transfer` for an instruction that also checks for interrupts, of which none waits (60_exceptions R680). -/
theorem run_transfer_quiet {len : Word} {action : M Done} {s t : State} {d : Done} (h : action s = .ok d t)
    (hu : s.untraced) (hw : t.trace.teWindow = 0) (hp : d.pendingTrace = false) (ht : d.transfer = true)
    (hq : t.quiet) : run len action s = .next (t.retire d.branch) := by
  have hpoll : checkPending (t.retire d.branch) = .ok () (t.retire d.branch) := checkPending_quiet _ hq
  cases hd : d.poll with
  | false => exact run_transfer h hu hw hp hd ht
  | true => simp [run, h, complete, toOutcome, M.bind_run, hp, ht, hd, s.tracedUntil_untraced t hu hw, hpoll]

/-- The outcome of an action depends on what it answers in the state it is started in alone. -/
theorem run_congr {len : Word} {x y : M Done} {s : State} (h : x s = y s) : run len x s = run len y s := by
  simp only [run, h]

/-! The frame that PFP names. -/

/-- `s` with the locals of the frame that PFP names in place of its own, which leave the cache if they were there
(45_call_return R505). -/
def State.popped (s : State) : State :=
  (s.withLocals (Vector.ofFn fun i : Fin 16 => s.savedSlot i.val)).withFrames
    { s.frames with cache := s.frames.cache.dropLast }

/-- `pop_frame` of a frame that can be restored. -/
theorem popFrame_ok (s : State) (h : s.canReturn) : popFrame s.pfpAddress s = .ok () s.popped := by
  cases hl : s.frames.cache.getLast? with
  | some f =>
    have hlink : f.link = s.pfpAddress := by
      simpa [State.canReturn, hl, State.pfpAddress] using h
    have hregs : (Vector.ofFn fun i : Fin 16 => s.savedSlot i.val) = f.regs := by
      ext i hi; simp [State.savedSlot, hl]
    simp [popFrame, M.bind_run, hl, hlink, State.popped, hregs]
  | none =>
    have hset : s.wordsSettled s.pfpAddress 16 := by
      simpa only [State.canReturn, hl, State.pfpAddress] using h
    have hregs : (Vector.ofFn fun i : Fin 16 => s.savedSlot i.val) =
        Vector.ofFn fun i : Fin 16 => Slot.val (s.peek32 true (s.pfpAddress + BitVec.ofNat 32 (4 * i.val))) := by
      ext i hi
      simp only [Vector.getElem_ofFn, State.savedSlot, hl, s.peek32_settled true _ (hset i hi)]
      rfl
    have hcache : s.frames.cache = s.frames.cache.dropLast := by simp [List.getLast?_eq_none_iff.mp hl]
    simp only [popFrame, M.bind_run, M.get_run, hl, M.set_run, checkWords_settled _ _ _ hset, State.popped, hregs,
      ← hcache]
    rfl

/-- `get_FP_and_IP` to a frame that can be restored. -/
theorem returnToFrame_ok (s : State) (h : s.canReturn) : returnToFrame s = .ok () (s.backIn s.popped) := by
  simp only [returnToFrame, M.bind_run, M.get_run, popFrame_ok s h, M.modify_run]
  rfl

@[simp] theorem State.popped_locals (s : State) :
    s.popped.locals = Vector.ofFn fun i : Fin 16 => s.savedSlot i.val := rfl
@[simp] theorem State.popped_globals (s : State) : s.popped.globals = s.globals := rfl
@[simp] theorem State.backIn_locals (s t : State) : (s.backIn t).locals = t.locals := rfl
@[simp] theorem State.backIn_globals (s t : State) :
    (s.backIn t).globals = t.globals.set 15 (.val s.pfpAddress) := rfl

/-- The local registers are those of the frame that PFP names. -/
theorem State.slot_backIn_local (s : State) (n : RegNum) (hn : n.toNat < 16) :
    (s.backIn s.popped).slot n = s.savedSlot n.toNat := by
  simp [State.slot, hn]

/-- Of the global registers only g15 changes. -/
theorem State.slot_backIn_global (s : State) (n : RegNum) (hn : 16 ≤ n.toNat) :
    (s.backIn s.popped).slot n = if n = 31 then .val s.pfpAddress else s.slot n := by
  have h31 : n = 31 ↔ 15 = n.toNat - 16 := by bv_omega
  simp only [State.slot, dif_neg (Nat.not_lt.mpr hn), h31, State.backIn_globals, State.popped_globals,
    Vector.getElem_set]

/-- A return to a frame that can be restored is the return of the spec. -/
theorem State.returnsTo_backIn (s : State) : s.returnsTo (s.backIn s.popped) := by
  refine ⟨s.slot_backIn_local, ?fp, ?globals, ?ip, rfl, rfl, rfl, rfl, rfl⟩
  case fp => exact s.slot_backIn_global 31 (by decide)
  case globals => intro n hn h31; rw [s.slot_backIn_global n hn, if_neg h31]
  case ip => exact congrArg (fun v : Slot => v.get &&& 0xFFFFFFFC) (s.slot_backIn_local 2 (by decide))

/-- The return to a frame changes no special state and no memory. -/
theorem State.sameSpecial_backIn (s : State) : s.sameSpecial (s.backIn s.popped) := by
  simp [State.sameSpecial, State.backIn, State.popped, State.jump]
theorem State.sameBytes_backIn (s : State) : s.sameBytes (s.backIn s.popped) := fun _ => rfl

/-! The controls that a handler's return restores. -/

/-- The saved PC and AC of the record below the frame of `s` (60_exceptions R655, R690). -/
abbrev State.recordPc (s : State) : Word := s.wordAt (s.fpAddress - 16)
abbrev State.recordAc (s : State) : Word := s.wordAt (s.fpAddress - 12)

/-- A handler's return would restore a pending trace fault (60_exceptions R703). -/
abbrev State.restoresPending (s : State) : Bool := s.supervisor && (pcTe s.recordPc && pcTfp s.recordPc)

/-- The saved controls where the record is settled memory (45_call_return R523, 60_exceptions R656). -/
theorem savedControls_ok (s : State) (h : s.wordsSettled (s.fpAddress - 16) 2) :
    savedControls s = .ok (s.recordPc, s.recordAc) s := by
  have hpc : s.settled (s.fpAddress - 16) 4 := by simpa using h 0 (by decide)
  have hac : s.settled (s.fpAddress - 12) 4 := by
    have h4 : s.fpAddress - 16 + BitVec.ofNat 32 (4 * 1) = s.fpAddress - 12 := by bv_omega
    exact h4 ▸ h 1 (by decide)
  simp only [savedControls, M.bind_run, M.get_run, M.pure_run, readImplicit_ok true _ s hpc,
    readImplicit_ok true _ s hac]

/-- `t` with AC restored, and PC where the return executes in supervisor mode (45_call_return R523). -/
def State.withControls (t : State) (supervisor : Bool) (pc ac : Word) : State :=
  if supervisor then (t.withAc (ac &&& acMask)).setPcNow pc else t.withAc (ac &&& acMask)

/-- The controls are no part of the frame. -/
theorem State.returnsTo.withControls {s t : State} (h : s.returnsTo t) (em : Bool) (pc ac : Word) :
    s.returnsTo (t.withControls em pc ac) := by
  cases em <;> exact h

/-- The controls are no special state but PC. -/
theorem State.sameSpecial.withControls {s t : State} (h : s.sameSpecial t) (em : Bool) (pc ac : Word) :
    s.sameSpecial ((t.withControls em pc ac).withPc s.pc) := by
  obtain ⟨-, rest⟩ := h
  cases em <;> exact ⟨rfl, rest⟩

/-- The controls are no memory. -/
theorem State.sameBytes.withControls {s t : State} (h : s.sameBytes t) (em : Bool) (pc ac : Word) :
    s.sameBytes (t.withControls em pc ac) := by
  cases em <;> exact h

theorem restoreControls_ok (em : Bool) (pc ac : Word) (t : State) (h : em = true → pc &&& ~~~pcMask = 0) :
    restoreControls em pc ac t = .ok (em && (pcTe pc && pcTfp pc)) (t.withControls em pc ac) := by
  cases em with
  | false => rfl
  | true => simp [restoreControls, M.bind_run, M.map_run, h rfl, State.withControls]

/-- A PC image with a reserved bit set is refused (00_scope R11). -/
theorem restoreControls_refuses (pc ac : Word) (t : State) (h : pc &&& ~~~pcMask ≠ 0) :
    restoreControls true pc ac t = .error (.refuse .pcImageReserved) (t.withAc (ac &&& acMask)) := by
  simp only [restoreControls, M.bind_run, M.modify_run, if_true, if_pos h, M.refuse_run]

/-- `s` back from a handler: in the frame that PFP names, with the controls of the record below the handler's frame
(45_call_return R523; 60_exceptions R656, R691). Irreducible, so that a comparison of two states stops at it and uses
the lemmas below. -/
@[irreducible] def State.handlerReturned (s : State) : State :=
  (s.backIn s.popped).withControls s.supervisor s.recordPc s.recordAc

section
variable (s : State)

theorem State.handlerReturned_ac : s.handlerReturned.ac = s.recordAc &&& acMask := by
  unfold State.handlerReturned State.withControls; split <;> rfl

theorem State.handlerReturned_pc :
    s.handlerReturned.pc = if s.supervisor then s.recordPc else s.pc := by
  unfold State.handlerReturned State.withControls; split <;> rfl

@[simp] theorem State.handlerReturned_intr : s.handlerReturned.intr = s.intr := by
  unfold State.handlerReturned State.withControls; split <;> rfl

theorem State.handlerReturned_teWindow (h : s.trace.teWindow = 0) : s.handlerReturned.trace.teWindow = 0 := by
  unfold State.handlerReturned State.withControls; split
  · rfl
  · exact h

theorem State.returnsTo_handlerReturned : s.returnsTo s.handlerReturned := by
  unfold State.handlerReturned; exact s.returnsTo_backIn.withControls _ _ _

theorem State.sameSpecial_handlerReturned : s.sameSpecial (s.handlerReturned.withPc s.pc) := by
  unfold State.handlerReturned; exact s.sameSpecial_backIn.withControls _ _ _

theorem State.sameBytes_handlerReturned : s.sameBytes s.handlerReturned := by
  unfold State.handlerReturned; exact s.sameBytes_backIn.withControls _ _ _

end

/-- The return from an exception: it answers whether the PC it restored holds a pending trace fault. -/
theorem handlerReturn_ok (s : State) (hr : s.canReturn) (hset : s.wordsSettled (s.fpAddress - 16) 2)
    (hpc : s.supervisor = true → s.recordPc &&& ~~~pcMask = 0) :
    handlerReturn s = .ok s.restoresPending s.handlerReturned := by
  simp only [handlerReturn, M.bind_run, M.get_run, savedControls_ok s hset, returnToFrame_ok s hr,
    restoreControls_ok s.supervisor _ _ _ hpc, State.handlerReturned]

theorem handlerReturn_refuses (s : State) (hr : s.canReturn) (hset : s.wordsSettled (s.fpAddress - 16) 2)
    (hem : s.supervisor = true) (hpc : s.recordPc &&& ~~~pcMask ≠ 0) :
    ∃ t, handlerReturn s = .error (.refuse .pcImageReserved) t := by
  refine ⟨(s.backIn s.popped).withAc (s.recordAc &&& acMask), ?_⟩
  simp only [handlerReturn, M.bind_run, M.get_run, savedControls_ok s hset, returnToFrame_ok s hr, hem]
  exact restoreControls_refuses _ _ _ hpc

/-! `ret` by return type. -/

/-- An untraced `ret` with a sound PFP is the return action that its return type selects (45_call_return R504, R523). -/
theorem exec_ret_eq (s : State) (hu : s.untraced) (hp : s.pfpSound) :
    exec .ret s = run 4 (returnBy ((s.reg 0).extractLsb' 0 3)) s := by
  show run 4 _ s = _
  refine run_congr ?_
  obtain ⟨hclean, hset⟩ := hp
  simp [M.bind_run, hclean, hset, s.traceOn_untraced hu]

/-- The report of a handler's return: `pending` as the restored PC says, and whether interrupts must be checked. -/
def handlerDone (pending poll : Bool) : Done := { transferred evReturn with pendingTrace := pending, poll := poll }

/-- Return type 1 is the return from an exception (45_call_return R504, 60_exceptions R656). -/
theorem returnBy_fault {s t : State} {pending : Bool} (h : handlerReturn s = .ok pending t) :
    returnBy 1#3 s = .ok (handlerDone pending false) t := by
  show (handlerReturn >>= _) s = _
  rw [M.bind_ok h]
  rfl

/-- `t` with the NMI handler ended if its frame is at `fp` (60_exceptions R684, R691; notes/assumptions/42.md). -/
def State.nmiEnded (t : State) (fp : Word) : State :=
  t.withIntr { t.intr with nmiFrame := if t.intr.nmiFrame = some fp then none else t.intr.nmiFrame }

/-- The frame of the NMI handler is no request. -/
theorem State.quiet.nmiEnded {t : State} (h : t.quiet) (fp : Word) : (t.nmiEnded fp).quiet := h

/-- Return type 7 also ends the NMI handler and has interrupts checked (45_call_return R504, 60_exceptions R691). -/
theorem returnBy_interrupt {s t : State} {pending : Bool} (h : handlerReturn s = .ok pending t) :
    returnBy 7#3 s = .ok (handlerDone pending true) (t.nmiEnded s.fpAddress) := by
  show ((get : M State) >>= _) s = _
  rw [M.bind_ok (M.get_run s), M.bind_ok h, M.bind_ok (M.modify_run _ t)]
  by_cases hn : t.intr.nmiFrame = some s.fpAddress
  · simp only [State.nmiEnded, if_pos hn]; rfl
  · simp only [State.nmiEnded, if_neg hn]; rfl

/-- A stop of the return from an exception is that of both handler return types. -/
theorem returnBy_handler_stops {s t : State} {e : Exit} (h : handlerReturn s = .error e t) {rt : BitVec 3}
    (hrt : rt = 1#3 ∨ rt = 7#3) : returnBy rt s = .error e t := by
  obtain rfl | rfl := hrt
  · exact M.bind_error h
  · show ((get : M State) >>= _) s = _
    rw [M.bind_ok (M.get_run s)]
    exact M.bind_error h

/-! `ret` from fault and interrupt handlers. -/

section
variable {s : State} (hu : s.untraced) (hp : s.pfpSound) (hr : s.canReturn)
  (hset : s.wordsSettled (s.fpAddress - 16) 2)
include hu hp hr hset

/-- A handler's return in supervisor mode to a PC image with a reserved bit set is refused (00_scope R11). -/
theorem ret_refuses_pcImage (hem : s.supervisor = true) (hpc : s.recordPc &&& ~~~pcMask ≠ 0)
    (hrt : (s.reg 0).extractLsb' 0 3 = 1#3 ∨ (s.reg 0).extractLsb' 0 3 = 7#3) :
    exec .ret s = .refused .pcImageReserved := by
  obtain ⟨t, ht⟩ := handlerReturn_refuses s hr hset hem hpc
  rw [exec_ret_eq s hu hp]
  exact run_refuse 4 _ s t _ (returnBy_handler_stops ht hrt)

variable (hpc : s.supervisor = true → s.recordPc &&& ~~~pcMask = 0)
  (htfp : s.restoresPending = false)
include hpc htfp

/-- The step of a fault handler's return that restores no pending trace fault (60_exceptions R656). -/
theorem ret_fault_next (hrt : (s.reg 0).extractLsb' 0 3 = 1#3) :
    exec .ret s = .next (s.handlerReturned.retire true) := by
  have hh := handlerReturn_ok s hr hset hpc
  rw [htfp] at hh
  rw [exec_ret_eq s hu hp, hrt]
  exact run_transfer (returnBy_fault hh) hu (s.handlerReturned_teWindow hu.2) rfl rfl rfl

/-- The step of an interrupt handler's return while no interrupt waits (60_exceptions R691). -/
theorem ret_interrupt_next (hrt : (s.reg 0).extractLsb' 0 3 = 7#3) (hq : s.quiet) :
    exec .ret s = .next ((s.handlerReturned.nmiEnded s.fpAddress).retire true) := by
  have hh := handlerReturn_ok s hr hset hpc
  rw [htfp] at hh
  have hq' : s.handlerReturned.quiet := by simpa only [State.quiet, s.handlerReturned_intr] using hq
  rw [exec_ret_eq s hu hp, hrt]
  exact run_transfer_quiet (returnBy_interrupt hh) hu (s.handlerReturned_teWindow hu.2) rfl rfl (hq'.nmiEnded _)

end

/-- Settles O33: a handler's return is the frame return of `returnsTo_backIn` followed by the controls of the record,
and with no pending trace fault and no interrupt waiting the step ends there. -/
theorem returnsFromHandlers : Obligations.ReturnsFromHandlers := by
  unfold Obligations.ReturnsFromHandlers
  rintro s fp hfp hu hp hr hset _ rfl
  obtain rfl : fp = s.fpAddress := hfp
  refine ⟨fun hem hpc hrt => ret_refuses_pcImage hu hp hr hset hem hpc hrt, fun hok => ?_⟩
  have hpc : s.supervisor = true → s.recordPc &&& ~~~pcMask = 0 := by
    intro hem
    obtain huser | ⟨hpc, -⟩ := hok
    · simp [hem] at huser
    · exact hpc
  have htfp : s.restoresPending = false := by
    obtain huser | ⟨-, hte | htfp⟩ := hok
    · rw [State.restoresPending, huser, Bool.false_and]
    · rw [State.restoresPending, show pcTe s.recordPc = false from hte, Bool.false_and, Bool.and_false]
    · rw [State.restoresPending, show pcTfp s.recordPc = false from htfp, Bool.and_false, Bool.and_false]
  refine ⟨fun hrt => ?fault, fun hrt hq => ?interrupt⟩
  case fault =>
    exact ⟨_, ret_fault_next hu hp hr hset hpc htfp hrt, s.returnsTo_handlerReturned, s.handlerReturned_ac,
      s.handlerReturned_pc, s.sameSpecial_handlerReturned, s.sameBytes_handlerReturned⟩
  case interrupt =>
    have hintr : ((s.handlerReturned.nmiEnded s.fpAddress).retire true).intr = { s.intr with
        nmiFrame := if s.intr.nmiFrame = some s.fpAddress then none else s.intr.nmiFrame } := by
      rw [← s.handlerReturned_intr]; rfl
    have hspecial : s.sameSpecial
        ((((s.handlerReturned.nmiEnded s.fpAddress).retire true).withPc s.pc).withIntr s.intr) := by
      obtain ⟨pc, tc, tables, unaligned, config, bp, -, rest⟩ := s.sameSpecial_handlerReturned
      exact ⟨pc, tc, tables, unaligned, config, bp, rfl, rest⟩
    exact ⟨_, ret_interrupt_next hu hp hr hset hpc htfp hrt hq, s.returnsTo_handlerReturned, s.handlerReturned_ac,
      s.handlerReturned_pc, congrArg Interrupts.nmiFrame hintr, hspecial, by rw [hintr], s.sameBytes_handlerReturned⟩

end Sys2Proof.Machine
end

section
/-! What every instruction keeps: the invariant, and in user mode the system state (10_state R52, 48_processor_management
R580). One relation holds both, so that the actions are walked through once. -/

namespace Sys2Proof.Machine

/-! Actions that lead to a predicate, in the shapes that actions have. -/

/-- An action made only where `p` holds, and what follows it in either case. -/
theorem M.leads_when {α β : Type} {P : State → Prop} {p : Prop} [Decidable p] {x : M α} {f : M β} {s : State}
    (hx : p → M.Leads P x s) (hf : ∀ t, P t → M.Leads P f t) (h : P s) :
    M.Leads P (if p then x >>= fun _ => f else f) s :=
  M.leads_ite (fun hp => M.leads_bind (hx hp) fun _ => hf) fun _ => hf s h

/-- What an action leads to where each of two predicates is led to under its own premise. -/
theorem M.Leads.imp_and {α : Type} {p q : Prop} {P Q : State → Prop} {x : M α} {s : State}
    (hP : p → M.Leads P x s) (hQ : q → M.Leads Q x s) : M.Leads (fun t => (p → P t) ∧ (q → Q t)) x s :=
  ⟨fun a t e => ⟨fun h => (hP h).1 a t e, fun h => (hQ h).1 a t e⟩,
    fun a t e => ⟨fun h => (hP h).2 a t e, fun h => (hQ h).2 a t e⟩⟩

/-! The system state. -/

/-- What no instruction changes in user mode: the cached pointers, the memory configuration, the breakpoint registers and
rights, the fault mask, the device word, the cache enables and lock, the reserved frames, ICON and the interrupt maps, and
what the outside fixes (10_state R52; 20_memory R94; 48_processor_management R580). -/
structure SystemState where
  tables : Tables
  config : MemConfig
  bp : Breakpoints
  unalignedMasked : Bool
  deviceId : Word
  dataEnabled : Bool
  instrEnabled : Bool
  instrLocked : Bool
  reserved : BitVec 3
  icon : Word
  imap0 : Word
  imap1 : Word
  imap2 : Word
  plat : Platform
  inputs : List (List Event)

/-- The system state of a state. -/
def State.system (s : State) : SystemState where
  tables := s.tables
  config := s.config
  bp := s.bp
  unalignedMasked := s.unalignedMasked
  deviceId := s.deviceId
  dataEnabled := s.cache.dataEnabled
  instrEnabled := s.cache.instrEnabled
  instrLocked := s.cache.instrLocked
  reserved := s.frames.reserved
  icon := s.intr.icon
  imap0 := s.intr.imap0
  imap1 := s.intr.imap1
  imap2 := s.intr.imap2
  plat := s.plat
  inputs := s.inputs

/-- `t` has the system state of `s` and is halted only if `s` is. -/
def State.SystemKept (s t : State) : Prop := t.system = s.system ∧ (t.intr.halted = true → s.intr.halted = true)

theorem State.SystemKept.refl (s : State) : s.SystemKept s := ⟨rfl, id⟩

section
variable {s t : State} (h : s.SystemKept t)
include h

theorem State.SystemKept.trans {u : State} (k : t.SystemKept u) : s.SystemKept u :=
  ⟨k.1.trans h.1, fun hu => h.2 (k.2 hu)⟩

theorem State.SystemKept.withGlobals (v : Vector Slot 16) : s.SystemKept (t.withGlobals v) := h
theorem State.SystemKept.withLocals (v : Vector Slot 16) : s.SystemKept (t.withLocals v) := h
theorem State.SystemKept.withIp (v : Word) : s.SystemKept (t.withIp v) := h
theorem State.SystemKept.withAc (v : Word) : s.SystemKept (t.withAc v) := h
theorem State.SystemKept.withPc (v : Word) : s.SystemKept (t.withPc v) := h
theorem State.SystemKept.withTc (v : Word) : s.SystemKept (t.withTc v) := h
theorem State.SystemKept.withTimer0 (v : Timer) : s.SystemKept (t.withTimer0 v) := h
theorem State.SystemKept.withTimer1 (v : Timer) : s.SystemKept (t.withTimer1 v) := h
theorem State.SystemKept.withTrace (v : TraceDelay) : s.SystemKept (t.withTrace v) := h
theorem State.SystemKept.withFree (v : Nat) : s.SystemKept (t.withFree v) := h
theorem State.SystemKept.setPcNow (v : Word) : s.SystemKept (t.setPcNow v) := (h.withPc v).withTrace _
theorem State.SystemKept.jump (a : Word) : s.SystemKept (t.jump a) := h
theorem State.SystemKept.retire (b : Bool) : s.SystemKept (t.retire b) := (h.withTrace _).withFree _
theorem State.SystemKept.signal (ev : BitVec 8) : s.SystemKept (t.signal ev) := h.withTc _

/-- The parts of the interrupt controller that are no system state: what is requested, and that the machine runs. -/
theorem State.SystemKept.withIntr {v : Interrupts} (hv : (v.icon, v.imap0, v.imap1, v.imap2) =
    (t.intr.icon, t.intr.imap0, t.intr.imap1, t.intr.imap2)) (hh : v.halted = true → t.intr.halted = true) :
    s.SystemKept (t.withIntr v) := by
  simp only [Prod.mk.injEq] at hv
  obtain ⟨icon, map0, map1, map2⟩ := hv
  exact h.trans ⟨by simp [State.system, icon, map0, map1, map2], hh⟩

theorem State.SystemKept.withFrames {v : Frames} (hv : v.reserved = t.frames.reserved) : s.SystemKept (t.withFrames v) :=
  h.trans ⟨by simp [State.system, hv], id⟩

theorem State.SystemKept.setSlot (n : RegNum) (v : Slot) : s.SystemKept (t.setSlot n v) :=
  h.trans ⟨by simp [State.system, State.setSlot_frames]; split <;> rfl, by simp⟩

theorem State.SystemKept.storeFrame {u : State} (f : State.StoreFrame t u) : s.SystemKept u :=
  h.trans ⟨by simp [State.system, f.tables, f.config, f.bp, f.unalignedMasked, f.deviceId, f.dataEnabled,
    f.instrEnabled, f.instrLocked, f.frames, f.intr, f.plat, f.inputs], by rw [f.intr]; exact id⟩

theorem State.SystemKept.pokeWords (a : Word) (vs : List Slot) : s.SystemKept (t.pokeWords a vs) :=
  h.storeFrame (t.pokeWords_frame a vs)

end

/-! The system state through the shared operations. -/

section
variable {s t : State} (h : s.SystemKept t)
include h

theorem State.Pushed.systemKept {u : State} {f : CachedFrame} (hp : t.Pushed f u) : s.SystemKept u := by
  cases hp with
  | kept => exact h.withFrames rfl
  | itself => exact h.pokeWords _ _
  | spilled => exact (h.pokeWords _ _).withFrames (by rw [(t.pokeWords_frame _ _).frames])

theorem State.SystemKept.enterFrame (pfp fp target : Word) : s.SystemKept (t.enterFrame pfp fp target) := by
  have stored := ((h.pokeWords fp (newSaveArea t.free)).withLocals (newLocals t.free pfp (fp + 64))).withGlobals
    (t.globals.set 15 (.val fp))
  exact ((stored.withFrames (by simp [(t.pokeWords_frame _ _).frames])).withFree _).jump _

theorem doCall_system (rip : Slot) (target : Word) (rt : BitVec 3) (base : Word) :
    M.Leads s.SystemKept (doCall rip target rt base) t := by
  rcases doCall_cases rip target rt base t with ⟨u, hp, e⟩ | ⟨x, e, -⟩
  · exact M.leads_of_ok e ((hp.systemKept h).enterFrame _ _ _)
  · exact M.leads_of_error e h

theorem State.Popped.systemKept {u : State} {a : Word} (hp : t.Popped a u) : s.SystemKept u := by
  cases hp with
  | cached => exact (h.withLocals _).withFrames rfl
  | loaded => exact h.withLocals _

theorem returnToFrame_system : M.Leads s.SystemKept returnToFrame t := by
  rcases returnToFrame_cases t with ⟨u, hp, e⟩ | ⟨x, e, -⟩
  · exact M.leads_of_ok e ((((hp.systemKept h).withGlobals _).withFrames rfl).jump (u.reg 2))
  · exact M.leads_of_error e h

theorem State.SystemKept.faultStored (n sub : BitVec 8) (ip : Slot) (d sw : Bool) :
    s.SystemKept (t.faultStored n sub ip d sw) := by
  simp only [State.faultStored]
  split
  · exact (h.pokeWords _ _).setPcNow _
  · exact h.pokeWords _ _

theorem faultCall_system (n sub : BitVec 8) (rip ip : Slot) (d : Bool) :
    M.Leads s.SystemKept (faultCall n sub rip ip d) t := by
  rcases faultCall_cases n sub rip ip d t with ⟨target, sw, -, e⟩ | ⟨x, e, -⟩
  · have call := doCall_system (h.faultStored n sub ip d sw) rip target 1 (t.faultStack sw + Config.faultRecordBytes)
    exact ⟨fun b u k => call.1 b u (e ▸ k), fun b u k => call.2 b u (e ▸ k)⟩
  · exact M.leads_of_error e h

theorem faulted_system (ip len : Word) (k : FaultKind) : M.Leads s.SystemKept (faulted ip len k) t :=
  M.leads_get_bind (M.leads_bind (M.leads_set _ ((h.signal _).retire _)) fun _ _ hu => faultCall_system hu _ _ _ _ _)

theorem State.SystemKept.interruptStored (v : Byte) : s.SystemKept (t.interruptStored v) :=
  ((h.pokeWords _ _).setPcNow _).withIntr rfl fun hv => by cases hv

theorem interruptCall_system (v : Byte) (target : Word) : M.Leads s.SystemKept (interruptCall v target) t := by
  rcases interruptCall_cases v target t with e | ⟨x, e, -⟩
  · have call : M.Leads s.SystemKept (doCall (.val t.ip) target 7 (t.interruptStack + 16) >>= fun _ =>
        pure (t.interruptStack + 16)) (t.interruptStored v) :=
      M.leads_bind (doCall_system (h.interruptStored v) _ _ _ _) fun _ _ hu => M.leads_pure _ hu
    exact ⟨fun b u k => call.1 b u (e ▸ k), fun b u k => call.2 b u (e ▸ k)⟩
  · exact M.leads_of_error e h

theorem writeImplicit_system (em : Bool) (a : Word) (vs : List Slot) : M.Leads s.SystemKept (writeImplicit em a vs) t := by
  rcases writeImplicit_cases em a vs t with e | ⟨x, e, -⟩
  · exact M.leads_of_ok e (h.pokeWords _ _)
  · exact M.leads_of_error e h

theorem deliverNmi_system : M.Leads s.SystemKept deliverNmi t :=
  M.leads_get_bind (M.leads_bind (M.leads_set _ (h.withIntr rfl id)) fun _ _ hu =>
    M.leads_bind (interruptCall_system hu _ _) fun _ _ hv => M.leads_modify _ (hv.withIntr rfl id))

theorem deliverHardware_system (r : Request) : M.Leads s.SystemKept (deliverHardware r) t := by
  have call : ∀ target u, s.SystemKept u → M.Leads s.SystemKept (interruptCall r.vector target >>= fun _ =>
      if t.intr.icon.getLsbD (if r.dedicated then 11 else 12) then
        modify (fun u => (u.setReg 3 t.intr.imsk).withIntr { u.intr with imsk := 0 }) else pure ()) u :=
    fun target u hu => M.leads_bind (interruptCall_system hu _ _) fun _ v hv =>
      M.leads_ite (fun _ => M.leads_modify _ ((hv.setSlot _ _).withIntr (by simp) (by simp))) fun _ => M.leads_pure _ hv
  refine M.leads_get_bind (M.leads_ite (fun _ => M.leads_bind (M.leads_pure _ h) ?_) fun _ =>
    M.leads_bind ((vectorEntry_looks _ t).leads h) ?_) <;>
  exact fun target u hu => M.leads_when (fun _ => M.leads_modify _ (hu.withIntr rfl id)) (call target) hu

theorem deliverSoftware_system : M.Leads s.SystemKept deliverSoftware t := by
  refine M.leads_get_bind (M.leads_bind ((readImplicit_looks _ _ t).leads h) fun pend u hu => ?_)
  cases topBit pend 32 with
  | none => exact M.leads_modify _ (hu.withIntr rfl id)
  | some p =>
    have hc : M.Looks (checkImplicit (t.tables.interrupt + 4 + BitVec.ofNat 32 p) 1) u :=
      (checkImplicit_cases _ 1 u).imp_left fun e => ⟨_, e⟩
    refine M.leads_bind (hc.leads hu) fun _ v hv => ?_
    dsimp only
    cases topBit (BitVec.zeroExtend 32 (t.peek8 false (t.tables.interrupt + 4 + BitVec.ofNat 32 p))) 8 with
    | none => exact M.leads_modify _ (hv.withIntr rfl id)
    | some k =>
      exact M.leads_bind (M.leads_modify _ (hv.storeFrame (v.poke8_frame _ _))) fun _ _ h1 =>
        M.leads_bind (writeImplicit_system h1 _ _ _) fun _ _ h2 =>
        M.leads_bind (M.leads_modify _ (h2.withIntr rfl id)) fun _ w h3 =>
        M.leads_bind ((vectorEntry_looks _ w).leads h3) fun _ _ h4 =>
        M.leads_bind (interruptCall_system h4 _ _) fun _ _ h5 => M.leads_pure _ h5

theorem checkPending_system : M.Leads s.SystemKept checkPending t := by
  refine M.leads_get_bind ?_
  cases t.pendingSource with
  | none => exact M.leads_pure _ h
  | some src =>
    cases src with
    | nmi => exact deliverNmi_system h
    | hardware r => exact deliverHardware_system h r
    | software => exact deliverSoftware_system h

theorem complete_system (ip len : Word) (on : Bool) (d : Done) : M.Leads s.SystemKept (complete ip len on d) t := by
  have poll : ∀ u : State, s.SystemKept u → M.Leads s.SystemKept (if d.poll then checkPending else pure ()) u :=
    fun u hu => M.leads_ite (fun _ => checkPending_system hu) fun _ => M.leads_pure _ hu
  have advanced : s.SystemKept (if d.transfer then t else t.withIp (t.ip + len)) := by
    split
    · exact h
    · exact h.withIp _
  refine M.leads_bind (M.leads_modify _ advanced) fun _ u hu => M.leads_get_bind (M.leads_bind
    (M.leads_set _ (hu.retire _)) fun _ v hv => M.leads_when (fun _ => M.leads_modify _ (hv.withPc _)) (fun w hw => ?_) hv)
  refine M.leads_ite (fun _ => ?signalled) fun _ => ?pending
  case signalled =>
    exact M.leads_bind (M.leads_modify _ (hw.signal _)) fun _ _ hx =>
      M.leads_bind (faultCall_system hx _ _ _ _ _) fun _ => poll
  case pending =>
    exact M.leads_when (fun _ => faultCall_system hw _ _ _ _ _) poll hw

end

/-! What an instruction keeps. -/

/-- From `s` to `t` the invariant is kept, and in user mode the system state. -/
def State.Keeps (s t : State) : Prop := (s.Inv → t.Inv) ∧ (s.supervisor = false → s.SystemKept t)

theorem State.Keeps.refl (s : State) : s.Keeps s := ⟨id, fun _ => .refl s⟩

/-- What an action keeps whose two halves are known. -/
theorem State.Keeps.leads {α : Type} {s t : State} {x : M α} (h : s.Keeps t) (hi : t.Inv → M.Leads State.Inv x t)
    (hs : s.SystemKept t → M.Leads s.SystemKept x t) : M.Leads s.Keeps x t :=
  M.Leads.imp_and (fun hs' => hi (h.1 hs')) fun hu => hs (h.2 hu)

/-- An instruction of one or two words keeps what its action keeps, whatever fault, trace or interrupt ends its step. -/
theorem run_keeps {len : Word} {action : M Done} {s t : State} (e : run len action s = .next t)
    (hl : len.extractLsb' 0 2 = 0#2) (ha : M.Leads s.Keeps action s) : s.Keeps t := by
  unfold run at e
  split at e
  · rename_i d u hu
    exact ((ha.1 _ _ hu).leads (complete_inv _ _ _ d hl) fun h => complete_system h _ _ _ d).next e
  · rename_i k u hu
    exact ((ha.2 _ _ hu).leads (faulted_inv _ _ k) fun h => faulted_system h _ _ k).next e
  all_goals cases e

end Sys2Proof.Machine
end

section
/-! What the actions of instructions keep, for the shared shapes and then for each instruction. -/

namespace Sys2Proof.Machine

/-! Single changes. -/

section
variable {s t : State} (h : s.Keeps t)
include h

theorem State.Keeps.setSlot (n : RegNum) (v : Slot) : s.Keeps (t.setSlot n v) :=
  ⟨fun hi => (h.1 hi).setSlot n v, fun hu => (h.2 hu).setSlot n v⟩

theorem State.Keeps.setReg (n : RegNum) (v : Word) : s.Keeps (t.setReg n v) := h.setSlot n _

theorem State.Keeps.setGroup (n : RegNum) (i : Nat) (vs : List Slot) : s.Keeps (t.setGroup n i vs) := by
  induction vs generalizing t i with
  | nil => exact h
  | cons v rest ih =>
    rw [State.setGroup]
    cases groupReg n i with
    | none => exact ih h (i + 1)
    | some r => exact ih (h.setSlot r v) (i + 1)

/-- A change of AC that sets no undefined bit. -/
theorem State.Keeps.withAc {w : Word} (hw : t.ac &&& ~~~acMask = 0 → w &&& ~~~acMask = 0) : s.Keeps (t.withAc w) := by
  refine ⟨fun hi => (h.1 hi).withAc _ (hw ?_), fun hu => (h.2 hu).withAc _⟩
  obtain ⟨-, -, hac, -⟩ := h.1 hi
  simpa [State.acLegal] using hac

theorem State.Keeps.setCc (c : BitVec 3) : s.Keeps (t.setCc c) := h.withAc (merge_legal _ _ _ _ (by decide))

theorem State.Keeps.setOverflowFlag : s.Keeps t.setOverflowFlag :=
  by
  refine h.withAc fun hac => ?_
  have hor : (t.ac ||| 0x100) &&& ~~~acMask = (t.ac &&& ~~~acMask) ||| (0x100 &&& ~~~acMask) := by
    ext i hi; simp only [BitVec.getElem_and, BitVec.getElem_or, Bool.and_or_distrib_right]
  rw [hor, hac]
  decide

/-- A change of TC that sets no bit that the machine does not hold. -/
theorem State.Keeps.withTc {w : Word} (hw : t.tc &&& ~~~tcMask = 0 → w &&& ~~~tcMask = 0) : s.Keeps (t.withTc w) := by
  refine ⟨fun hi => (h.1 hi).withTc _ (hw ?_), fun hu => (h.2 hu).withTc _⟩
  obtain ⟨-, -, -, -, htc, -⟩ := h.1 hi
  simpa [State.tcLegal] using htc

/-- A change of PC that sets no undefined bit. -/
theorem State.Keeps.withPc {w : Word} (hw : t.pc &&& ~~~pcMask = 0 → w &&& ~~~pcMask = 0) : s.Keeps (t.withPc w) :=
  ⟨fun hi => (h.1 hi).withPc _ (hw (h.1 hi).pcLegal_eq), fun hu => (h.2 hu).withPc _⟩

theorem State.Keeps.withTrace (v : TraceDelay) : s.Keeps (t.withTrace v) :=
  ⟨fun hi => (h.1 hi).withTrace v, fun hu => (h.2 hu).withTrace v⟩

theorem State.Keeps.setPcNow {w : Word} (hw : t.pc &&& ~~~pcMask = 0 → w &&& ~~~pcMask = 0) : s.Keeps (t.setPcNow w) :=
  (h.withPc hw).withTrace _

theorem State.Keeps.withLocals (v : Vector Slot 16) : s.Keeps (t.withLocals v) :=
  ⟨fun hi => (h.1 hi).withLocals v, fun hu => (h.2 hu).withLocals v⟩

theorem State.Keeps.withFrames {v : Frames} (hv : v.cache.length ≤ t.frames.cache.length)
    (hr : v.reserved = t.frames.reserved) : s.Keeps (t.withFrames v) :=
  ⟨fun hi => (h.1 hi).withFrames v (hv.trans (h.1 hi).bound), fun hu => (h.2 hu).withFrames hr⟩

theorem State.Keeps.jump (a : Word) : s.Keeps (t.jump a) := ⟨fun hi => (h.1 hi).jump a, fun hu => (h.2 hu).jump a⟩

theorem State.Keeps.poke8 (a : Word) (v : MByte) : s.Keeps (t.poke8 a v) :=
  ⟨fun hi => (h.1 hi).poke8 a v, fun hu => (h.2 hu).storeFrame (t.poke8_frame a v)⟩

theorem State.Keeps.poke1 (a : Word) (v : Slot) : s.Keeps (t.poke1 a v) := h.poke8 a _

theorem State.Keeps.poke16 (a : Word) (v : Slot) : s.Keeps (t.poke16 a v) :=
  ⟨fun hi => (h.1 hi).poke16 a v, fun hu => (h.2 hu).storeFrame (t.poke16_frame a v)⟩

theorem State.Keeps.poke32 (a : Word) (v : Slot) : s.Keeps (t.poke32 a v) :=
  ⟨fun hi => (h.1 hi).poke32 a v, fun hu => (h.2 hu).storeFrame (t.poke32_frame a v)⟩

theorem State.Keeps.pokeWords (a : Word) (vs : List Slot) : s.Keeps (t.pokeWords a vs) :=
  ⟨fun hi => (h.1 hi).pokeWords a vs, fun hu => (h.2 hu).pokeWords a vs⟩

/-- The side effect of a read of a memory-mapped register is to a timer. -/
theorem State.Keeps.afterMmrRead (r : MmrName) : s.Keeps (t.afterMmrRead r) := by
  unfold State.afterMmrRead
  split
  · exact ⟨fun hi => (h.1 hi).withTimer0 _, fun hu => (h.2 hu).withTimer0 _⟩
  · exact ⟨fun hi => (h.1 hi).withTimer1 _, fun hu => (h.2 hu).withTimer1 _⟩
  · exact h

end

/-- The registers of user space are those of the timers (10_state R52, R55). -/
theorem mem_timers_of_userSpace {a : Word} {r : MmrName} (hr : mmrAt a = some r) (ha : supervisorSpace a = false) :
    r ∈ [MmrName.trr0, .tcr0, .tmr0, .trr1, .tcr1, .tmr1] := by
  have listed : ∀ {l : List (Nat × MmrName)} {k : Nat}, findOpcode k l = some r → (k, r) ∈ l := by
    intro l k
    induction l with
    | nil => simp [findOpcode]
    | cons p rest ih =>
      obtain ⟨k', r'⟩ := p
      simp only [findOpcode]
      split
      · rename_i hk
        intro e; cases e; simp [hk]
      · exact fun e => List.mem_cons_of_mem _ (ih e)
  have user : ∀ p ∈ mmrTable, p.1 < 0x8000 → p.2 ∈ [MmrName.trr0, .tcr0, .tmr0, .trr1, .tcr1, .tmr1] := by decide
  refine user _ (listed hr) ?_
  simp only [supervisorSpace, decide_eq_false_iff_not] at ha
  dsimp only
  omega

/-- No memory-mapped register holds a part of the invariant. -/
theorem State.Inv.setMmr {s : State} (h : s.Inv) (v : Word) (r : MmrName) : (s.setMmr v r).Inv := by
  cases r <;> exact h

/-- A store to a register whose checks have passed. -/
theorem State.Keeps.setMmr {s t : State} (h : s.Keeps t) {a : Word} {r : MmrName} (hr : mmrAt a = some r)
    (ha : supervisorSpace a = true → s.supervisor = true) (v : Word) : s.Keeps (t.setMmr v r) := by
  refine ⟨fun hi => (h.1 hi).setMmr v r, fun hu => ?_⟩
  have hm := mem_timers_of_userSpace hr (by cases hs : supervisorSpace a <;> simp_all)
  simp only [List.mem_cons, List.not_mem_nil, or_false] at hm
  have hk := h.2 hu
  obtain rfl | rfl | rfl | rfl | rfl | rfl := hm
  · exact hk.withTimer0 _
  · exact hk.withTimer0 _
  · exact hk.withTimer0 _
  · exact hk.withTimer1 _
  · exact hk.withTimer1 _
  · exact hk.withTimer1 _

/-! Checks. -/

section
variable {P : State → Prop} {s : State} (h : P s)
include h

theorem checkDst_leads (n : RegNum) (count : Nat) : M.Leads P (checkDst n count) s :=
  M.leads_ite (fun _ => M.leads_raise _ h) fun _ => M.leads_pure _ h

theorem checkRange_leads (a : Word) (n : Nat) : M.Leads P (checkRange a n) s := by
  rcases checkRange_cases a n s with e | ⟨x, e, -⟩
  · exact M.leads_of_ok e h
  · exact M.leads_of_error e h

theorem checkLoad_leads (a : Word) (n : Nat) : M.Leads P (checkLoad a n) s :=
  M.leads_ite (fun _ => M.leads_raise _ h) fun _ => checkRange_leads h a n

theorem checkProtected_leads (a : Word) (n : Nat) : M.Leads P (checkProtected a n) s := by
  rcases checkProtected_cases a n s with e | e | e
  · exact M.leads_of_ok e h
  · exact M.leads_of_error e h
  · exact M.leads_of_error e h

theorem unalignedTrap_leads (a : Word) (bits : Nat) : M.Leads P (unalignedTrap a bits) s :=
  M.leads_get_bind (M.leads_ite (fun _ => M.leads_raise _ h) fun _ => M.leads_pure _ h)

theorem checkMmrAligned_leads (a : Word) : M.Leads P (checkMmrAligned a) s :=
  M.leads_ite (fun _ => M.leads_raise _ h) fun _ => M.leads_pure _ h

end

/-- What the checks of a store to a memory-mapped register answer (20_memory R93 to R95). -/
theorem checkMmrStore_eq {a : Word} {r : MmrName} (s : State) (ha : a.extractLsb' 0 2 = 0#2) (hr : mmrAt a = some r) :
    checkMmrStore a s =
      if s.supervisor = false ∧ (supervisorSpace a = true ∨ s.timerProtected r = true) then .error (.raise .mismatch) s
      else if s.mmrGranted r = true then .ok r s else .error (.raise .unimplemented) s := by
  simp only [checkMmrStore, checkMmrAligned, M.bind_run, ha, hr, ne_eq, not_true_eq_false, if_false, M.pure_run, M.get_run]
  cases s.supervisor <;> cases supervisorSpace a <;> cases s.timerProtected r <;> cases s.mmrGranted r <;> rfl

/-- All that the checks of a store to MMR space can answer: a register, in supervisor mode if it is of supervisor space,
or a stop, in the same state. -/
theorem checkMmrStore_cases (a : Word) (s : State) :
    (∃ r, checkMmrStore a s = .ok r s ∧ mmrAt a = some r ∧ (supervisorSpace a = true → s.supervisor = true)) ∨
      ∃ e, checkMmrStore a s = .error e s := by
  by_cases ha : a.extractLsb' 0 2 = 0#2
  · cases hr : mmrAt a with
    | none => exact .inr ⟨.refuse (.reservedMmrStore a), by simp [checkMmrStore, checkMmrAligned, M.bind_run, ha, hr]⟩
    | some r =>
      rw [checkMmrStore_eq s ha hr]
      split
      · exact .inr ⟨_, rfl⟩
      · rename_i hm
        split
        · refine .inl ⟨r, rfl, rfl, fun hs => ?_⟩
          by_contra hu
          exact hm ⟨Bool.not_eq_true _ ▸ hu, .inl hs⟩
        · exact .inr ⟨_, rfl⟩
  · exact .inr ⟨.raise .unimplemented, by simp [checkMmrStore, checkMmrAligned, M.bind_run, ha]⟩

/-- A store to MMR space: what it does to the register is done where the checks were made. -/
theorem checkMmrStore_bind {α : Type} {P : State → Prop} {s : State} {a : Word} {f : MmrName → M α} (h : P s)
    (hf : ∀ r, mmrAt a = some r → (supervisorSpace a = true → s.supervisor = true) → M.Leads P (f r) s) :
    M.Leads P (checkMmrStore a >>= f) s := by
  rcases checkMmrStore_cases a s with ⟨r, e, hr, hs⟩ | ⟨x, e⟩
  · have := hf r hr hs
    rwa [M.Leads, ← M.bind_ok (f := f) e] at this
  · exact M.leads_of_error (M.bind_error e) h

end Sys2Proof.Machine
end

section
/-! What the actions of instructions keep, one lemma for each shape of action. -/

namespace Sys2Proof.Machine

section
variable {s t : State} (h : s.Keeps t)
include h

/-! Register results. -/

theorem setDst_keeps (n : RegNum) (v : Word) : M.Leads s.Keeps (setDst n v) t := M.leads_modify _ (h.setReg n v)

theorem setUndefined_keeps (n : RegNum) (count : Nat) : M.Leads s.Keeps (setUndefined n count) t :=
  M.leads_modify _ (h.setGroup n 0 _)

theorem overflowIf_keeps (b : Bool) : M.Leads s.Keeps (overflowIf b) t :=
  M.leads_ite (fun _ => M.leads_get_bind (M.leads_ite (fun _ => M.leads_set _ h.setOverflowFlag) fun _ => M.leads_raise _ h))
    fun _ => M.leads_pure _ h

/-- A destination written with a word of the state where it passes its check. -/
theorem checkedDst_keeps (d : RegNum) (v : State → Word) :
    M.Leads s.Keeps (checkDst d >>= fun _ => get >>= fun u => setDst d (v u) >>= fun _ => (pure {} : M Done)) t :=
  M.leads_bind (checkDst_leads h d 1) fun _ _ hu => M.leads_get_bind
    (M.leads_bind (setDst_keeps hu d _) fun _ _ hv => M.leads_pure _ hv)

theorem binary_keeps (f : Word → Word → Word) (a b : Operand) (d : RegNum) : M.Leads s.Keeps (binary f a b d) t :=
  checkedDst_keeps h d _

theorem unary_keeps (f : Word → Word) (a : Operand) (d : RegNum) : M.Leads s.Keeps (unary f a d) t :=
  checkedDst_keeps h d _

theorem testCond_keeps (mask : BitVec 3) (d : RegNum) : M.Leads s.Keeps (testCond mask d) t := checkedDst_keeps h d _

theorem select_keeps (mask : BitVec 3) (a b : Operand) (d : RegNum) : M.Leads s.Keeps (select mask a b d) t :=
  checkedDst_keeps h d _

theorem binaryOverflow_keeps (f : Word → Word → Word) (o : Word → Word → Bool) (a b : Operand) (d : RegNum) :
    M.Leads s.Keeps (binaryOverflow f o a b d) t :=
  M.leads_bind (checkDst_leads h d 1) fun _ _ hu => M.leads_get_bind (M.leads_bind (setDst_keeps hu d _) fun _ _ hv =>
    M.leads_bind (overflowIf_keeps hv _) fun _ _ hw => M.leads_pure _ hw)

theorem whenCond_keeps (mask : BitVec 3) (d : RegNum) {action : M Done}
    (ha : ∀ u, s.Keeps u → M.Leads s.Keeps action u) : M.Leads s.Keeps (whenCond mask d action) t :=
  M.leads_bind (checkDst_leads h d 1) fun _ u hu => M.leads_get_bind
    (M.leads_ite (fun _ => ha u hu) fun _ => M.leads_pure _ hu)

theorem divideBy_keeps (w : Bool) (f : Word → Word → Word) (a b : Operand) (d : RegNum) :
    M.Leads s.Keeps (divideBy w f a b d) t :=
  M.leads_bind (checkDst_leads h d 1) fun _ _ hu => M.leads_get_bind (M.leads_ite
    (fun _ => M.leads_when (fun _ => setUndefined_keeps hu d 1) (fun _ hv => M.leads_raise _ hv) hu)
    fun _ => M.leads_bind (setDst_keeps hu d _) fun _ _ hv => M.leads_pure _ hv)

/-- A destination and the condition code. -/
theorem checkedDstCc_keeps (d : RegNum) (v : State → Word) (c : State → BitVec 3) :
    M.Leads s.Keeps (checkDst d >>= fun _ => get >>= fun u => set ((u.setReg d (v u)).setCc (c u)) >>= fun _ =>
      (pure {} : M Done)) t :=
  M.leads_bind (checkDst_leads h d 1) fun _ _ hu => M.leads_get_bind
    (M.leads_bind (M.leads_set _ ((hu.setReg d _).setCc _)) fun _ _ hv => M.leads_pure _ hv)

theorem compareOp_keeps (f : Word → Word → BitVec 3) (a b : Operand) : M.Leads s.Keeps (compareOp f a b) t :=
  M.leads_bind (M.leads_modify _ (h.setCc _)) fun _ _ hu => M.leads_pure _ hu

theorem compareIf_keeps (f : Word → Word → Bool) (a b : Operand) : M.Leads s.Keeps (compareIf f a b) t :=
  M.leads_get_bind (M.leads_ite (fun _ => M.leads_pure _ h) fun _ => compareOp_keeps h _ a b)

theorem faultCond_keeps (mask : BitVec 3) : M.Leads s.Keeps (faultCond mask) t :=
  M.leads_get_bind (M.leads_ite (fun _ => M.leads_raise _ h) fun _ => M.leads_pure _ h)

theorem moveGroup_keeps (count alignment : Nat) (a : Operand) (d : RegNum) :
    M.Leads s.Keeps (moveGroup count alignment a d) t :=
  M.leads_ite (fun _ => M.leads_bind (setUndefined_keeps h d count) fun _ _ hu => M.leads_raise _ hu) fun _ =>
    M.leads_bind (checkDst_leads h d count) fun _ _ hu =>
      M.leads_bind (M.leads_modify _ (hu.setGroup d 0 _)) fun _ _ hv => M.leads_pure _ hv

/-! Branches. -/

theorem branchBy_keeps {n : Nat} (disp : BitVec n) : M.Leads s.Keeps (branchBy disp) t := M.leads_modify _ (h.jump _)

theorem branchIf_keeps {n : Nat} (b : Bool) (disp : BitVec n) : M.Leads s.Keeps (branchIf b disp) t :=
  M.leads_ite (fun _ => M.leads_bind (branchBy_keeps h disp) fun _ _ hu => M.leads_pure _ hu) fun _ => M.leads_pure _ h

theorem branchCond_keeps (mask : BitVec 3) (disp : BitVec 24) : M.Leads s.Keeps (branchCond mask disp) t :=
  M.leads_get_bind (branchIf_keeps h _ disp)

theorem branchBit_keeps (v : Bool) (a : Operand) (b : RegNum) (disp : BitVec 13) :
    M.Leads s.Keeps (branchBit v a b disp) t :=
  M.leads_get_bind (M.leads_bind (M.leads_set _ (h.setCc _)) fun _ _ hu => branchIf_keeps hu _ disp)

theorem compareBranch_keeps (f : Word → Word → BitVec 3) (mask : BitVec 3) (a : Operand) (b : RegNum) (disp : BitVec 13) :
    M.Leads s.Keeps (compareBranch f mask a b disp) t :=
  M.leads_get_bind (M.leads_bind (M.leads_set _ (h.setCc _)) fun _ _ hu => branchIf_keeps hu _ disp)

/-! Loads and stores. -/

theorem loadItem_keeps (n bits : Nat) (read : State → Word → Word) (m : MemOperand) (d : RegNum) :
    M.Leads s.Keeps (loadItem n bits read m d) t :=
  M.leads_bind (checkDst_leads h d 1) fun _ _ hu => M.leads_get_bind (M.leads_bind (checkLoad_leads hu _ n) fun _ _ hv =>
    M.leads_bind (setDst_keeps hv d _) fun _ _ hw => M.leads_bind (unalignedTrap_leads hw _ bits) fun _ _ hx =>
    M.leads_pure _ hx)

theorem loadGroup_keeps (count alignment bits : Nat) (m : MemOperand) (d : RegNum) :
    M.Leads s.Keeps (loadGroup count alignment bits m d) t :=
  M.leads_when (fun _ => M.leads_raise _ h) (fun _ hu => M.leads_bind (checkDst_leads hu d count) fun _ v hv =>
    M.leads_get_bind (M.leads_bind (checkLoad_leads hv _ _) fun _ _ _ =>
    M.leads_bind (M.leads_set _ (hv.setGroup d 0 (v.peekWords (efa m v) count))) fun _ _ hx =>
    M.leads_bind (unalignedTrap_leads hx _ bits) fun _ _ hy => M.leads_pure _ hy)) h

theorem mmrLoad_keeps (a : Word) : M.Leads s.Keeps (mmrLoad a) t := by
  refine M.leads_bind (checkMmrAligned_leads h a) fun _ u hu => M.leads_get_bind ?_
  cases mmrAt a with
  | none => exact M.leads_pure _ hu
  | some r => exact M.leads_ite (fun _ => M.leads_pure _ hu) fun _ =>
      M.leads_bind (M.leads_set _ (hu.afterMmrRead r)) fun _ _ hv => M.leads_pure _ hv

theorem readWord_keeps (c : Bool) (a : Word) : M.Leads s.Keeps (readWord c a) t :=
  M.leads_ite (fun _ => mmrLoad_keeps h a) fun _ => M.leads_bind (checkRange_leads h a 4) fun _ _ hu =>
    M.leads_get_bind (M.leads_pure _ hu)

theorem storeItem_keeps (n : Nat) {write : State → Word → Slot → State}
    (hw : ∀ u a v, s.Keeps u → s.Keeps (write u a v)) (r : RegNum) (m : MemOperand) :
    M.Leads s.Keeps (storeItem n write r m) t :=
  M.leads_get_bind (M.leads_bind (checkProtected_leads h _ n) fun _ _ hu => M.leads_bind (checkRange_leads hu _ n)
    fun _ _ _ => M.leads_bind (M.leads_set _ (hw t _ _ h)) fun _ _ hv => M.leads_pure _ hv)

theorem storeGroup_keeps (count alignment bits : Nat) (r : RegNum) (m : MemOperand) :
    M.Leads s.Keeps (storeGroup count alignment bits r m) t :=
  M.leads_get_bind (M.leads_bind (checkProtected_leads h _ _) fun _ _ hu => M.leads_when (fun _ => M.leads_raise _ hu)
    (fun _ hv => M.leads_bind (checkRange_leads hv _ _) fun _ _ _ =>
      M.leads_bind (M.leads_set _ (h.pokeWords (efa m t) (t.group (Site.result 8) r count))) fun _ _ hx =>
      M.leads_bind (unalignedTrap_leads hx _ bits) fun _ _ hy => M.leads_pure _ hy) hu)

theorem atomicUpdate_keeps (a : Word) (f : Word → Word) : M.Leads s.Keeps (atomicUpdate a f) t :=
  M.leads_bind (checkProtected_leads h a 4) fun _ _ hu => M.leads_bind (checkRange_leads hu a 4) fun _ _ hv =>
    M.leads_get_bind (M.leads_bind (M.leads_set _ (hv.poke32 a _)) fun _ _ hw => M.leads_pure _ hw)

/-! Calls and returns. -/

theorem doCall_keeps (rip : Slot) (target : Word) (rt : BitVec 3) (base : Word) :
    M.Leads s.Keeps (doCall rip target rt base) t :=
  h.leads (fun hi => doCall_inv _ _ _ _ hi) fun hu => doCall_system hu _ _ _ _

theorem returnToFrame_keeps : M.Leads s.Keeps returnToFrame t := h.leads returnToFrame_inv returnToFrame_system

theorem localCall_keeps (rip target : Word) : M.Leads s.Keeps (localCall rip target) t :=
  M.leads_get_bind (M.leads_bind (doCall_keeps h _ _ _ _) fun _ _ hu => M.leads_pure _ hu)

theorem systemCall_keeps (entry : Word) : M.Leads s.Keeps (systemCall entry) t := by
  refine M.leads_get_bind (M.leads_ite
    (fun _ => M.leads_bind (doCall_keeps h _ _ _ _) fun _ _ hu => M.leads_pure _ hu) fun _ => M.leads_ite (fun _ => ?_)
    fun _ => M.leads_refuse _ h)
  have hpc : t.pc &&& ~~~pcMask = 0 → pcSetTe (pcSetSupervisor t.pc true) (t.tables.ssp.getLsbD 0) &&& ~~~pcMask = 0 :=
    fun hl => pcSetTe_legal _ _ (pcSetSupervisor_legal _ _ hl)
  refine M.leads_ite (fun _ => M.leads_bind (doCall_keeps h _ _ _ _) fun _ _ hu => M.leads_pure _ hu) fun _ =>
    M.leads_bind (M.leads_bind (M.leads_modify _ (h.setPcNow hpc)) fun _ _ hu => doCall_keeps hu _ _ _ _)
      fun _ _ hu => M.leads_pure _ hu

theorem restoreControls_keeps (em : Bool) (pc ac : Word) : M.Leads s.Keeps (restoreControls em pc ac) t :=
  M.leads_bind (M.leads_modify _ (h.withAc fun _ => and_mask_legal ac acMask)) fun _ _ hu => M.leads_ite
    (fun _ => M.leads_ite (fun _ => M.leads_refuse _ hu) fun hpc =>
      M.leads_bind (M.leads_modify _ (hu.setPcNow fun _ => not_not.mp hpc)) fun _ _ hv => M.leads_pure _ hv)
    fun _ => M.leads_pure _ hu

theorem handlerReturn_keeps : M.Leads s.Keeps handlerReturn t :=
  M.leads_get_bind (M.leads_bind ((savedControls_looks t).leads h) fun _ _ hu =>
    M.leads_bind (returnToFrame_keeps hu) fun _ _ hv => restoreControls_keeps hv _ _ _)

theorem supervisorReturn_keeps (te : Bool) : M.Leads s.Keeps (supervisorReturn te) t := by
  refine M.leads_bind (M.leads_modify _ ?_) fun _ _ hu => returnToFrame_keeps hu
  split
  · exact h.setPcNow fun hl => pcSetSupervisor_legal _ _ (pcSetTe_legal _ _ hl)
  · exact h

theorem returnBy_keeps (rt : BitVec 3) : M.Leads s.Keeps (returnBy rt) t := by
  have ended : ∀ (u : State) (fp : Word), s.Keeps u →
      s.Keeps (if u.intr.nmiFrame = some fp then u.withIntr { u.intr with nmiFrame := none } else u) := by
    intro u fp hu
    split
    · exact ⟨fun hi => (hu.1 hi).withIntr _, fun hv => (hu.2 hv).withIntr rfl id⟩
    · exact hu
  refine M.leads_ite (fun _ => M.leads_bind (returnToFrame_keeps h) fun _ _ hu => M.leads_pure _ hu) fun _ => ?_
  refine M.leads_ite (fun _ => M.leads_bind (handlerReturn_keeps h) fun _ _ hu => M.leads_pure _ hu) fun _ => ?_
  refine M.leads_ite (fun _ => M.leads_bind (supervisorReturn_keeps h _) fun _ _ hu => M.leads_pure _ hu) fun _ => ?_
  refine M.leads_ite (fun _ => M.leads_bind (supervisorReturn_keeps h _) fun _ _ hu => M.leads_pure _ hu) fun _ => ?_
  exact M.leads_ite (fun _ => M.leads_get_bind (M.leads_bind (handlerReturn_keeps h) fun _ u hu =>
    M.leads_bind (M.leads_modify _ (ended u _ hu)) fun _ _ hv => M.leads_pure _ hv)) fun _ => M.leads_raise _ h

theorem spillOldest_keeps : M.Leads s.Keeps spillOldest t := by
  refine M.leads_get_bind (M.leads_ite (fun _ => ?_) fun _ => M.leads_refuse _ h)
  cases hc : t.frames.cache with
  | nil => exact M.leads_pure _ h
  | cons f rest =>
    rcases spillSet_cases f t with e | ⟨x, e, -⟩
    · refine M.leads_of_ok ((M.bind_ok e).trans (M.modify_run _ _)) ((h.pokeWords _ _).withFrames ?_ rfl)
      rw [(t.pokeWords_frame _ _).frames, hc]
      exact Nat.le_succ _
    · exact M.leads_of_error (M.bind_error e) h

theorem spillAll_keeps (n : Nat) : M.Leads s.Keeps (spillAll n) t := by
  induction n generalizing t with
  | zero => exact M.leads_pure _ h
  | succ n ih =>
    refine M.leads_get_bind ?_
    cases t.frames.cache with
    | nil => exact M.leads_pure _ h
    | cons f rest => exact M.leads_bind (spillOldest_keeps h) fun _ _ hu => ih hu

end

/-- A word store of an instruction, the checks being those of the state it starts in. -/
theorem storeWord_keeps (a : Word) (v : Slot) (s : State) : M.Leads s.Keeps (storeWord a v) s :=
  M.leads_ite
    (fun _ => checkMmrStore_bind (.refl s) fun _ hr hs => M.leads_modify _ (State.Keeps.setMmr (.refl s) hr hs _))
    fun _ => M.leads_bind (checkProtected_leads (State.Keeps.refl s) a 4) fun _ _ hu =>
      M.leads_bind (checkRange_leads hu a 4) fun _ _ hv => M.leads_modify _ (hv.poke32 a v)

/-- An atomic update of a memory-mapped register (47_atomic R571). -/
theorem atomicMmr_keeps (a : Word) (f : Word → Word) (s : State) : M.Leads s.Keeps (atomicMmr a f) s :=
  checkMmrStore_bind (.refl s) fun r hr hs => M.leads_get_bind (M.leads_bind
    (M.leads_set _ (((State.Keeps.refl s).afterMmrRead r).setMmr hr hs _)) fun _ _ hu => M.leads_pure _ hu)

/-- A word store keeps the invariant wherever it is made. -/
theorem storeWord_inv (a : Word) (v : Slot) {s : State} (h : s.Inv) : M.Leads State.Inv (storeWord a v) s :=
  ⟨fun x t e => ((storeWord_keeps a v s).1 x t e).1 h, fun x t e => ((storeWord_keeps a v s).2 x t e).1 h⟩

end Sys2Proof.Machine
end

section
/-! Initialization: what `Process_PRCB`, the control table and the resets keep, wherever they end (70_reset R726 to
R731). -/

namespace Sys2Proof.Machine

/-- From `s` to `t` the process controls, the trace windows and the invariant are kept. -/
def State.Loads (s t : State) : Prop := t.pc = s.pc ∧ t.trace = s.trace ∧ (s.Inv → t.Inv)

theorem State.Loads.refl (s : State) : s.Loads s := ⟨rfl, rfl, id⟩

section
variable {s t : State} (h : s.Loads t)
include h

theorem State.Loads.withAc {w : Word} (hw : w &&& ~~~acMask = 0) : s.Loads (t.withAc w) :=
  ⟨h.1, h.2.1, fun hi => (h.2.2 hi).withAc w hw⟩

theorem State.Loads.withTc {w : Word} (hw : w &&& ~~~tcMask = 0) : s.Loads (t.withTc w) :=
  ⟨h.1, h.2.1, fun hi => (h.2.2 hi).withTc w hw⟩

theorem State.Loads.withTables (v : Tables) : s.Loads (t.withTables v) := h
theorem State.Loads.withUnalignedMasked (v : Bool) : s.Loads (t.withUnalignedMasked v) := h
theorem State.Loads.withConfig (v : MemConfig) : s.Loads (t.withConfig v) := h
theorem State.Loads.withIntr (v : Interrupts) : s.Loads (t.withIntr v) := h
theorem State.Loads.withCache (v : Caches) : s.Loads (t.withCache v) := h

theorem State.Loads.withFrames {v : Frames} (hv : v.cache = t.frames.cache) : s.Loads (t.withFrames v) :=
  ⟨h.1, h.2.1, fun hi => (h.2.2 hi).withFrames v (by rw [hv]; exact (h.2.2 hi).bound)⟩

theorem State.Loads.setReg (n : RegNum) (v : Word) : s.Loads (t.setReg n v) :=
  ⟨by simp [State.setReg, h.1], by simp [State.setReg, h.2.1], fun hi => (h.2.2 hi).setSlot n _⟩

theorem State.Loads.jump (a : Word) : s.Loads (t.jump a) := ⟨h.1, h.2.1, fun hi => (h.2.2 hi).jump a⟩

theorem State.Loads.poke32 (a : Word) (v : Slot) : s.Loads (t.poke32 a v) :=
  have f := t.poke32_frame a v
  ⟨f.pc.trans h.1, f.trace.trans h.2.1, fun hi => (h.2.2 hi).poke32 a v⟩

theorem initWord_loads (a : Word) : M.Leads s.Loads (initWord a) t := (readImplicit_looks true a t).leads h

theorem loadPmcon_loads (c : Word) (n : Nat) : M.Leads s.Loads (loadPmcon c n) t := by
  induction n with
  | zero => exact M.leads_pure _ h
  | succ n ih =>
    exact M.leads_bind ih fun _ _ hu => M.leads_bind (initWord_loads hu _) fun _ _ hv =>
      M.leads_modify _ (hv.withConfig _)

theorem loadControlTable_loads (c : Word) : M.Leads s.Loads (loadControlTable c) t :=
  M.leads_bind (initWord_loads h _) fun _ _ h => M.leads_bind (initWord_loads h _) fun _ _ h =>
  M.leads_bind (initWord_loads h _) fun _ _ h => M.leads_bind (initWord_loads h _) fun _ _ h =>
  M.leads_bind (M.leads_modify _ (h.withIntr _)) fun _ _ h => M.leads_bind (loadPmcon_loads h _ _) fun _ _ h =>
  M.leads_bind (initWord_loads h _) fun tc _ h =>
  M.leads_bind (M.leads_modify _ (h.withTc (and_mask_legal tc tcMask))) fun _ _ h =>
  M.leads_bind (initWord_loads h _) fun _ _ h => M.leads_modify _ (h.withConfig _)

theorem processPrcb_loads (p : Word) : M.Leads s.Loads (processPrcb p) t := by
  refine
    M.leads_bind (initWord_loads h _) fun fault _ h => M.leads_bind (initWord_loads h _) fun control _ h =>
    M.leads_bind (initWord_loads h _) fun ac _ h => M.leads_bind (initWord_loads h _) fun faultConfig _ h =>
    M.leads_bind (initWord_loads h _) fun interrupt _ h => M.leads_bind (initWord_loads h _) fun spt _ h =>
    M.leads_bind (initWord_loads h _) fun isp _ h => M.leads_bind (initWord_loads h _) fun icacheConfig _ h =>
    M.leads_bind (initWord_loads h _) fun rcw _ h => M.leads_bind (initWord_loads h _) fun ssp u h =>
    M.leads_bind (M.leads_modify _ ?_) fun _ _ h => M.leads_bind (loadControlTable_loads h _) fun _ _ h =>
    M.leads_bind (initWord_loads h _) fun _ _ h => M.leads_modify _ (h.poke32 _ _)
  exact ((((h.withTables _).withAc (and_mask_legal ac acMask)).withUnalignedMasked _).withCache _).withFrames rfl

theorem softwareReinitialize_loads (prcb ip : Word) : M.Leads s.Loads (softwareReinitialize prcb ip) t :=
  M.leads_bind (M.leads_modify _ (h.withCache _)) fun _ _ hu => M.leads_bind (processPrcb_loads hu prcb) fun _ _ hv =>
    M.leads_modify _ (hv.jump ip)

end

/-! The reset pin. -/

/-- A sublist of a strictly rising list. -/
theorem tableAbove_filter {α : Type} (p : Nat × α → Bool) (l : List (Nat × α)) (lo : Nat)
    (h : tableAbove lo l = true) : tableAbove lo (l.filter p) = true := by
  induction l generalizing lo with
  | nil => rfl
  | cons c rest ih =>
    obtain ⟨k, v⟩ := c
    simp only [tableAbove, Bool.and_eq_true, decide_eq_true_eq] at h
    rw [List.filter_cons]
    split
    · simp [tableAbove, h.1, ih k h.2]
    · exact ih lo (tableAbove_mono _ _ _ (Nat.le_of_lt h.1) h.2)

theorem tableSorted_filter {α : Type} (p : Nat × α → Bool) (l : List (Nat × α)) (h : tableSorted l = true) :
    tableSorted (l.filter p) = true := by
  cases l with
  | nil => rfl
  | cons c rest =>
    obtain ⟨k, v⟩ := c
    rw [List.filter_cons]
    split
    · exact tableAbove_filter p rest k h
    · exact tableSorted_of_above _ k (tableAbove_filter p rest k h)

/-- A rising list and one whose addresses are all above its own. -/
theorem tableSorted_append {α : Type} (l r : List (Nat × α)) (hl : tableSorted l = true) (hr : tableSorted r = true)
    (h : ∀ c ∈ l, ∀ d ∈ r, c.1 < d.1) : tableSorted (l ++ r) = true := by
  have above : ∀ lo, tableSorted r = true → (∀ d ∈ r, lo < d.1) → tableAbove lo r = true := by
    intro lo hs hd
    cases r with
    | nil => rfl
    | cons d rest => rw [tableAbove, Bool.and_eq_true, decide_eq_true_eq]; exact ⟨hd d (by simp), hs⟩
  have step : ∀ (l : List (Nat × α)) lo, tableAbove lo l = true → (∀ d ∈ r, lo < d.1) →
      (∀ c ∈ l, ∀ d ∈ r, c.1 < d.1) → tableAbove lo (l ++ r) = true := by
    intro l
    induction l with
    | nil => exact fun lo _ hd _ => above lo hr hd
    | cons c rest ih =>
      intro lo hs _ hc
      simp only [tableAbove, Bool.and_eq_true, List.cons_append] at hs ⊢
      exact ⟨hs.1, ih _ hs.2 (hc c (by simp)) fun c' hc' => hc c' (by simp [hc'])⟩
  cases l with
  | nil => exact hr
  | cons c rest => exact step rest c.1 hl (h c (by simp)) fun c' hc' => h c' (by simp [hc'])

/-- The addresses of a range rise. -/
theorem tableSorted_range {α : Type} (f : Nat → α) (n : Nat) :
    tableSorted ((List.range n).map fun a => (a, f a)) = true := by
  have step : ∀ (n lo k : Nat), lo < k → tableAbove lo ((List.range' k n).map fun a => (a, f a)) = true := by
    intro n
    induction n with
    | zero => exact fun _ _ _ => rfl
    | succ n ih => intro lo k h; simp [List.range'_succ, tableAbove, h, ih k (k + 1) (Nat.lt_succ_self k)]
  cases n with
  | zero => rfl
  | succ n => simpa [List.range_eq_range', List.range'_succ, tableSorted] using step n 0 1 Nat.one_pos

/-- Internal RAM full of free values, and external memory as it was, in canonical form (70_reset R724). -/
theorem Memory.wf_freeInternalRam (m : Memory) (draw : Nat) (h : m.wf = true) : (m.freeInternalRam draw).wf = true := by
  rw [Memory.wf_iff] at h ⊢
  obtain ⟨hcells, hfree, hzero, hdisjoint⟩ := h
  have hcells' := tableSorted_filter (fun c : Host.Cell => decide (0x3FF < c.1)) m.cells hcells
  have hext : ∀ {a b}, tableGet (m.freeInternalRam draw).cells a = some b → 0x3FF < a ∧ tableGet m.cells a = some b := by
    intro a b he
    obtain ⟨hmem, ha⟩ := List.mem_filter.mp (tableGet_mem _ _ _ he)
    exact ⟨by simpa using ha, tableGet_of_mem _ hcells _ hmem⟩
  refine ⟨hcells', ?sorted, fun a b he => hzero a b (hext he).2, fun a f he => ?disjoint⟩
  case sorted =>
    refine tableSorted_append _ _ (tableSorted_range _ _) (tableSorted_filter _ _ hfree) fun c hc d hd => ?_
    have hd' := (List.mem_filter.mp hd).2
    simp only [List.mem_map, List.mem_range] at hc
    obtain ⟨a, ha, rfl⟩ := hc
    simp only [decide_eq_true_eq] at hd'
    show a < d.1
    omega
  case disjoint =>
    rw [Option.eq_none_iff_forall_ne_some]
    intro b hb
    obtain ⟨ha, hb⟩ := hext hb
    rcases List.mem_append.mp (tableGet_mem _ _ _ he) with hm | hm
    · simp only [List.mem_map, List.mem_range] at hm
      obtain ⟨a', ha', e⟩ := hm
      cases e
      omega
    · have := hdisjoint a f (tableGet_of_mem _ hfree _ (List.mem_of_mem_filter hm))
      simp [this] at hb

theorem State.Inv.resetCore {s : State} (h : s.Inv) : s.resetCore.Inv := by
  obtain ⟨hmem, hip, hac, -, htc, -⟩ := h
  have hpc : (0x001F2002#32 &&& ~~~pcMask == 0) = true := by decide
  exact ⟨Memory.wf_freeInternalRam _ _ hmem, hip, hac, hpc, htc, rfl⟩

/-- The reset pin: what follows `resetCore` loads. -/
theorem hardwareReset_loads (s : State) : M.Leads s.resetCore.Loads hardwareReset s := by
  refine M.leads_bind (M.leads_modify _ (.refl _)) fun _ _ h => M.leads_bind (initWord_loads h _) fun _ _ h =>
    M.leads_bind (processPrcb_loads h _) fun _ _ h => M.leads_bind (initWord_loads h _) fun ip t h =>
    M.leads_get_bind (M.leads_ite (fun _ => M.leads_refuse _ h) fun _ => M.leads_set _ (State.Loads.jump ?_ ip))
  exact State.Loads.withFrames (((h.setReg _ _).setReg _ _).setReg _ _) (by simp [State.setReg])

end Sys2Proof.Machine
end

section
/-! Every instruction keeps the invariant and, in user mode, the system state. -/

namespace Sys2Proof.Machine

/-- A length of one or two words. -/
theorem memLength_aligned (m : MemOperand) : (memLength m).extractLsb' 0 2 = 0#2 := by
  unfold memLength; split <;> decide

/-! Instructions with an action of their own. -/

section
variable {s t : State}

theorem execAddc_keeps {a b : Operand} {d : RegNum} (e : execAddc a b d s = .next t) : s.Keeps t :=
  run_keeps e (by decide) (checkedDstCc_keeps (.refl s) d _ _)

theorem execSubc_keeps {a b : Operand} {d : RegNum} (e : execSubc a b d s = .next t) : s.Keeps t :=
  run_keeps e (by decide) (checkedDstCc_keeps (.refl s) d _ _)

theorem execDivi_keeps {a b : Operand} {d : RegNum} (e : execDivi a b d s = .next t) : s.Keeps t :=
  run_keeps e (by decide) (M.leads_get_bind (M.leads_bind (divideBy_keeps (.refl s) _ _ a b d) fun _ _ hu =>
    M.leads_bind (overflowIf_keeps hu _) fun _ _ hv => M.leads_pure _ hv))

theorem execEmul_keeps {a b : Operand} {d : RegNum} (e : execEmul a b d s = .next t) : s.Keeps t :=
  run_keeps e (by decide) (M.leads_ite
    (fun _ => M.leads_bind (setUndefined_keeps (.refl s) d 2) fun _ _ hu => M.leads_raise _ hu) fun _ =>
    M.leads_bind (checkDst_leads (State.Keeps.refl s) d 2) fun _ _ hu => M.leads_get_bind
      (M.leads_bind (M.leads_set _ (hu.setGroup d 0 _)) fun _ _ hv => M.leads_pure _ hv))

theorem execEdiv_keeps {a b : Operand} {d : RegNum} (e : execEdiv a b d s = .next t) : s.Keeps t := by
  refine run_keeps e (by decide) (M.leads_get_bind ?_)
  have undefined := setUndefined_keeps (.refl s) d 2
  split
  · exact M.leads_bind (checkDst_leads (State.Keeps.refl s) d 2) fun _ _ hu => M.leads_ite
      (fun _ => M.leads_bind (setUndefined_keeps hu d 2) fun _ _ hv => M.leads_raise _ hv) fun _ => M.leads_ite
      (fun _ => M.leads_bind (setUndefined_keeps hu d 2) fun _ _ hv => M.leads_pure _ hv) fun _ =>
      M.leads_bind (M.leads_set _ (State.Keeps.setGroup (.refl s) d 0 _)) fun _ _ hv => M.leads_pure _ hv
  · exact M.leads_bind undefined fun _ _ hu => M.leads_raise _ hu

theorem execEshro_keeps {a b : Operand} {d : RegNum} (e : execEshro a b d s = .next t) : s.Keeps t := by
  refine run_keeps e (by decide) (M.leads_get_bind ?_)
  cases pairValue b s with
  | some n => exact M.leads_bind (checkDst_leads (State.Keeps.refl s) d 1) fun _ _ hu =>
      M.leads_bind (setDst_keeps hu d _) fun _ _ hv => M.leads_pure _ hv
  | none => exact M.leads_bind (setUndefined_keeps (.refl s) d 1) fun _ _ hu => M.leads_raise _ hu

theorem execLd_keeps {m : MemOperand} {d : RegNum} (e : execLd m d s = .next t) : s.Keeps t :=
  run_keeps e (memLength_aligned m) (M.leads_bind (checkDst_leads (State.Keeps.refl s) d 1) fun _ _ hu => M.leads_get_bind
    (M.leads_bind (readWord_keeps hu true _) fun _ _ hv => M.leads_bind (setDst_keeps hv d _) fun _ _ hw =>
    M.leads_bind (unalignedTrap_leads hw _ 2) fun _ _ hx => M.leads_pure _ hx))

theorem execLda_keeps {m : MemOperand} {d : RegNum} (e : execLda m d s = .next t) : s.Keeps t :=
  run_keeps e (memLength_aligned m) (M.leads_bind (checkDst_leads (State.Keeps.refl s) d 1) fun _ _ hu =>
    M.leads_bind (M.leads_modify _ (hu.setReg d _)) fun _ _ hv => M.leads_pure _ hv)

theorem execSt_keeps {r : RegNum} {m : MemOperand} (e : execSt r m s = .next t) : s.Keeps t :=
  run_keeps e (memLength_aligned m) (M.leads_get_bind (M.leads_bind (storeWord_keeps _ _ s) fun _ _ hu =>
    M.leads_bind (unalignedTrap_leads hu _ 2) fun _ _ hv => M.leads_pure _ hv))

theorem execStob_keeps {r : RegNum} {m : MemOperand} (e : execStob r m s = .next t) : s.Keeps t :=
  run_keeps e (memLength_aligned m) (M.leads_bind (storeItem_keeps (.refl s) 1 (fun _ a v h => h.poke1 a v) r m)
    fun _ _ hu => M.leads_pure _ hu)

theorem execStos_keeps {r : RegNum} {m : MemOperand} (e : execStos r m s = .next t) : s.Keeps t :=
  run_keeps e (memLength_aligned m) (M.leads_bind (storeItem_keeps (.refl s) 2 (fun _ a v h => h.poke16 a v) r m)
    fun _ _ hu => M.leads_bind (unalignedTrap_leads hu _ 1) fun _ _ hv => M.leads_pure _ hv)

theorem execStib_keeps {r : RegNum} {m : MemOperand} (e : execStib r m s = .next t) : s.Keeps t :=
  run_keeps e (memLength_aligned m) (M.leads_get_bind (M.leads_bind
    (storeItem_keeps (.refl s) 1 (fun _ a v h => h.poke1 a v) r m) fun _ _ hu =>
    M.leads_bind (overflowIf_keeps hu _) fun _ _ hv => M.leads_pure _ hv))

theorem execStis_keeps {r : RegNum} {m : MemOperand} (e : execStis r m s = .next t) : s.Keeps t :=
  run_keeps e (memLength_aligned m) (M.leads_get_bind (M.leads_bind
    (storeItem_keeps (.refl s) 2 (fun _ a v h => h.poke16 a v) r m) fun _ _ hu =>
    M.leads_bind (unalignedTrap_leads hu _ 1) fun _ _ hv =>
    M.leads_bind (overflowIf_keeps hv _) fun _ _ hw => M.leads_pure _ hw))

theorem execB_keeps {disp : BitVec 24} (e : execB disp s = .next t) : s.Keeps t :=
  run_keeps e (by decide) (M.leads_bind (branchBy_keeps (.refl s) disp) fun _ _ hu => M.leads_pure _ hu)

theorem execBx_keeps {m : MemOperand} (e : execBx m s = .next t) : s.Keeps t :=
  run_keeps e (memLength_aligned m) (M.leads_bind (M.leads_modify _ (State.Keeps.jump (.refl s) _)) fun _ _ hu =>
    M.leads_pure _ hu)

theorem execBal_keeps {disp : BitVec 24} (e : execBal disp s = .next t) : s.Keeps t :=
  run_keeps e (by decide) (M.leads_bind (M.leads_modify _ (State.Keeps.setReg (.refl s) _ _)) fun _ _ hu =>
    M.leads_bind (branchBy_keeps hu disp) fun _ _ hv => M.leads_pure _ hv)

theorem execBalx_keeps {m : MemOperand} {d : RegNum} (e : execBalx m d s = .next t) : s.Keeps t :=
  run_keeps e (memLength_aligned m) (M.leads_bind (checkDst_leads (State.Keeps.refl s) d 1) fun _ _ hu =>
    M.leads_bind (M.leads_modify _ ((hu.setReg d _).jump _)) fun _ _ hv => M.leads_pure _ hv)

theorem execCall_keeps {disp : BitVec 24} (e : execCall disp s = .next t) : s.Keeps t :=
  run_keeps e (by decide) (M.leads_get_bind (localCall_keeps (.refl s) _ _))

theorem execCallx_keeps {m : MemOperand} (e : execCallx m s = .next t) : s.Keeps t :=
  run_keeps e (memLength_aligned m) (M.leads_get_bind (localCall_keeps (.refl s) _ _))

theorem execCalls_keeps {a : Operand} (e : execCalls a s = .next t) : s.Keeps t :=
  run_keeps e (by decide) (M.leads_get_bind (M.leads_ite (fun _ => M.leads_raise _ (.refl s)) fun _ =>
    M.leads_bind ((readImplicit_looks _ _ s).leads (.refl s)) fun entry _ hu => systemCall_keeps hu entry))

theorem execRet_keeps (e : execRet s = .next t) : s.Keeps t :=
  run_keeps e (by decide) (M.leads_get_bind (M.leads_ite (fun _ => M.leads_refuse _ (.refl s)) fun _ =>
    M.leads_ite (fun _ => M.leads_refuse _ (.refl s)) fun _ => M.leads_ite
      (fun _ => M.leads_bind (M.leads_set _ (State.Keeps.withLocals (.refl s) _)) fun _ _ hu => M.leads_raise _ hu)
      fun _ => returnBy_keeps (.refl s) _))

theorem execFlushreg_keeps (e : execFlushreg s = .next t) : s.Keeps t :=
  run_keeps e (by decide) (M.leads_get_bind (M.leads_bind (spillAll_keeps (.refl s) _) fun _ _ hu =>
    M.leads_bind (M.leads_modify _ (hu.withFrames (Nat.le_refl _) rfl)) fun _ _ hv => M.leads_pure _ hv))

theorem execAtadd_keeps {a b : Operand} {d : RegNum} (e : execAtadd a b d s = .next t) : s.Keeps t :=
  run_keeps e (by decide) (M.leads_bind (checkDst_leads (State.Keeps.refl s) d 1) fun _ _ hu => M.leads_get_bind
    (M.leads_bind (atomicUpdate_keeps hu _ _) fun _ _ hv => M.leads_bind (setDst_keeps hv d _) fun _ _ hw =>
    M.leads_pure _ hw))

theorem execAtmod_keeps {a b : Operand} {d : RegNum} (e : execAtmod a b d s = .next t) : s.Keeps t := by
  have written : ∀ (old : Word) (u : State), s.Keeps u →
      M.Leads s.Keeps (setDst d old >>= fun _ => (pure {} : M Done)) u :=
    fun old _ hu => M.leads_bind (setDst_keeps hu d old) fun _ _ hv => M.leads_pure _ hv
  refine run_keeps e (by decide) (M.leads_bind_of (fun x u hx => ?_) fun x u hx => ?_)
  · exact (checkDst_leads (State.Keeps.refl s) d 1).2 x u hx
  · obtain rfl : u = s := (checkDst_leads (P := (· = s)) rfl d 1).1 x u hx
    exact M.leads_get_bind (M.leads_ite (fun _ => M.leads_bind (atomicMmr_keeps _ _ u) written) fun _ =>
      M.leads_bind (atomicUpdate_keeps (.refl u) _ _) written)

theorem execModac_keeps {a b : Operand} {d : RegNum} (e : execModac a b d s = .next t) : s.Keeps t :=
  run_keeps e (by decide) (M.leads_bind (checkDst_leads (State.Keeps.refl s) d 1) fun _ u hu => M.leads_get_bind
    (M.leads_bind (M.leads_set _ ((hu.setReg d u.ac).withAc fun _ => and_mask_legal _ acMask)) fun _ _ hv =>
    M.leads_pure _ hv))

theorem execModtc_keeps {a b : Operand} {d : RegNum} (e : execModtc a b d s = .next t) : s.Keeps t := by
  refine run_keeps e (by decide) (M.leads_bind (checkDst_leads (State.Keeps.refl s) d 1) fun _ u hu => M.leads_get_bind
    (M.leads_bind (M.leads_set _ (State.Keeps.setReg ?_ d _)) fun _ _ hv => M.leads_pure _ hv))
  have legal : ∀ m w : Word, u.tc &&& ~~~tcMask = 0 → merge (m &&& tcMask) w u.tc &&& ~~~tcMask = 0 :=
    fun m w => merge_legal _ _ _ _ (and_mask_legal m tcMask)
  split
  · exact hu.withTc (legal _ _)
  · exact State.Keeps.withTc (t := u.openTcWindow) (hu.withTrace _) (legal _ _)

end

end Sys2Proof.Machine
end

section
namespace Sys2Proof.Machine

/-! Processor management: supervisor-only actions raise TYPE.MISMATCH in user mode and keep the invariant in supervisor
mode. -/

/-- What keeps the invariant from the state it starts in leads to it. -/
theorem M.Leads.inv {α : Type} {x : M α} {s : State} (hx : M.Leads s.Keeps x s) (h : s.Inv) : M.Leads State.Inv x s :=
  ⟨fun a t e => (hx.1 a t e).1 h, fun a t e => (hx.2 a t e).1 h⟩

/-- An action that has an end of its own to report. -/
theorem M.Leads.reports {x : M Unit} {s : State} (hx : M.Leads State.Inv x s) (r : Done) :
    M.Leads State.Inv (x >>= fun _ => (pure r : M Done)) s := M.leads_bind hx fun _ _ hu => M.leads_pure _ hu

/-- A supervisor-only action: in user mode nothing is done (48_processor_management R580). -/
theorem requireSupervisor_keeps {α : Type} {f : M α} {s : State}
    (hf : s.supervisor = true → s.Inv → M.Leads State.Inv f s) :
    M.Leads s.Keeps (requireSupervisor >>= fun _ => f) s := by
  cases hs : s.supervisor with
  | false =>
    have e : requireSupervisor s = .error (.raise .mismatch) s := by simp [requireSupervisor, M.bind_run, hs]
    exact M.leads_of_error (M.bind_error e) (.refl s)
  | true =>
    have e : requireSupervisor s = .ok () s := by simp [requireSupervisor, M.bind_run, hs]
    have hk : M.Leads s.Keeps f s := M.Leads.imp_and (hf hs) fun hu => by rw [hs] at hu; cases hu
    exact M.leads_bind_of (fun x t k => by rw [e] at k; cases k) fun x t k => by rw [e] at k; cases k; exact hk

section
variable {s t : State} (h : s.Inv)
include h

theorem storeWords_inv (a : Word) (vs : List Slot) : M.Leads State.Inv (storeWords a vs) s := by
  induction vs generalizing s a with
  | nil => exact M.leads_pure _ h
  | cons v rest ih => exact M.leads_bind (storeWord_inv a v h) fun _ _ hu => ih hu (a + 4)

theorem dumpCache_inv (sets ways : Nat) (setData : Nat → Nat → Slot) (range addr : Word) :
    M.Leads State.Inv (dumpCache sets ways setData range addr) s :=
  M.leads_get_bind (M.leads_ite (fun _ => M.leads_raise _ h) fun _ => M.leads_ite (fun _ => M.leads_raise _ h) fun _ =>
    storeWords_inv h _ _)

theorem State.Inv.purgeICache : s.purgeICache.Inv := (h.withCache _).withCache _

theorem loadAndLock_inv (a : Word) (count : Nat) : M.Leads State.Inv (loadAndLock a count) s := by
  refine M.leads_bind (M.leads_modify _ h.purgeICache) fun _ t ht => M.leads_get_bind
    (M.leads_ite (fun _ => M.leads_pure _ ht) fun _ => ?_)
  split
  · exact M.leads_stop _ ht
  · exact M.leads_set _ (ht.withCache _)

theorem configureICache_inv (mode : Byte) (a : Word) : M.Leads State.Inv (configureICache mode a) s :=
  M.leads_ite (fun _ => M.leads_modify _ (h.withCache _)) fun _ => M.leads_ite
    (fun _ => M.leads_modify _ (h.withCache _)) fun _ => M.leads_ite (fun _ => loadAndLock_inv h a 1) fun _ =>
    M.leads_raise _ h

theorem postByte_inv (a : Word) (bit : Byte) : M.Leads State.Inv (postByte a bit) s :=
  M.leads_bind (checkLoad_leads h a 1) fun _ _ hu => M.leads_bind (checkProtected_leads hu a 1) fun _ _ hv =>
    M.leads_modify _ (hv.poke8 a _)

theorem postSoftware_inv (v : Byte) : M.Leads State.Inv (postSoftware v) s := by
  refine M.leads_get_bind (M.leads_bind ((readWord_keeps (.refl s) false _).inv h) fun pend t ht =>
    M.leads_when (fun _ => postByte_inv ht _ _) (fun u hu => ?_) ht)
  exact M.leads_bind (storeWord_inv _ _ hu) fun _ _ hx => M.leads_modify _ (hx.withIntr _)

theorem State.Inv.afterMmrRead (r : MmrName) : (s.afterMmrRead r).Inv := (State.Keeps.afterMmrRead (.refl s) r).1 h

theorem modifyMmr_inv (a v mask : Word) : M.Leads State.Inv (modifyMmr a v mask) s :=
  checkMmrStore_bind h fun r _ _ => M.leads_get_bind
    (M.leads_bind (M.leads_set _ ((h.afterMmrRead r).setMmr _ r)) fun _ _ hu => M.leads_pure _ hu)

theorem softwareReinitialize_inv (prcb ip : Word) : M.Leads State.Inv (softwareReinitialize prcb ip) s :=
  have l := softwareReinitialize_loads (.refl s) prcb ip
  ⟨fun a t e => (l.1 a t e).2.2 h, fun a t e => (l.2 a t e).2.2 h⟩

theorem State.Inv.enableInterrupts (b : Bool) : (s.enableInterrupts b).Inv := h.withIntr _

/-- The interrupts enabled, disabled or left, by the operand of `halt` and `intctl`. -/
theorem State.Inv.interruptsBy (v : Word) :
    (if v = 0 then s.enableInterrupts false else if v = 1 then s.enableInterrupts true else s).Inv := by
  split
  · exact h.enableInterrupts _
  · split
    · exact h.enableInterrupts _
    · exact h

/-- A destination that passes its check and is written in a state that keeps the invariant. -/
theorem checkedSet_inv (d : RegNum) {u : State} (hu : u.Inv) (r : Done) :
    M.Leads State.Inv (checkDst d >>= fun _ => set u >>= fun _ => (pure r : M Done)) s :=
  M.leads_bind (checkDst_leads h d 1) fun _ _ _ => M.leads_bind (M.leads_set _ hu) fun _ _ hv => M.leads_pure _ hv

theorem checkedSetDst_inv (d : RegNum) (v : Word) :
    M.Leads State.Inv (checkDst d >>= fun _ => setDst d v >>= fun _ => (pure {} : M Done)) s :=
  M.leads_bind (checkDst_leads h d 1) fun _ _ hu => M.leads_bind (M.leads_modify _ (hu.setSlot d _)) fun _ _ hv =>
    M.leads_pure _ hv

end

/-- A change of PC under a mask that sets no reserved bit leaves PC with its defined bits (48_processor_management R604). -/
theorem legal_of_xor_legal {v pc : Word} (hx : (v ^^^ pc) &&& ~~~pcMask = 0) (hpc : pc &&& ~~~pcMask = 0) :
    v &&& ~~~pcMask = 0 := by
  have hv : v &&& ~~~pcMask = (v ^^^ pc) &&& ~~~pcMask ^^^ (pc &&& ~~~pcMask) := by
    ext i hi; simp only [BitVec.getElem_and, BitVec.getElem_xor]; cases v[i] <;> cases pc[i] <;> simp
  rw [hv, hx, hpc]
  rfl

section
variable {s t : State}

theorem execDcctl_keeps {a b : Operand} {d : RegNum} (e : execDcctl a b d s = .next t) : s.Keeps t :=
  run_keeps e (by decide) (requireSupervisor_keeps fun _ h => M.leads_get_bind (M.leads_ite
    (fun _ => (M.leads_set _ (h.withCache _)).reports _) fun _ => M.leads_ite
    (fun _ => (M.leads_set _ (h.withCache _)).reports _) fun _ => M.leads_ite
    (fun _ => (M.leads_set _ (h.withCache _)).reports _) fun _ => M.leads_ite
    (fun _ => checkedSetDst_inv h d _) fun _ => M.leads_ite
    (fun _ => (dumpCache_inv h _ _ _ _ _).reports _) fun _ => M.leads_raise _ h))

theorem execIcctl_keeps {a b : Operand} {d : RegNum} (e : execIcctl a b d s = .next t) : s.Keeps t :=
  run_keeps e (by decide) (requireSupervisor_keeps fun _ h => M.leads_get_bind (M.leads_ite
    (fun _ => (M.leads_set _ (h.withCache _)).reports _) fun _ => M.leads_ite
    (fun _ => (M.leads_set _ (h.withCache _)).reports _) fun _ => M.leads_ite
    (fun _ => (M.leads_set _ h.purgeICache).reports _) fun _ => M.leads_ite
    (fun _ => M.leads_ite (fun _ => M.leads_raise _ h) fun _ => (loadAndLock_inv h _ _).reports _) fun _ => M.leads_ite
    (fun _ => checkedSetDst_inv h d _) fun _ => M.leads_ite
    (fun _ => checkedSetDst_inv h d _) fun _ => M.leads_ite
    (fun _ => (dumpCache_inv h _ _ _ _ _).reports _) fun _ => M.leads_raise _ h))

theorem execHalt_keeps {a : Operand} (e : execHalt a s = .next t) : s.Keeps t :=
  run_keeps e (by decide) (requireSupervisor_keeps fun _ h => M.leads_get_bind (M.leads_ite (fun _ => M.leads_raise _ h)
    fun _ => (M.leads_set _ ((h.interruptsBy _).withIntr _)).reports _))

theorem execIntctl_keeps {a : Operand} {d : RegNum} (e : execIntctl a d s = .next t) : s.Keeps t :=
  run_keeps e (by decide) (requireSupervisor_keeps fun _ h => M.leads_get_bind (M.leads_ite (fun _ => M.leads_raise _ h)
    fun _ => checkedSet_inv h d ((h.interruptsBy _).setSlot d _) _))

theorem execIntdis_keeps (e : execIntdis s = .next t) : s.Keeps t :=
  run_keeps e (by decide) (requireSupervisor_keeps fun _ h => (M.leads_modify _ (h.enableInterrupts _)).reports _)

theorem execInten_keeps (e : execInten s = .next t) : s.Keeps t :=
  run_keeps e (by decide) (requireSupervisor_keeps fun _ h => (M.leads_modify _ (h.enableInterrupts _)).reports _)

theorem execModpc_keeps {a b : Operand} {d : RegNum} (e : execModpc a b d s = .next t) : s.Keeps t := by
  refine run_keeps e (by decide) (M.leads_get_bind (M.leads_ite
    (fun _ => M.leads_bind (checkDst_leads (State.Keeps.refl s) d 1) fun _ _ hu =>
      M.leads_bind (setDst_keeps hu d _) fun _ _ hv => M.leads_pure _ hv) fun _ =>
    requireSupervisor_keeps fun _ h => M.leads_bind (checkDst_leads h d 1) fun _ u hu => M.leads_ite
      (fun _ => M.leads_refuse _ hu) fun hx => (M.leads_set _ ?_).reports _))
  refine State.Inv.setSlot (State.Inv.withPc ?_ _ (legal_of_xor_legal (not_not.mp hx) h.pcLegal_eq)) d _
  split
  · exact h
  · exact h.withTrace _

theorem execSysctl_keeps {a b : Operand} {d : RegNum} (e : execSysctl a b d s = .next t) : s.Keeps t :=
  run_keeps e (by decide) (requireSupervisor_keeps fun _ h => M.leads_get_bind (M.leads_ite
    (fun _ => (postSoftware_inv h _).reports _) fun _ => M.leads_ite
    (fun _ => (M.leads_set _ h.purgeICache).reports _) fun _ => M.leads_ite
    (fun _ => (configureICache_inv h _ _).reports _) fun _ => M.leads_ite
    (fun _ => (softwareReinitialize_inv h _ _).reports _) fun _ => M.leads_ite
    (fun _ => M.leads_bind (checkDst_leads h d 1) fun _ _ hu => M.leads_bind (modifyMmr_inv hu _ _ _) fun _ _ hv =>
      M.leads_bind (M.leads_modify _ (hv.setSlot d _)) fun _ _ hw => M.leads_pure _ hw) fun _ => M.leads_ite
    (fun _ => checkedSet_inv h d ((h.withBp _).setSlot d _) _) fun _ => M.leads_raise _ h))

end

end Sys2Proof.Machine
end

section
namespace Sys2Proof.Machine

/-! The instructions. -/

/-- Every instruction keeps the invariant and, in user mode, the system state, whatever fault, trace or interrupt ends its
step. -/
theorem exec_keeps (i : Instr) {s t : State} (e : exec i s = .next t) : s.Keeps t := by
  have h := State.Keeps.refl s
  cases i with
  | ldob | ldos | ldib | ldis =>
    exact run_keeps e (memLength_aligned _) (loadItem_keeps h _ _ _ _ _)
  | ldl | ldt | ldq =>
    exact run_keeps e (memLength_aligned _) (loadGroup_keeps h _ _ _ _ _)
  | mov | movl | movt | movq =>
    exact run_keeps e (by decide) (moveGroup_keeps h _ _ _ _)
  | stl | stt | stq =>
    exact run_keeps e (memLength_aligned _) (storeGroup_keeps h _ _ _ _ _)
  | selno | selg | sele | selge | sell | selne | selle | selo =>
    exact run_keeps e (by decide) (select_keeps h _ _ _ _)
  | addono | addog | addoe | addoge | addol | addone | addole | addoo | subono | subog | suboe | suboge | subol |
    subone | subole | suboo =>
    exact run_keeps e (by decide) (whenCond_keeps h _ _ fun _ hu => binary_keeps hu _ _ _ _)
  | addino | addig | addie | addige | addil | addine | addile | addio | subino | subig | subie | subige | subil |
    subine | subile | subio =>
    exact run_keeps e (by decide) (whenCond_keeps h _ _ fun _ hu => binaryOverflow_keeps hu _ _ _ _ _)
  | addo | subo | mulo | shlo | shro | shri | shrdi | rotate | and | andnot | clrbit | nand | nor | notand | notbit |
    notor | or | ornot | setbit | xnor | xor =>
    exact run_keeps e (by decide) (binary_keeps h _ _ _ _)
  | addi | subi | muli | shli =>
    exact run_keeps e (by decide) (binaryOverflow_keeps h _ _ _ _ _)
  | divo | remo | remi | modi =>
    exact run_keeps e (by decide) (divideBy_keeps h _ _ _ _ _)
  | bswap | not =>
    exact run_keeps e (by decide) (unary_keeps h _ _ _)
  | chkbit | scanbyte | cmpo | cmpi | cmpob | cmpib | cmpos | cmpis =>
    unfold exec at e
    exact run_keeps e (by decide) (compareOp_keeps h _ _ _)
  | scanbit | spanbit | cmpdeco | cmpdeci | cmpinco | cmpinci =>
    exact run_keeps e (by decide) (checkedDstCc_keeps h _ _ _)
  | concmpo | concmpi =>
    exact run_keeps e (by decide) (compareIf_keeps h _ _ _)
  | testno | testg | teste | testge | testl | testne | testle | testo =>
    exact run_keeps e (by decide) (testCond_keeps h _ _)
  | bbc | bbs =>
    exact run_keeps e (by decide) (branchBit_keeps h _ _ _ _)
  | bno | bg | be | bge | bl | bne | ble | bo =>
    exact run_keeps e (by decide) (branchCond_keeps h _ _)
  | cmpobg | cmpobe | cmpobge | cmpobl | cmpobne | cmpoble | cmpibno | cmpibg | cmpibe | cmpibge | cmpibl | cmpibne |
    cmpible | cmpibo =>
    exact run_keeps e (by decide) (compareBranch_keeps h _ _ _ _ _)
  | faultno | faultg | faulte | faultge | faultl | faultne | faultle | faulto =>
    exact run_keeps e (by decide) (faultCond_keeps h _)
  | mark | fmark | syncf =>
    unfold exec at e
    exact run_keeps e (by decide) (M.leads_pure _ h)
  | alterbit | extract | modify =>
    exact run_keeps e (by decide) (checkedDst_keeps h _ _)
  | ld => exact execLd_keeps e
  | lda => exact execLda_keeps e
  | st => exact execSt_keeps e
  | stob => exact execStob_keeps e
  | stos => exact execStos_keeps e
  | stib => exact execStib_keeps e
  | stis => exact execStis_keeps e
  | bx => exact execBx_keeps e
  | balx => exact execBalx_keeps e
  | callx => exact execCallx_keeps e
  | addc => exact execAddc_keeps e
  | subc => exact execSubc_keeps e
  | divi => exact execDivi_keeps e
  | emul => exact execEmul_keeps e
  | ediv => exact execEdiv_keeps e
  | eshro => exact execEshro_keeps e
  | b => exact execB_keeps e
  | bal => exact execBal_keeps e
  | call => exact execCall_keeps e
  | calls => exact execCalls_keeps e
  | ret => exact execRet_keeps e
  | flushreg => exact execFlushreg_keeps e
  | atadd => exact execAtadd_keeps e
  | atmod => exact execAtmod_keeps e
  | dcctl => exact execDcctl_keeps e
  | halt => exact execHalt_keeps e
  | icctl => exact execIcctl_keeps e
  | intctl => exact execIntctl_keeps e
  | intdis => exact execIntdis_keeps e
  | inten => exact execInten_keeps e
  | modac => exact execModac_keeps e
  | modpc a b d => exact execModpc_keeps (a := a) e
  | modtc => exact execModtc_keeps e
  | sysctl => exact execSysctl_keeps e

/-- Settles O59: the system state is the half of `exec_keeps` that is of user mode. -/
theorem userModeKeepsSystemState : Obligations.UserModeKeepsSystemState := by
  unfold Obligations.UserModeKeepsSystemState
  intro i s hu t e
  obtain ⟨hsys, hhalt⟩ := (exec_keeps i e).2 hu
  have hhalted : t.intr.halted = (s.intr.halted && t.intr.halted) := by
    cases ht : t.intr.halted with
    | false => exact (Bool.and_false _).symm
    | true => rw [hhalt ht]; rfl
  simp only [State.system, SystemState.mk.injEq] at hsys
  obtain ⟨tables, config, bp, masked, device, data, instr, locked, reserved, icon, map0, map1, map2, plat, inputs⟩ := hsys
  exact ⟨tables, config, bp, masked, device, data, instr, locked, reserved, icon, map0, map1, map2, hhalted, plat, inputs⟩

/-! One step. -/

theorem State.Inv.post {s : State} (h : s.Inv) (bits : Word) : (s.post bits).Inv := h.withIntr _

theorem State.Inv.busWrite {s : State} (h : s.Inv) (a : Word) (b : Byte) : (s.busWrite a b).Inv := by
  have hm := s.busWrite_wf a b h.1
  unfold State.busWrite at hm ⊢
  split at hm
  · rename_i hr; rw [if_pos hr]; exact (h.withMem _ hm).withCache _
  · rename_i hr; rw [if_neg hr]; exact h

/-- An event of the outside (60_exceptions R694, R714; 20_memory R122; 70_reset R731). -/
theorem applyEvent_inv (ev : Event) {s : State} (h : s.Inv) : M.Leads State.Inv (applyEvent ev) s := by
  cases ev with
  | pins levels => exact M.leads_modify _ (h.withIntr _)
  | vector v => exact M.leads_modify _ (h.withIntr _)
  | nmi => exact M.leads_modify _ (h.withIntr _)
  | clock0 n =>
    refine M.leads_modify _ ?_
    dsimp only
    split
    · exact (h.withTimer0 _).post _
    · exact h.withTimer0 _
  | clock1 n =>
    refine M.leads_modify _ ?_
    dsimp only
    split
    · exact (h.withTimer1 _).post _
    · exact h.withTimer1 _
  | busWrite a b => exact M.leads_modify _ (h.busWrite a b)
  | reset =>
    have l := hardwareReset_loads s
    exact ⟨fun x t e => (l.1 x t e).2.2 h.resetCore, fun x t e => (l.2 x t e).2.2 h.resetCore⟩

theorem applyEvents_inv (evs : List Event) {s : State} (h : s.Inv) : M.Leads State.Inv (applyEvents evs) s := by
  induction evs generalizing s with
  | nil => exact M.leads_pure _ h
  | cons ev rest ih => exact M.leads_bind (applyEvent_inv ev h) fun _ _ ht => ih ht

theorem takeInputs_inv {s : State} (h : s.Inv) : M.Leads State.Inv takeInputs s := by
  refine M.leads_get_bind ?_
  cases s.inputs with
  | nil => exact M.leads_pure _ h
  | cons batch rest =>
    exact M.leads_bind (M.leads_set _ ((h.withInputs _).withFree _)) fun _ _ ht =>
      M.leads_bind (applyEvents_inv batch ht) fun _ _ hu => M.leads_modify _ (hu.withFree _)

theorem fetchWord_inv (a : Word) {s : State} (h : s.Inv) : M.Leads State.Inv (fetchWord a) s := by
  rcases fetchWord_cases a s with e | e | ⟨b, e⟩
  · exact M.leads_of_ok e (h.fetched a)
  · exact M.leads_of_error e h
  · exact M.leads_of_error e h

theorem fetch_inv {s : State} (h : s.Inv) : M.Leads State.Inv fetch s := by
  have decoded : ∀ (w0 w1 : Word) (t : State), t.Inv → M.Leads State.Inv (match decode w0 w1 with
      | .ok i => pure i
      | .error _ => raise .invalidOpcode : M Instr) t := by
    intro w0 w1 t ht
    cases decode w0 w1 with
    | ok i => exact M.leads_pure _ ht
    | error e => exact M.leads_raise _ ht
  exact M.leads_get_bind (M.leads_bind (fetchWord_inv _ h) fun w0 t ht => M.leads_ite
    (fun _ => M.leads_bind (fetchWord_inv _ ht) fun w1 u hu => decoded w0 w1 u hu) fun _ =>
    M.leads_bind (M.leads_pure _ ht) fun w1 u hu => decoded w0 w1 u hu)

/-- An instruction that is fetched and executed (20_memory R90; 30_encoding R157; 60_exceptions R643). -/
theorem fetchAndRun_inv {s t : State} (h : s.Inv) (e : fetchAndRun exec s = .next t) : t.Inv := by
  unfold fetchAndRun at e
  split at e
  · rename_i i u hu; exact (exec_keeps i e).1 ((fetch_inv h).1 _ _ hu)
  · rename_i k u hu; exact (faulted_inv _ _ k ((fetch_inv h).2 _ _ hu)).next e
  all_goals cases e

/-- The delivery of an interrupt or the execution of an instruction (60_exceptions R680, R682). -/
theorem cycle_inv {s t : State} (h : s.Inv) (e : cycle exec s = .next t) : t.Inv := by
  unfold cycle at e
  have latency : ∀ l, (s.withLatency l).Inv := fun l => h.withIntr _
  cases hp : s.pendingSource with
  | some src =>
    simp only [hp] at e
    split at e
    · exact (deliver_inv src (latency none)).next e
    · split at e
      · exact (deliver_inv src (latency none)).next e
      · exact fetchAndRun_inv (latency _) e
  | none =>
    simp only [hp] at e
    split at e
    · cases e; exact (latency none).withFree _
    · exact fetchAndRun_inv (latency none) e

/-- Settles O58: the inputs lead to the invariant, then the cycle, whose instruction keeps it by `exec_keeps`. -/
theorem stepKeepsInvariant : Obligations.StepKeepsInvariant := by
  unfold Obligations.StepKeepsInvariant
  intro s h t e
  unfold step stepWith at e
  split at e
  · rename_i u hu; exact cycle_inv ((takeInputs_inv h).1 _ _ hu) e
  all_goals cases e

end Sys2Proof.Machine
end

section
/-! PC after a hardware reset and after a reinitialization (10_state R48). -/

namespace Sys2Proof.Machine

/-! Initialization raises no fault: its words are the processor's own accesses (92_eei_decisions D26). -/

/-- An action that raises no fault in any state: it answers, or the model stops. -/
def M.NeverRaises {α : Type} (x : M α) : Prop := ∀ s k t, x s ≠ .error (.raise k) t

theorem M.neverRaises_modify (f : State → State) : M.NeverRaises (modify f : M Unit) := fun _ _ _ e => by cases e

theorem M.NeverRaises.bind {α β : Type} {x : M α} {f : α → M β} (hx : M.NeverRaises x) (hf : ∀ a, M.NeverRaises (f a)) :
    M.NeverRaises (x >>= f) := by
  intro s k t e
  cases h : x s with
  | ok a u => rw [M.bind_ok h] at e; exact hf a u k t e
  | error y u => rw [M.bind_error h] at e; cases e; exact hx s k t h

theorem initWord_neverRaises (a : Word) : M.NeverRaises (initWord a) := by
  intro s k t e
  rcases readImplicit_cases true a s with h | ⟨x, h, hn⟩
  · cases h.symm.trans e
  · cases h.symm.trans e; exact hn k rfl

theorem loadPmcon_neverRaises (c : Word) (n : Nat) : M.NeverRaises (loadPmcon c n) := by
  induction n with
  | zero => exact fun _ _ _ e => by cases e
  | succ n ih => exact ih.bind fun _ => (initWord_neverRaises _).bind fun _ => M.neverRaises_modify _

theorem loadControlTable_neverRaises (c : Word) : M.NeverRaises (loadControlTable c) :=
  (initWord_neverRaises _).bind fun _ => (initWord_neverRaises _).bind fun _ => (initWord_neverRaises _).bind fun _ =>
  (initWord_neverRaises _).bind fun _ => (M.neverRaises_modify _).bind fun _ => (loadPmcon_neverRaises c 8).bind fun _ =>
  (initWord_neverRaises _).bind fun _ => (M.neverRaises_modify _).bind fun _ => (initWord_neverRaises _).bind fun _ =>
  M.neverRaises_modify _

theorem processPrcb_neverRaises (p : Word) : M.NeverRaises (processPrcb p) :=
  (initWord_neverRaises _).bind fun _ => (initWord_neverRaises _).bind fun _ => (initWord_neverRaises _).bind fun _ =>
  (initWord_neverRaises _).bind fun _ => (initWord_neverRaises _).bind fun _ => (initWord_neverRaises _).bind fun _ =>
  (initWord_neverRaises _).bind fun _ => (initWord_neverRaises _).bind fun _ => (initWord_neverRaises _).bind fun _ =>
  (initWord_neverRaises _).bind fun _ => (M.neverRaises_modify _).bind fun _ => (loadControlTable_neverRaises _).bind fun _ =>
  (initWord_neverRaises _).bind fun _ => M.neverRaises_modify _

theorem softwareReinitialize_neverRaises (prcb ip : Word) : M.NeverRaises (softwareReinitialize prcb ip) :=
  (M.neverRaises_modify _).bind fun _ => (processPrcb_neverRaises prcb).bind fun _ => M.neverRaises_modify _

/-- Message 3 of `sysctl` is the reinitialization (48_processor_management R606, R610). -/
theorem exec_sysctl_reinitialize (a b : Operand) (d : RegNum) (s : State) (hs : s.supervisor = true)
    (hm : (operandValue a Site.src1 s).extractLsb' 8 8 = 3#8) :
    exec (.sysctl a b d) s = run 4 (softwareReinitialize (s.src Site.srcDst d) (operandValue b Site.src2 s) >>= fun _ =>
      pure { transfer := true }) s := by
  show run 4 _ s = _
  refine run_congr ?_
  have hsup : requireSupervisor s = .ok () s := by simp [requireSupervisor, M.bind_run, hs]
  rw [M.bind_ok hsup, M.bind_ok (M.get_run s)]
  simp only [hm]
  rfl

/-- A reinitialization of an untraced machine leaves PC (10_state R48). -/
theorem run_reinitialize_pc {prcb ip : Word} {s t : State} (hu : s.untraced)
    (e : run 4 (softwareReinitialize prcb ip >>= fun _ => pure { transfer := true }) s = .next t) : t.pc = s.pc := by
  cases h : softwareReinitialize prcb ip s with
  | ok x u =>
    obtain ⟨hpc, htrace, -⟩ := (softwareReinitialize_loads (.refl s) prcb ip).1 x u h
    rw [run_transfer (t := u) (d := { transfer := true }) (by rw [M.bind_ok h]; rfl) hu (by rw [htrace]; exact hu.2) rfl rfl
      rfl] at e
    cases e
    exact hpc
  | error x u =>
    cases x with
    | raise k => exact absurd h (softwareReinitialize_neverRaises prcb ip s k u)
    | fault f => rw [run_fault 4 _ s u f (M.bind_error h)] at e; cases e
    | refuse r => rw [run_refuse 4 _ s u r (M.bind_error h)] at e; cases e

/-- Settles O51: the reset sets PC before it loads anything, and what loads leaves PC. -/
theorem resetProcessControls : Obligations.ResetProcessControls := by
  unfold Obligations.ResetProcessControls
  refine ⟨by decide, fun s t e => ?pin, fun a b d s hm hu hs t e => ?message⟩
  case pin => exact ((hardwareReset_loads s).1 () t e).1
  case message => exact run_reinitialize_pc hu (exec_sysctl_reinitialize a b d s hs hm ▸ e)

end Sys2Proof.Machine
end

section
/-! r2 as a destination (10_state R25, 70_reset R749): the check comes before any effect of the action. -/

namespace Sys2Proof.Machine

/-- A group that holds r2 raises OPERATION.UNIMPLEMENTED. -/
theorem checkDst_group (n : RegNum) (count : Nat) (s : State) (h : groupHasRip n count = true) :
    checkDst n count s = .error (.raise .unimplemented) s := by
  simp [checkDst, h]

/-- An instruction whose action raises a fault before any effect. -/
theorem run_raised {len : Word} {action : M Done} {s : State} {k : FaultKind} (h : action s = .error (.raise k) s) :
    run len action s = s.raised len k := run_raise len action s s k h

/-- An instruction that checks its destination r2 first. -/
theorem run_checkDst_rip (len : Word) (f : Unit → M Done) (s : State) :
    run len (checkDst 2 >>= f) s = s.raised len .unimplemented := run_raised (M.bind_error (checkDst_rip s))

/-- An instruction that checks its destination group, which holds r2, first. -/
theorem run_checkDst_group (len : Word) (n : RegNum) (count : Nat) (f : Unit → M Done) (s : State)
    (h : groupHasRip n count = true) : run len (checkDst n count >>= f) s = s.raised len .unimplemented :=
  run_raised (M.bind_error (checkDst_group n count s h))

/-- A supervisor-only instruction in supervisor mode goes on as without the requirement. -/
theorem run_requireSupervisor (len : Word) (f : Unit → M Done) {s : State} (h : s.supervisor = true) :
    run len (requireSupervisor >>= f) s = run len (f ()) s :=
  run_congr (M.bind_ok (by simp [requireSupervisor, M.bind_run, h]))

/-- A move to an aligned group that holds r2, from a literal or an aligned group. -/
theorem moveGroup_rip {count alignment : Nat} {a : Operand} {d : RegNum} {s : State}
    (ha : operandMisaligned a alignment = false) (hd : misaligned d alignment = false) (h : groupHasRip d count = true) :
    run 4 (moveGroup count alignment a d) s = s.raised 4 .unimplemented := by
  rw [moveGroup, ha, hd]
  exact run_checkDst_group 4 d count _ s h

/-- A load of an aligned group that holds r2. -/
theorem loadGroup_rip {count alignment bits : Nat} {m : MemOperand} {d : RegNum} {s : State}
    (hd : misaligned d alignment = false) (h : groupHasRip d count = true) :
    run (memLength m) (loadGroup count alignment bits m d) s = s.raised (memLength m) .unimplemented := by
  rw [loadGroup, hd]
  exact run_checkDst_group _ d count _ s h

/-- A register number that is a multiple of the alignment starts a group. -/
theorem operandMisaligned_reg {n : RegNum} {alignment : Nat} (h : n.toNat % alignment = 0) :
    operandMisaligned (.reg n) alignment = false := by
  simp [operandMisaligned, misaligned, h]

/-- `mov` reads one register, which is always the start of a group of one. -/
theorem exec_mov_rip (a : Operand) (s : State) : exec (.mov a 2) s = s.raised 4 .unimplemented := by
  have ha : operandMisaligned a 1 = false := by
    cases a with
    | reg n => exact operandMisaligned_reg (Nat.mod_one _)
    | lit v => rfl
  exact moveGroup_rip ha rfl rfl

/-- `divi` checks its destination after it has read the state. -/
theorem exec_divi_rip (a b : Operand) (s : State) : exec (.divi a b 2) s = s.raised 4 .unimplemented := by
  have hd : divideBy true (fun a b => BitVec.ofInt 32 (quotientInt a b)) a b 2 s = .error (.raise .unimplemented) s :=
    M.bind_error (checkDst_rip s)
  unfold exec execDivi
  exact run_raised ((M.bind_ok (M.get_run s)).trans (M.bind_error hd))

/-- The pair at r2 is aligned, so that `emul` comes to the check. -/
theorem exec_emul_rip (a b : Operand) (s : State) : exec (.emul a b 2) s = s.raised 4 .unimplemented := by
  have hd : misaligned 2 2 = false := rfl
  unfold exec execEmul
  refine run_raised ?_
  simp only [hd, Bool.false_eq_true, if_false]
  exact M.bind_error (checkDst_group 2 2 s rfl)

/-- `ediv` and `eshro` with a source pair come to the check. -/
theorem exec_pair_rip (a b : Operand) (s : State) {p : BitVec 64} (hp : pairValue b s = some p) :
    exec (.eshro a b 2) s = s.raised 4 .unimplemented ∧ exec (.ediv a b 2) s = s.raised 4 .unimplemented := by
  refine ⟨run_raised ?_, run_raised ?_⟩
  · rw [M.bind_ok (M.get_run s), hp]
    exact M.bind_error (checkDst_rip s)
  · rw [M.bind_ok (M.get_run s), hp]
    exact M.bind_error (checkDst_group 2 2 s rfl)

/-- `modpc` comes to the check where it only reads PC, and in supervisor mode. -/
theorem exec_modpc_rip (a b : Operand) (s : State) (h : operandValue b Site.src2 s = 0 ∨ s.supervisor = true) :
    exec (.modpc a b 2) s = s.raised 4 .unimplemented := by
  refine run_raised ?_
  rw [M.bind_ok (M.get_run s)]
  by_cases hm : operandValue b Site.src2 s = 0
  · simp only [if_pos hm]
    exact M.bind_error (checkDst_rip s)
  · have hs : requireSupervisor s = .ok () s := by simp [requireSupervisor, M.bind_run, h.resolve_left hm]
    simp only [if_neg hm, M.bind_ok hs]
    exact M.bind_error (checkDst_rip s)

/-! The management instructions, in supervisor mode. -/

section
variable (a b : Operand) {s : State} (hs : s.supervisor = true)
include hs

theorem exec_intctl_rip (hv : (operandValue a Site.src1 s).toNat ≤ 2) :
    exec (.intctl a 2) s = s.raised 4 .unimplemented := by
  refine (run_requireSupervisor 4 _ hs).trans (run_raised ?_)
  rw [M.bind_ok (M.get_run s), if_neg (Nat.not_lt.mpr hv)]
  exact M.bind_error (checkDst_rip s)

theorem exec_dcctl_rip (hf : (operandValue a Site.src1 s).setWidth 8 = 4#8) :
    exec (.dcctl a b 2) s = s.raised 4 .unimplemented := by
  refine (run_requireSupervisor 4 _ hs).trans (run_raised ?_)
  simp only [M.bind_ok (M.get_run s), hf]
  exact M.bind_error (checkDst_rip s)

theorem exec_icctl_rip (hf : (operandValue a Site.src1 s).setWidth 8 = 4#8 ∨ (operandValue a Site.src1 s).setWidth 8 = 5#8) :
    exec (.icctl a b 2) s = s.raised 4 .unimplemented := by
  refine (run_requireSupervisor 4 _ hs).trans (run_raised ?_)
  rcases hf with hf | hf <;> simp only [M.bind_ok (M.get_run s), hf] <;> exact M.bind_error (checkDst_rip s)

theorem exec_sysctl_rip (hf : (operandValue a Site.src1 s).extractLsb' 8 8 = 5#8 ∨
    (operandValue a Site.src1 s).extractLsb' 8 8 = 6#8) : exec (.sysctl a b 2) s = s.raised 4 .unimplemented := by
  refine (run_requireSupervisor 4 _ hs).trans (run_raised ?_)
  rcases hf with hf | hf <;> simp only [M.bind_ok (M.get_run s), hf] <;> exact M.bind_error (checkDst_rip s)

end

/-- Settles O26: each action comes to the check of its destination in the state it starts in. -/
theorem ripDestinationFaults : Obligations.RipDestinationFaults := by
  unfold Obligations.RipDestinationFaults
  intro a b m s
  refine ⟨?words, ?mems, fun v n => ⟨?movlLiteral, fun hn => ?movlGroup, ?moveGroups⟩, fun hp => ?pairs,
    exec_modpc_rip a b s, fun hs => ⟨exec_intctl_rip a hs, exec_dcctl_rip a b hs, exec_icctl_rip a b hs,
    exec_sysctl_rip a b hs⟩⟩
  case words =>
    simp only [List.forall_mem_cons, exec_divi_rip, exec_emul_rip, exec_mov_rip, List.not_mem_nil, false_imp_iff,
      implies_true, true_and, and_true]
    and_intros
    all_goals unfold exec
    all_goals exact run_checkDst_rip 4 _ s
  case mems =>
    simp only [List.forall_mem_cons, List.not_mem_nil, false_imp_iff, implies_true, and_true]
    have item := fun f => run_checkDst_rip (memLength m) f s
    unfold exec
    exact ⟨item _, item _, item _, item _, item _, loadGroup_rip rfl rfl, loadGroup_rip rfl rfl, loadGroup_rip rfl rfl,
      item _, item _⟩
  case movlLiteral => unfold exec; exact moveGroup_rip rfl rfl rfl
  case movlGroup => unfold exec; exact moveGroup_rip (operandMisaligned_reg hn) rfl rfl
  case moveGroups =>
    simp only [List.forall_mem_cons, List.not_mem_nil, false_imp_iff, implies_true, and_true]
    unfold exec
    exact ⟨⟨moveGroup_rip rfl rfl rfl, fun hn => moveGroup_rip (operandMisaligned_reg hn) rfl rfl⟩,
      moveGroup_rip rfl rfl rfl, fun hn => moveGroup_rip (operandMisaligned_reg hn) rfl rfl⟩
  case pairs =>
    obtain ⟨p, hp⟩ := Option.ne_none_iff_exists'.mp hp
    exact exec_pair_rip a b s hp

end Sys2Proof.Machine
end

section
/-! Calls: the state that `call` and `callx` leave (45_call_return R503 to R505, R520, R521). -/

namespace Sys2Proof.Machine

/-! What a store of words leaves. -/

/-- A store of words changes no byte outside them. -/
theorem State.byteAt_pokeWords_ne (s : State) (a b : Word) (vs : List Slot)
    (h : ∀ i < 4 * vs.length, b ≠ a + BitVec.ofNat 32 i) : (s.pokeWords a vs).byteAt b = s.byteAt b := by
  induction vs generalizing s a with
  | nil => rfl
  | cons v rest ih =>
    have hlt : ∀ i < 4, i < 4 * (v :: rest).length := fun i hi => by simp only [List.length_cons]; omega
    have h0 : b ≠ a := by simpa using h 0 (hlt 0 (by decide))
    rw [State.pokeWords, ih, s.byteAt_poke32_ne a b v h0 (h 1 (hlt 1 (by decide))) (h 2 (hlt 2 (by decide)))
      (h 3 (hlt 3 (by decide)))]
    intro i hi
    have := h (4 + i) (by simp only [List.length_cons]; omega)
    rwa [BitVec.ofNat_add, ← BitVec.add_assoc] at this

/-! The new frame. -/

/-- A pushed set leaves the globals and, of the frames, all but the cache (45_call_return R505). -/
theorem State.Pushed.leaves {s u : State} {f : CachedFrame} (hp : s.Pushed f u) :
    u.globals = s.globals ∧ ∃ cache, u.frames = { s.frames with cache := cache } := by
  cases hp with
  | kept => exact ⟨rfl, _, rfl⟩
  | itself => exact ⟨(s.pokeWords_frame _ _).globals, s.frames.cache, (s.pokeWords_frame _ _).frames⟩
  | spilled => exact ⟨(s.pokeWords_frame _ _).globals, _, rfl⟩

section
variable (u : State) (pfp fp target : Word)

@[simp] theorem State.enterFrame_globals :
    (u.enterFrame pfp fp target).globals = u.globals.set 15 (.val fp) := rfl
@[simp] theorem State.enterFrame_locals : (u.enterFrame pfp fp target).locals = newLocals u.free pfp (fp + 64) := rfl
@[simp] theorem State.enterFrame_ip : (u.enterFrame pfp fp target).ip = target &&& 0xFFFFFFFC := rfl
@[simp] theorem State.enterFrame_frames : (u.enterFrame pfp fp target).frames =
    { u.frames with current := fp, pfpDirty := false
                    unsetPfp := if u.frames.unsetPfp = some fp then none else u.frames.unsetPfp } := rfl

/-- The stores of the new save area are all that a new frame does to memory (10_state R26). -/
theorem State.byteAt_enterFrame (b : Word) :
    (u.enterFrame pfp fp target).byteAt b = (u.pokeWords fp (newSaveArea u.free)).byteAt b := by
  simp [State.enterFrame, State.jump, State.byteAt]

theorem State.enterFrame_ac : (u.enterFrame pfp fp target).ac = u.ac := by
  simp [State.enterFrame, State.jump, (u.pokeWords_frame _ _).ac]

theorem State.enterFrame_trace : (u.enterFrame pfp fp target).trace = u.trace := by
  simp [State.enterFrame, State.jump, (u.pokeWords_frame _ _).trace]

theorem State.sameSpecial_enterFrame : u.sameSpecial (u.enterFrame pfp fp target) := by
  have f := u.pokeWords_frame fp (newSaveArea u.free)
  simp [State.sameSpecial, State.enterFrame, State.jump, f.pc, f.tc, f.tables, f.unalignedMasked, f.config, f.bp, f.intr,
    f.timer0, f.timer1, f.deviceId, f.dataEnabled, f.instrEnabled, f.instrLocked]

theorem State.enterFrame_fp : (u.enterFrame pfp fp target).slot 31 = .val fp := by simp [State.slot]
theorem State.enterFrame_sp : (u.enterFrame pfp fp target).slot 1 = .val (fp + 64) := by simp [State.slot, newLocals]
theorem State.enterFrame_pfp : (u.enterFrame pfp fp target).slot 0 = .val pfp := by simp [State.slot, newLocals]

theorem State.enterFrame_global (n : RegNum) (hn : 16 ≤ n.toNat) (h31 : n ≠ 31) :
    (u.enterFrame pfp fp target).slot n = u.slot n := by
  have h15 : 15 ≠ n.toNat - 16 := by bv_omega
  simp only [State.slot, dif_neg (Nat.not_lt.mpr hn), State.enterFrame_globals, Vector.getElem_set, if_neg h15]

end

/-- The call operation enters the frame of the spec, the set having been pushed, where no call is traced
(45_call_return R503, R504). -/
theorem State.Pushed.entersFrame {s u : State} {f : CachedFrame} (hp : s.Pushed f u) (ht : s.callTraced = false)
    (rt : BitVec 3) (base target : Word) :
    s.entersFrame (u.enterFrame (s.linkWord rt) (roundUp16 base) target) base (rt.zeroExtend 32) := by
  obtain ⟨hg, cache, hf⟩ := hp.leaves
  refine ⟨u.enterFrame_fp _ _ _, u.enterFrame_sp _ _ _, ?pfp, fun n hn h31 => ?global, rfl, rfl, ?reserved, ?unset⟩
  case pfp =>
    rw [u.enterFrame_pfp, State.linkWord, ht]
    simp [State.fpAddress, fpReg]
  case global =>
    rw [u.enterFrame_global _ _ _ n hn h31]
    simp only [State.slot, dif_neg (Nat.not_lt.mpr hn), hg]
  case reserved => rw [State.enterFrame_frames, hf]
  case unset => rw [State.enterFrame_frames, hf]; rfl

/-- The set that a call suspends (45_call_return R503, R505, R506). -/
theorem State.suspendedAs_suspended (s : State) (rip : Slot) : s.suspendedAs (s.suspended rip) rip :=
  ⟨rfl, rfl, fun h => if_pos h⟩

/-! `call` and `callx` with room in the cache. -/

/-- `s` with the set of its frame pushed onto a cache with room. -/
def State.suspendedInto (s : State) (rip : Slot) : State :=
  s.withFrames { s.frames with cache := s.frames.cache ++ [s.suspended rip] }

theorem State.pushed_suspendedInto {s : State} (h : s.pushSpills = false) (rip : Slot) :
    s.Pushed (s.suspended rip) (s.suspendedInto rip) := .kept h

/-- The state after a local call with room in the cache. Irreducible, so that a comparison of two states stops at it and
uses the lemmas below. -/
@[irreducible] def State.called (s : State) (rip target : Word) : State :=
  (s.suspendedInto (.val rip)).enterFrame (s.linkWord 0) (roundUp16 (s.reg 1)) target

theorem localCall_ok {s : State} (h : s.pushSpills = false) (rip target : Word) :
    localCall rip target s = .ok (transferred evCall) (s.called rip target) := by
  simp [localCall, doCall, pushFrame, M.bind_run, M.map_run, h, State.called, State.suspendedInto]

section
variable (s : State) (rip target : Word)

theorem State.called_ip : (s.called rip target).ip = target &&& 0xFFFFFFFC := by
  rw [State.called, State.enterFrame_ip]

theorem State.called_ac : (s.called rip target).ac = s.ac := by
  rw [State.called, State.enterFrame_ac, State.suspendedInto, State.withFrames_ac]

theorem State.called_trace : (s.called rip target).trace = s.trace := by
  rw [State.called, State.enterFrame_trace, State.suspendedInto, State.withFrames_trace]

theorem State.entersFrame_called (h : s.pushSpills = false) (ht : s.callTraced = false) :
    s.entersFrame (s.called rip target) (s.reg 1) 0 := by
  rw [State.called]
  exact (s.pushed_suspendedInto h _).entersFrame ht 0 (s.reg 1) target

theorem State.suspendsOnto_called : s.suspendsOnto (s.called rip target) s.frames.cache (.val rip) := by
  have hc : (s.called rip target).frames.cache = s.frames.cache ++ [s.suspended (.val rip)] := by
    rw [State.called, State.enterFrame_frames, State.suspendedInto, State.withFrames_frames]
  rw [State.suspendsOnto, hc]
  exact ⟨List.dropLast_concat, _, List.getLast?_concat, s.suspendedAs_suspended _⟩

theorem State.sameSpecial_called : s.sameSpecial (s.called rip target) := by
  rw [State.called]
  exact State.sameSpecial_enterFrame (s.suspendedInto (.val rip)) _ _ _

theorem State.sameBytesBut_called : s.sameBytesBut (s.called rip target) (frameAt (s.reg 1)) 64 := by
  intro b hb
  have outside : ∀ i < 4 * (newSaveArea (s.suspendedInto (.val rip)).free).length,
      b ≠ roundUp16 (s.reg 1) + BitVec.ofNat 32 i := fun i hi => hb i (by simpa [newSaveArea] using hi)
  rw [State.called, State.byteAt_enterFrame, State.byteAt_pokeWords_ne _ _ b _ outside]
  rfl

end

/-! The end of the instruction changes nothing that these say. -/

section
variable {s t : State} (b : Bool)

theorem State.entersFrame.retire {base rt : Word} (h : s.entersFrame t base rt) : s.entersFrame (t.retire b) base rt := h
theorem State.suspendsOnto.retire {old : List CachedFrame} {rip : Slot} (h : s.suspendsOnto t old rip) :
    s.suspendsOnto (t.retire b) old rip := h
theorem State.sameSpecial.retire (h : s.sameSpecial t) : s.sameSpecial (t.retire b) := h
theorem State.sameBytesBut.retire {a : Word} {n : Nat} (h : s.sameBytesBut t a n) : s.sameBytesBut (t.retire b) a n := h
theorem State.retire_ip : (t.retire b).ip = t.ip := rfl
theorem State.retire_ac : (t.retire b).ac = t.ac := rfl

end

/-- `call` and `callx` are local calls (45_call_return R520, R521). -/
theorem exec_call_eq (disp : BitVec 24) (s : State) :
    exec (.call disp) s = run 4 (localCall (s.ip + 4) (s.ip + disp.signExtend 32)) s := by
  unfold exec execCall
  exact run_congr (M.bind_ok (M.get_run s))

theorem exec_callx_eq (m : MemOperand) (s : State) :
    exec (.callx m) s = run (memLength m) (localCall (s.ip + memLength m) (efa m s)) s := by
  unfold exec execCallx
  exact run_congr (M.bind_ok (M.get_run s))

/-- Settles O28: the outcome of either call is `State.called` at its return address and target. -/
theorem localCalls : Obligations.LocalCalls := by
  unfold Obligations.LocalCalls
  intro disp m s hu hp
  have traced : s.callTraced = false := by rw [State.callTraced, hu.1, Bool.false_and]
  have outcome : ∀ (i : Instr) (target len : Word), exec i s = run len (localCall (s.ip + len) target) s →
      ∃ t, exec i s = .next t ∧ t.ip = target &&& 0xFFFFFFFC ∧ s.entersFrame t (s.reg 1) 0 ∧
        s.suspendsOnto t s.frames.cache (.val (s.ip + len)) ∧ t.ac = s.ac ∧ s.sameSpecial t ∧
        s.sameBytesBut t (frameAt (s.reg 1)) 64 := by
    intro i target len hi
    have window : (s.called (s.ip + len) target).trace.teWindow = 0 := by rw [s.called_trace]; exact hu.2
    have next := run_transfer (len := len) (localCall_ok hp (s.ip + len) target) hu window rfl rfl rfl
    exact ⟨_, hi.trans next, (State.retire_ip _).trans (s.called_ip _ _), (s.entersFrame_called _ _ hp traced).retire _,
      (s.suspendsOnto_called _ _).retire _, (State.retire_ac _).trans (s.called_ac _ _), (s.sameSpecial_called _ _).retire _,
      (s.sameBytesBut_called _ _).retire _⟩
  simp only [List.forall_mem_cons, List.not_mem_nil, false_imp_iff, implies_true, and_true]
  exact ⟨outcome _ _ _ (exec_call_eq disp s), outcome _ _ _ (exec_callx_eq m s)⟩

end Sys2Proof.Machine
end

section
/-! emul, ediv and eshro: register pairs as results and as operands (41_arithmetic R313, R314, R322; 10_state R27). -/

namespace Sys2Proof.Machine

/-! Pairs as destinations. -/

/-- Two changes of registers, one after the other. -/
theorem State.changesOnly.trans {s t u : State} {ds es : List RegNum} (h : s.changesOnly t ds) (k : t.changesOnly u es) :
    s.changesOnly u (ds ++ es) := by
  obtain ⟨⟨hslot, hdirty, hunset⟩, hspecial, ⟨hcache, hreserved, hcurrent⟩, hbytes⟩ := h
  obtain ⟨⟨kslot, kdirty, kunset⟩, kspecial, ⟨kcache, kreserved, kcurrent⟩, kbytes⟩ := k
  refine ⟨⟨fun n hn => ?slot, ?dirty, ?unset⟩, ?special, ⟨kcache.trans hcache, kreserved.trans hreserved,
    kcurrent.trans hcurrent⟩, fun a => (kbytes a).trans (hbytes a)⟩
  case slot =>
    rw [List.mem_append, not_or] at hn
    exact (kslot n hn.2).trans (hslot n hn.1)
  case dirty => rw [kdirty, hdirty, List.contains_append, Bool.or_assoc]
  case unset =>
    rw [kunset, List.contains_append, Frames.pfpWritten, Frames.pfpWritten, hunset, hcurrent]
    cases ds.contains 0 <;> cases es.contains 0 <;> simp [Frames.pfpWritten]
  case special =>
    simp only [State.sameSpecial] at hspecial kspecial ⊢
    simp only [kspecial, hspecial, and_self]

theorem regNum_succ_ne (d : RegNum) : d + 1 ≠ d := by bv_omega

section
variable {d : RegNum} (hd : d.toNat % 2 = 0)
include hd

/-- An even register starts a pair. -/
theorem not_misaligned_pair : misaligned d 2 = false := by simp [misaligned, hd]

/-- The pair at an even register is that register and the next. -/
theorem State.setGroup_pair (s : State) (v w : Slot) :
    s.setGroup d 0 [v, w] = (s.setSlot d v).setSlot (d + 1) w := by
  have h0 : groupReg d 0 = some d := by
    rw [groupReg, if_pos (by omega)]; exact congrArg some (BitVec.add_zero d)
  have h1 : groupReg d 1 = some (d + 1) := by rw [groupReg, if_pos (by omega)]; rfl
  simp only [State.setGroup, h0, h1]

/-- The pair at an even register but r2 does not hold r2. -/
theorem checkDst_pair (s : State) (h2 : d ≠ 2) : checkDst d 2 s = .ok () s := by
  have hn : d.toNat ≠ 2 := fun e => h2 (BitVec.eq_of_toNat_eq e)
  have hg : groupHasRip d 2 = false := by
    simp only [groupHasRip, decide_eq_false_iff_not]; omega
  simp [checkDst, hg]

/-- What a write of a pair leaves. -/
theorem State.changesOnly_pair (s : State) (v w : Slot) : s.changesOnly (s.setGroup d 0 [v, w]) [d, d + 1] := by
  rw [s.setGroup_pair hd]
  exact (s.changesOnly_setSlot d v).trans (State.changesOnly_setSlot _ (d + 1) w)

theorem State.slot_pair_low (s : State) (v w : Slot) : (s.setGroup d 0 [v, w]).slot d = v := by
  rw [s.setGroup_pair hd, State.slot_setSlot_ne _ _ _ _ (regNum_succ_ne d).symm, State.slot_setSlot_self]

theorem State.slot_pair_high (s : State) (v w : Slot) : (s.setGroup d 0 [v, w]).slot (d + 1) = w := by
  rw [s.setGroup_pair hd, State.slot_setSlot_self]

end

@[simp] theorem State.setGroup_ip (s : State) (n : RegNum) (i : Nat) (vs : List Slot) : (s.setGroup n i vs).ip = s.ip := by
  induction vs generalizing s i with
  | nil => rfl
  | cons v rest ih => rw [State.setGroup, ih]; cases groupReg n i <;> simp

@[simp] theorem State.setGroup_ac (s : State) (n : RegNum) (i : Nat) (vs : List Slot) : (s.setGroup n i vs).ac = s.ac := by
  induction vs generalizing s i with
  | nil => rfl
  | cons v rest ih => rw [State.setGroup, ih]; cases groupReg n i <;> simp

@[simp] theorem State.setGroup_trace (s : State) (n : RegNum) (i : Nat) (vs : List Slot) :
    (s.setGroup n i vs).trace = s.trace := by
  induction vs generalizing s i with
  | nil => rfl
  | cons v rest ih => rw [State.setGroup, ih]; cases groupReg n i <;> simp

/-! Pairs as operands. -/

/-- A literal and an odd register name no pair (92_eei_decisions D18). -/
theorem pairValue_lit (v : BitVec 5) (s : State) : pairValue (.lit v) s = none := rfl

theorem pairValue_odd {n : RegNum} (hn : n.toNat % 2 ≠ 0) (s : State) : pairValue (.reg n) s = none := by
  simp [pairValue, misaligned, hn]

/-- The low word of a pair is in its even register, the high word in the next. -/
theorem pairValue_even {n : RegNum} (hn : n.toNat % 2 = 0) (s : State) : ∃ p, pairValue (.reg n) s = some p ∧
    (n ≠ 2 → p.toNat = (s.reg (n + 1)).toNat * 2 ^ 32 + (s.reg n).toNat) := by
  refine ⟨_, by rw [pairValue, not_misaligned_pair hn]; rfl, fun h2 => ?_⟩
  have h2' : n + 1 ≠ 2 := fun e => by
    obtain rfl : n = 1 := by bv_omega
    exact absurd hn (by decide)
  rw [BitVec.toNat_append, ← Nat.shiftLeft_add_eq_or_of_lt (BitVec.isLt _), Nat.shiftLeft_eq]
  simp only [State.src, State.srcSlot, if_neg h2, if_neg h2', State.reg]

/-! The arithmetic. -/

/-- The two words of a product of two words. -/
theorem product_words (a b : Word) :
    ((a.zeroExtend 64 * b.zeroExtend 64).extractLsb' 32 32).toNat * 2 ^ 32 +
      ((a.zeroExtend 64 * b.zeroExtend 64).extractLsb' 0 32).toNat = a.toNat * b.toNat := by
  have ha := a.isLt
  have hb := b.isLt
  have hab : a.toNat * b.toNat < 2 ^ 64 := (Nat.mul_lt_mul'' ha hb).trans_eq (by norm_num)
  have hp : (a.zeroExtend 64 * b.zeroExtend 64).toNat = a.toNat * b.toNat := by
    rw [BitVec.toNat_mul, BitVec.toNat_setWidth, BitVec.toNat_setWidth, Nat.mod_eq_of_lt (by omega : a.toNat < 2 ^ 64),
      Nat.mod_eq_of_lt (by omega : b.toNat < 2 ^ 64), Nat.mod_eq_of_lt hab]
  rw [BitVec.extractLsb'_toNat, BitVec.extractLsb'_toNat, hp]
  generalize a.toNat * b.toNat = p at hab
  simp only [Nat.shiftRight_eq_div_pow]
  omega

/-- A quotient that fits in a word has a divisor above the high word of the dividend. -/
theorem not_quotient_fits {n a : Nat} (ha : a ≠ 0) (h : a ≤ n / 2 ^ 32) : ¬ n / a < 2 ^ 32 := by
  rw [Nat.not_lt, Nat.le_div_iff_mul_le (Nat.pos_of_ne_zero ha)]
  calc 2 ^ 32 * a ≤ 2 ^ 32 * (n / 2 ^ 32) := Nat.mul_le_mul_left _ h
    _ ≤ n := Nat.mul_div_le n (2 ^ 32)

/-- The low word of a shifted pair. -/
theorem shifted_low_word (n : BitVec 64) (k : Nat) : (n >>> k).setWidth 32 = BitVec.ofNat 32 (n.toNat / 2 ^ k) := by
  apply BitVec.eq_of_toNat_eq
  simp [Nat.shiftRight_eq_div_pow]

/-! The instructions. -/

section
variable (a b : Operand) (d : RegNum) (s : State)

/-- The outcome of an instruction that comes to the write of a pair of slots. -/
theorem run_setPair (v w : Slot) (hd : d.toNat % 2 = 0) (hu : s.untraced) :
    ∃ t, run 4 (set (s.setGroup d 0 [v, w]) >>= fun _ => (pure {} : M Done)) s = .next t ∧ t.slot d = v ∧
      t.slot (d + 1) = w ∧ t.ac = s.ac ∧ t.ip = s.ip + 4 ∧ s.changesOnly t [d, d + 1] := by
  refine ⟨_, run_after (d := {}) rfl hu (by rw [State.setGroup_trace]; exact hu.2) rfl rfl rfl, ?_⟩
  exact ⟨s.slot_pair_low hd v w, s.slot_pair_high hd v w, State.setGroup_ac _ _ _ _,
    congrArg (· + 4) (State.setGroup_ip _ _ _ _),
    State.changesOnly_after (s.changesOnly_pair hd v w) _ _⟩

/-- `emul` to an aligned pair but r2 comes to the write of the product. -/
theorem exec_emul_eq (hd : d.toNat % 2 = 0) (h2 : d ≠ 2) : ∃ p : BitVec 64,
    p = (operandValue a Site.src1 s).zeroExtend 64 * (operandValue b Site.src2 s).zeroExtend 64 ∧ exec (.emul a b d) s =
      run 4 (set (s.setGroup d 0 [.val (p.extractLsb' 0 32), .val (p.extractLsb' 32 32)]) >>= fun _ => pure {}) s := by
  refine ⟨_, rfl, ?_⟩
  unfold exec execEmul
  refine run_congr ?_
  simp only [not_misaligned_pair hd, Bool.false_eq_true, if_false]
  rw [M.bind_ok (checkDst_pair hd s h2), M.bind_ok (M.get_run s)]

theorem exec_emul_next (hu : s.untraced) (hd : d.toNat % 2 = 0) (h2 : d ≠ 2) :
    ∃ t, exec (.emul a b d) s = .next t ∧ ∃ lo, t.slot d = .val lo ∧ ∃ hi, t.slot (d + 1) = .val hi ∧
      hi.toNat * 2 ^ 32 + lo.toNat = (operandValue a Site.src1 s).toNat * (operandValue b Site.src2 s).toNat ∧
      t.ac = s.ac ∧ t.ip = s.ip + 4 ∧ s.changesOnly t [d, d + 1] := by
  obtain ⟨p, rfl, e⟩ := exec_emul_eq a b d s hd h2
  obtain ⟨t, h, hlo, hhi, rest⟩ := run_setPair d s _ _ hd hu
  exact ⟨t, e.trans h, _, hlo, _, hhi, product_words _ _, rest⟩

/-- `ediv` by a divisor that is not 0 comes to the write of the remainder and the quotient, or of two free values. -/
theorem exec_ediv_eq (hd : d.toNat % 2 = 0) (h2 : d ≠ 2) {n : BitVec 64} (hn : pairValue b s = some n) {m : Word}
    (hm : m = operandValue a Site.src1 s) (h0 : m ≠ 0) : ∃ v w, exec (.ediv a b d) s =
      run 4 (set (s.setGroup d 0 [v, w]) >>= fun _ => pure {}) s ∧ (n.toNat / m.toNat < 2 ^ 32 →
        v = .val (BitVec.ofNat 32 (n.toNat % m.toNat)) ∧ w = .val (BitVec.ofNat 32 (n.toNat / m.toNat))) := by
  subst hm
  unfold exec execEdiv
  by_cases hq : (operandValue a Site.src1 s).toNat ≤ n.toNat / 2 ^ 32
  · have hm0 : (operandValue a Site.src1 s).toNat ≠ 0 := fun h => h0 (BitVec.eq_of_toNat_eq h)
    refine ⟨.free s.free (Site.result 0), .free s.free (Site.result 1), run_congr ?_, fun hf => absurd hf (not_quotient_fits hm0 hq)⟩
    rw [M.bind_ok (M.get_run s), hn, not_misaligned_pair hd]
    simp only [M.bind_ok (checkDst_pair hd s h2), if_neg h0, if_pos hq]
    rfl
  · refine ⟨_, _, run_congr ?_, fun _ => ⟨rfl, rfl⟩⟩
    rw [M.bind_ok (M.get_run s), hn, not_misaligned_pair hd]
    simp only [M.bind_ok (checkDst_pair hd s h2), if_neg h0, if_neg hq]

theorem exec_ediv_next (hu : s.untraced) (hd : d.toNat % 2 = 0) (h2 : d ≠ 2) (n : BitVec 64) (hn : pairValue b s = some n)
    (h0 : operandValue a Site.src1 s ≠ 0) : ∃ t, exec (.ediv a b d) s = .next t ∧
      (n.toNat / (operandValue a Site.src1 s).toNat < 2 ^ 32 →
        t.slot d = .val (BitVec.ofNat 32 (n.toNat % (operandValue a Site.src1 s).toNat)) ∧
        t.slot (d + 1) = .val (BitVec.ofNat 32 (n.toNat / (operandValue a Site.src1 s).toNat))) ∧
      t.ac = s.ac ∧ t.ip = s.ip + 4 ∧ s.changesOnly t [d, d + 1] := by
  obtain ⟨v, w, e, hfits⟩ := exec_ediv_eq a b d s hd h2 hn rfl h0
  obtain ⟨t, h, hv, hw, rest⟩ := run_setPair d s v w hd hu
  exact ⟨t, e.trans h, fun hf => ⟨hv.trans (hfits hf).1, hw.trans (hfits hf).2⟩, rest⟩

/-- `eshro` of a pair to a register but r2 comes to the write of the low word of the shifted pair. -/
theorem exec_eshro_eq (h2 : d ≠ 2) {n : BitVec 64} (hn : pairValue b s = some n) : exec (.eshro a b d) s =
    run 4 (setDst d (BitVec.ofNat 32 (n.toNat / 2 ^ ((operandValue a Site.src1 s).toNat % 32))) >>= fun _ => pure {}) s := by
  unfold exec execEshro
  refine run_congr ?_
  rw [M.bind_ok (M.get_run s), hn]
  simp only [M.bind_ok (checkDst_ok d s h2), shifted_low_word]

theorem exec_eshro_next (hu : s.untraced) (h2 : d ≠ 2) (n : BitVec 64) (hn : pairValue b s = some n) :
    ∃ t, exec (.eshro a b d) s = .next t ∧
      t.slot d = .val (BitVec.ofNat 32 (n.toNat / 2 ^ ((operandValue a Site.src1 s).toNat % 32))) ∧
      t.ac = s.ac ∧ t.ip = s.ip + 4 ∧ s.changesOnly t [d] := by
  have next := fun v : Word => run_after (len := 4) (action := setDst d v >>= fun _ => pure {}) (t := s.setReg d v) (d := {})
    rfl hu (by simpa [State.setReg] using hu.2) rfl rfl rfl
  exact ⟨_, (exec_eshro_eq a b d s h2 hn).trans (next _), State.slot_setSlot_self _ _ _, State.setSlot_ac _ _ _,
    congrArg (· + 4) (State.setSlot_ip _ _ _), State.changesOnly_after (s.changesOnly_setSlot d _) _ _⟩

/-- An action that leaves free values in a group and raises a fault. -/
theorem run_undefined {action : M Done} {count : Nat} {k : FaultKind}
    (h : action s = (setUndefined d count >>= fun _ => (raise k : M Done)) s) :
    run 4 action s = (s.setGroup d 0 (freeSlots s.free count)).raised 4 k := by
  rw [run_raise 4 action s (s.setGroup d 0 (freeSlots s.free count)) k h, State.raised, State.setGroup_ip]

theorem misaligned_odd {d : RegNum} (hd : d.toNat % 2 ≠ 0) : misaligned d 2 = true := bne_iff_ne.mpr hd

theorem exec_emul_invalid (hd : d.toNat % 2 ≠ 0) :
    exec (.emul a b d) s = (s.setGroup d 0 (freeSlots s.free 2)).raised 4 .invalidOperand := by
  unfold exec execEmul
  exact run_undefined d s (by rw [misaligned_odd hd]; rfl)

theorem exec_ediv_invalid (h : d.toNat % 2 ≠ 0 ∨ pairValue b s = none) :
    exec (.ediv a b d) s = (s.setGroup d 0 (freeSlots s.free 2)).raised 4 .invalidOperand := by
  unfold exec execEdiv
  refine run_undefined d s ?_
  rw [M.bind_ok (M.get_run s)]
  cases hp : pairValue b s with
  | none => rfl
  | some n => rw [misaligned_odd (h.resolve_right (by rw [hp]; exact Option.some_ne_none n))]

theorem exec_eshro_invalid (h : pairValue b s = none) :
    exec (.eshro a b d) s = (s.setGroup d 0 (freeSlots s.free 1)).raised 4 .invalidOperand := by
  unfold exec execEshro
  exact run_undefined d s (by rw [M.bind_ok (M.get_run s), h])

end

/-- Settles O6: the results, the operands and the faults of the three instructions. -/
theorem extendedResults : Obligations.ExtendedResults := by
  unfold Obligations.ExtendedResults
  exact ⟨fun a b d s hu hd h2 => ⟨exec_emul_next a b d s hu hd h2, exec_ediv_next a b d s hu hd h2⟩,
    fun a b d s hu h2 => exec_eshro_next a b d s hu h2,
    fun n v s => ⟨pairValue_lit v s, fun hn => pairValue_odd hn s, fun hn => pairValue_even hn s⟩,
    fun a b d s => ⟨exec_emul_invalid a b d s, exec_ediv_invalid a b d s, exec_eshro_invalid a b d s⟩⟩

end Sys2Proof.Machine
end

section
/-! Word loads and stores of memory-mapped registers (20_memory R93 to R96; 10_state R52 to R55). -/

namespace Sys2Proof.Machine

/-! The table of registers. -/

/-- The address of a register is an aligned word of MMR space, of supervisor space from FF008000H, where the table lists
the register (10_state R52, R54, R55). -/
theorem mmrTable_addresses : ∀ p ∈ mmrTable, ∀ a : Word, a = BitVec.ofNat 32 (0xFF000000 + p.1) →
    regionOf a = .mmr ∧ a.extractLsb' 0 2 = 0#2 ∧ a.toNat % 2 ^ 2 = 0 ∧ mmrAt a = some p.2 ∧
      (supervisorSpace a = true ↔ 0x8000 ≤ p.1) := by
  simp only [forall_eq]
  decide

/-! Loads. -/

/-- Only a read of a timer mode register changes anything (60_exceptions R714). -/
theorem State.afterMmrRead_of_ne (s : State) {r : MmrName} (h0 : r ≠ .tmr0) (h1 : r ≠ .tmr1) : s.afterMmrRead r = s := by
  unfold State.afterMmrRead
  split
  · exact absurd rfl h0
  · exact absurd rfl h1
  · rfl

/-- The side effect of a read is to no register and to no memory. -/
theorem State.afterMmrRead_leaves (s : State) (r : MmrName) :
    ∃ t0 t1, s.afterMmrRead r = (s.withTimer0 t0).withTimer1 t1 := by
  unfold State.afterMmrRead
  split
  · exact ⟨{ s.timer0 with tmr := s.timer0.tmr &&& ~~~1 }, s.timer1, rfl⟩
  · exact ⟨s.timer0, { s.timer1 with tmr := s.timer1.tmr &&& ~~~1 }, rfl⟩
  · exact ⟨s.timer0, s.timer1, rfl⟩

/-- The word that a load answers (10_state R53; 20_memory R93, R95). -/
def State.mmrLoaded (s : State) (r : MmrName) : Word :=
  if r.sysctlOnly then Config.freeWord s.free Site.mmr else s.mmr r

theorem mmrLoad_ok {a : Word} {r : MmrName} (s : State) (ha : a.extractLsb' 0 2 = 0#2) (hr : mmrAt a = some r) :
    mmrLoad a s = .ok (s.mmrLoaded r) (s.afterMmrRead r) := by
  simp only [mmrLoad, checkMmrAligned, M.bind_run, ha, hr, ne_eq, not_true_eq_false, if_false, M.pure_run, M.get_run]
  cases hs : r.sysctlOnly with
  | true =>
    have hne : s.afterMmrRead r = s :=
      s.afterMmrRead_of_ne (by rintro rfl; cases hs) (by rintro rfl; cases hs)
    simp [State.mmrLoaded, hs, hne]
  | false => simp [State.mmrLoaded, hs, M.bind_run]

/-- `ld` of a register. -/
theorem exec_ld_mmr {m : MemOperand} {d : RegNum} {s : State} {r : MmrName} (h2 : d ≠ 2) (hu : s.untraced)
    (hm : regionOf (efa m s) = .mmr) (ha : (efa m s).extractLsb' 0 2 = 0#2) (h4 : (efa m s).toNat % 2 ^ 2 = 0)
    (hr : mmrAt (efa m s) = some r) :
    exec (.ld m d) s = .next (((s.afterMmrRead r).setReg d (s.mmrLoaded r)).after (memLength m) false) := by
  obtain ⟨t0, t1, hread⟩ := s.afterMmrRead_leaves r
  have hload : loadWord (efa m s) s = .ok (s.mmrLoaded r) (s.afterMmrRead r) := by
    rw [loadWord, readWord, if_pos hm, mmrLoad_ok s ha hr]
  unfold exec execLd
  refine run_after (d := {}) ?_ hu (by simpa [State.setReg, hread] using hu.2) rfl rfl rfl
  rw [M.bind_ok (checkDst_ok d s h2), M.bind_ok (M.get_run s)]
  rw [M.bind_ok hload, setDst, M.bind_ok (M.modify_run _ _), M.bind_ok (unalignedTrap_ok _ _ _ (.inl h4))]
  rfl

/-! Stores. -/

/-- What a register holds after a store of `v`: a read-only one what it held, a timer mode register with its tc bit clear
(10_state R53; 60_exceptions R714). -/
def State.mmrStored (s : State) (r : MmrName) (v : Word) : Word :=
  if r = .prcb ∨ r = .deviceId then s.mmr r else if r = .tmr0 ∨ r = .tmr1 then v &&& ~~~1 else v

/-- A store changes no other register, but for the pins that IPND shows. -/
theorem State.mmr_setMmr_ne (s : State) (v : Word) {r other : MmrName} (h : other ≠ r) (hi : other ≠ .ipnd) :
    (s.setMmr v r).mmr other = s.mmr other := by
  cases r with
  | pmcon k =>
    cases other with
    | pmcon j => exact Vector.getElem_set_ne k.isLt j.isLt fun e => h (congrArg MmrName.pmcon (Fin.ext e.symm))
    | _ => rfl
  | _ => cases other <;> first | rfl | contradiction

/-- A store changes the register it is to. -/
theorem State.mmr_setMmr_self (s : State) (v : Word) (r : MmrName) : (s.setMmr v r).mmr r =
    if r = .ipnd then s.mmrStored r v ||| s.intr.levelLow.zeroExtend 32 else s.mmrStored r v := by
  cases r with
  | pmcon k => exact Vector.getElem_set_self _
  | _ => rfl

theorem State.mmrWritten_setMmr (s : State) (v : Word) (r : MmrName) :
    s.mmrWritten (s.setMmr v r) r (s.mmrStored r v) := by
  refine ⟨s.mmr_setMmr_self v r, ?_, ?_, fun other h hi => s.mmr_setMmr_ne v h hi⟩
  · cases r <;> rfl
  · cases r <;> rfl

/-- What a store to a register leaves: the general registers, the controls, memory. -/
theorem State.setMmr_leaves (s : State) (v : Word) (r : MmrName) :
    (s.setMmr v r).ip = s.ip ∧ (s.setMmr v r).ac = s.ac ∧ (s.setMmr v r).pc = s.pc ∧ (s.setMmr v r).tc = s.tc ∧
      (s.setMmr v r).trace = s.trace ∧ s.sameRegsBut (s.setMmr v r) [] ∧ s.sameBytes (s.setMmr v r) := by
  have none : s.sameRegsBut s [] := s.changesOnly_refl.1
  cases r <;> exact ⟨rfl, rfl, rfl, rfl, rfl, none, fun _ => rfl⟩

section
variable {m : MemOperand} {s : State} {r : MmrName} (n : RegNum) (hm : regionOf (efa m s) = .mmr)
include hm

/-- `st` to a register whose checks pass. -/
theorem exec_st_mmr (hu : s.untraced) (h4 : (efa m s).toNat % 2 ^ 2 = 0) (hc : checkMmrStore (efa m s) s = .ok r s) :
    exec (.st n m) s = .next ((s.setMmr (s.srcSlot Site.srcDst n).get r).after (memLength m) false) := by
  obtain ⟨-, -, -, -, htrace, -⟩ := s.setMmr_leaves (s.srcSlot Site.srcDst n).get r
  have hstore : storeWord (efa m s) (s.srcSlot Site.srcDst n) s = .ok () (s.setMmr (s.srcSlot Site.srcDst n).get r) := by
    rw [storeWord, if_pos hm, mmrStore, M.bind_ok hc, M.modify_run]
  unfold exec execSt
  refine run_after (d := {}) ?_ hu (by rw [htrace]; exact hu.2) rfl rfl rfl
  rw [M.bind_ok (M.get_run s)]
  rw [M.bind_ok hstore, M.bind_ok (unalignedTrap_ok _ _ _ (.inl h4))]
  rfl

/-- `st` to a register whose checks raise a fault. -/
theorem exec_st_mmr_raised {k : FaultKind} (hc : checkMmrStore (efa m s) s = .error (.raise k) s) :
    exec (.st n m) s = s.raised (memLength m) k := by
  unfold exec execSt
  refine run_raised ?_
  rw [M.bind_ok (M.get_run s)]
  refine M.bind_error ?_
  rw [storeWord, if_pos hm, mmrStore, M.bind_error hc]

end

/-- Settles O25: the table gives the register of the address, the checks of a store whether it is written. -/
theorem mmrWordAccesses : Obligations.MmrWordAccesses := by
  unfold Obligations.MmrWordAccesses
  intro p hp n m s he
  obtain ⟨hm, ha, h4, hr, hspace⟩ := mmrTable_addresses p hp _ he
  have checks := checkMmrStore_eq s ha hr
  refine ⟨fun h2 hu => ⟨_, exec_ld_mmr h2 hu hm ha h4 hr, ?load⟩, fun hpriv hg hu => ?store, fun hus hpriv => ?mismatch,
    fun hsup hg => ?rights⟩
  case load =>
    obtain ⟨t0, t1, hread⟩ := s.afterMmrRead_leaves p.2
    have regs := (s.withTimer0 t0 |>.withTimer1 t1).sameRegsBut_setSlot n (.val (s.mmrLoaded p.2))
    rw [hread]
    refine ⟨fun hs => ?slot, ?ip, ?ac, regs, fun a => ?bytes, fun h0 h1 => ?frame⟩
    case slot => rw [State.after_slot, State.setReg, State.slot_setSlot_self, State.mmrLoaded, hs]; rfl
    case ip => rw [State.after_ip, State.setReg, State.setSlot_ip]; rfl
    case ac => rw [State.after_ac, State.setReg, State.setSlot_ac]; rfl
    case bytes => exact (State.changesOnly_setSlot (s.withTimer0 t0 |>.withTimer1 t1) n _).2.2.2 a
    case frame =>
      rw [← hread, s.afterMmrRead_of_ne h0 h1]
      exact State.changesOnly_after (s.changesOnly_setSlot n _) _ _
  case store =>
    have hpass : checkMmrStore (efa m s) s = .ok p.2 s := by
      rw [checks, if_neg, if_pos hg]
      rintro ⟨hus, hmm⟩
      obtain hsup | ⟨hlow, htimer⟩ := hpriv
      · rw [hus] at hsup; cases hsup
      · rw [hspace, htimer] at hmm
        exact hmm.elim (fun h => absurd hlow (Nat.not_lt.mpr h)) fun h => by cases h
    obtain ⟨hip, hac, hpc, htc, -, hregs, hbytes⟩ := s.setMmr_leaves (s.srcSlot Site.srcDst n).get p.2
    exact ⟨_, exec_st_mmr n hm hu h4 hpass, s.mmrWritten_setMmr _ p.2, congrArg (· + memLength m) hip, hac, hpc, htc, hregs,
      hbytes⟩
  case mismatch =>
    refine exec_st_mmr_raised n hm ?_
    rw [checks, if_pos ⟨hus, hpriv.imp_left hspace.mpr⟩]
  case rights =>
    refine exec_st_mmr_raised n hm ?_
    rw [checks, if_neg (fun h => by rw [hsup] at h; cases h.1), if_neg (by rw [hg]; decide)]

end Sys2Proof.Machine
end

section
/-! Ranges of memory: what holds of the bytes of a range and of the words in it, and what memory holds after a store of
several bytes (20_memory R97 to R101). -/

namespace Sys2Proof.Machine

/-! Addresses. -/

theorem word_add_ofNat (a : Word) (i j : Nat) :
    a + BitVec.ofNat 32 i + BitVec.ofNat 32 j = a + BitVec.ofNat 32 (i + j) := by
  rw [BitVec.ofNat_add, BitVec.add_assoc]

theorem word_add_zero (a : Word) : a + BitVec.ofNat 32 0 = a := BitVec.add_zero a

/-- Different offsets give different addresses. -/
theorem word_add_ofNat_ne {i j : Nat} (a : Word) (hi : i < 2 ^ 32) (hj : j < 2 ^ 32) (h : i ≠ j) :
    a + BitVec.ofNat 32 i ≠ a + BitVec.ofNat 32 j := by
  intro e
  have := congrArg BitVec.toNat ((BitVec.add_right_inj a).1 e)
  rw [BitVec.toNat_ofNat, BitVec.toNat_ofNat, Nat.mod_eq_of_lt hi, Nat.mod_eq_of_lt hj] at this
  exact h this

theorem regionOf_eq_mmr_iff (a : Word) : regionOf a = .mmr ↔ 0xFF000000 ≤ a.toNat := by
  unfold regionOf; grind

theorem regionOf_eq_internalRam_iff (a : Word) : regionOf a = .internalRam ↔ a.toNat < 0x400 := by
  unfold regionOf; grind

/-- What lies between two addresses of one region lies in it. -/
theorem regionOf_between {a b c : Word} (hab : a.toNat ≤ b.toNat) (hbc : b.toNat ≤ c.toNat) (h : regionOf c = regionOf a) :
    regionOf b = regionOf a := by
  unfold regionOf at h ⊢; grind

/-- MMR space ends the address space, so no short range that starts below it wraps around. -/
theorem toNat_add_of_ne_mmr {a : Word} (hm : regionOf a ≠ .mmr) {i : Nat} (hi : i < 0x01000000) :
    (a + BitVec.ofNat 32 i).toNat = a.toNat + i := by
  rw [Ne, regionOf_eq_mmr_iff] at hm
  rw [BitVec.toNat_add, BitVec.toNat_ofNat]
  omega

/-! Parts of a range. -/

/-- Every byte of a range that does not leave its region is of that region. -/
theorem regionOf_range {a : Word} {n i : Nat} (hm : regionOf a ≠ .mmr)
    (hr : regionOf (a + BitVec.ofNat 32 (n - 1)) = regionOf a) (hn : n < 0x01000000) (hi : i < n) :
    regionOf (a + BitVec.ofNat 32 i) = regionOf a := by
  have hlast := toNat_add_of_ne_mmr hm (i := n - 1) (by omega)
  have hbyte := toNat_add_of_ne_mmr hm (i := i) (by omega)
  exact regionOf_between (by omega) (by omega) hr

/-- A part of a range that does not leave its region does not either. -/
theorem regionOf_part {a : Word} {n i k : Nat} (hm : regionOf a ≠ .mmr)
    (hr : regionOf (a + BitVec.ofNat 32 (n - 1)) = regionOf a) (hn : n < 0x01000000) (hk : 0 < k) (hik : i + k ≤ n) :
    regionOf (a + BitVec.ofNat 32 i) ≠ .mmr ∧
      regionOf (a + BitVec.ofNat 32 i + BitVec.ofNat 32 (k - 1)) = regionOf (a + BitVec.ofNat 32 i) := by
  have hi := regionOf_range hm hr hn (i := i) (by omega)
  refine ⟨hi ▸ hm, ?_⟩
  rw [word_add_ofNat, hi, regionOf_range hm hr hn (by omega)]

/-- A part of settled memory is settled. -/
theorem State.settled_part {s : State} {a : Word} {n i k : Nat} (h : s.settled a n) (hn : n < 0x01000000) (hk : 0 < k)
    (hik : i + k ≤ n) : s.settled (a + BitVec.ofNat 32 i) k := by
  obtain ⟨hm, hr⟩ := regionOf_part h.1 h.2.1 hn hk hik
  exact ⟨hm, hr, fun j hj => by rw [word_add_ofNat]; exact h.2.2 (i + j) (by omega)⟩

/-- A part of RAM is RAM. -/
theorem State.writable_part {s : State} {a : Word} {n i k : Nat} (h : s.writable a n) (hn : n < 0x01000000) (hk : 0 < k)
    (hik : i + k ≤ n) : s.writable (a + BitVec.ofNat 32 i) k := by
  obtain ⟨hm, hr⟩ := regionOf_part h.1 h.2.1 hn hk hik
  exact ⟨hm, hr, fun j hj => by rw [word_add_ofNat]; exact h.2.2 (i + j) (by omega)⟩

/-- Every byte of RAM can be written. -/
theorem State.stores_of_writable {s : State} {a : Word} {n i : Nat} (h : s.writable a n) (hn : n < 0x01000000)
    (hi : i < n) : s.stores (a + BitVec.ofNat 32 i) :=
  ⟨regionOf_range h.1 h.2.1 hn hi ▸ h.1, h.2.2 i hi⟩

theorem State.not_absent_of_writable {s : State} {a : Word} {n : Nat} (h : s.writable a n) :
    ∀ i < n, s.kindAt (a + BitVec.ofNat 32 i) ≠ .absent := fun i hi e => by
  rw [h.2.2 i hi] at e; cases e

/-- One protected byte protects the range (20_memory R87). -/
theorem State.protectedIn_iff (s : State) (em : Bool) (a : Word) (n : Nat) :
    s.protectedIn em a n = true ↔ ∃ i < n, s.protectedByte em (a + BitVec.ofNat 32 i) = true := by
  induction n generalizing a with
  | zero => simp [State.protectedIn]
  | succ n ih =>
    have shift : ∀ i, a + 1 + BitVec.ofNat 32 i = a + BitVec.ofNat 32 (i + 1) := fun i => by
      rw [Nat.add_comm]; exact word_add_ofNat a 1 i
    rw [State.protectedIn, Bool.or_eq_true, ih, Nat.exists_lt_succ_left, word_add_zero]
    simp only [shift]

/-! What a store of several bytes leaves and what memory then holds. -/

/-- What a store leaves alone is all that a program can see but memory, AC and IP. -/
theorem State.StoreFrame.keeps {s u : State} (f : s.StoreFrame u) :
    s.sameRegsBut u [] ∧ s.sameSpecial u ∧ s.sameFrames u := by
  refine ⟨⟨fun r _ => ?_, ?_, ?_⟩, ?_, ?_⟩
  · simp only [State.slot, f.locals, f.globals]
  · simp [f.frames]
  · simp [f.frames]
  · simp [State.sameSpecial, f.pc, f.tc, f.tables, f.unalignedMasked, f.config, f.bp, f.intr, f.timer0, f.timer1,
      f.deviceId, f.dataEnabled, f.instrEnabled, f.instrLocked]
  · simp [State.sameFrames, f.frames]

theorem State.StoreFrame.storesOnly {s u : State} {a : Word} {n : Nat} (f : s.StoreFrame u) (h : s.sameBytesBut u a n) :
    s.storesOnly u a n := by
  obtain ⟨regs, special, frames⟩ := f.keeps
  exact ⟨regs, special, frames, h⟩

theorem State.StoreFrame.bigEndian {s u : State} (f : s.StoreFrame u) : u.bigEndian = s.bigEndian := by
  simp [State.bigEndian, f.config]

/-- `u` is `s` after a store of the low `n` bytes of `v` at `a`, in the byte order in force (20_memory R100, R101). -/
structure State.Stored (s u : State) (a : Word) (n : Nat) (v : Slot) : Prop where
  frame : s.StoreFrame u
  bytes : ∀ i < n, u.byteAt (a + BitVec.ofNat 32 i) = (v.byte (if s.bigEndian then n - 1 - i else i)).get
  others : s.sameBytesBut u a n

section
variable {s : State} {a : Word} (v : Slot) (hw : s.mem.wf = true)
include hw

theorem State.stored_poke1 (h : s.writable a 1) : s.Stored (s.poke1 a v) a 1 v := by
  refine ⟨s.poke1_frame a v, fun i hi => ?_, fun b hb => ?_⟩
  · obtain rfl : i = 0 := by omega
    have hs := State.stores_of_writable h (by decide) (i := 0) (by decide)
    rw [word_add_zero] at hs ⊢
    simpa [State.poke1] using s.byteAt_poke8_self a (v.byte 0) hw hs
  · exact s.byteAt_poke8_ne a b _ (by simpa using hb 0 (by decide))

theorem State.stored_poke16 (h : s.writable a 2) : s.Stored (s.poke16 a v) a 2 v := by
  have ne : a ≠ a + 1 := by simp
  refine ⟨s.poke16_frame a v, fun i hi => ?_, fun b hb => ?_⟩
  · have hs := State.stores_of_writable h (by decide) hi
    obtain rfl | rfl : i = 0 ∨ i = 1 := by omega
    · rw [word_add_zero] at hs ⊢
      rw [State.poke16, State.byteAt_poke8_ne _ _ _ _ ne, State.byteAt_poke8_self _ _ _ hw hs]
      rfl
    · rw [State.poke16]
      refine (State.byteAt_poke8_self _ _ _ (s.poke8_wf _ _ hw) (s.stores_poke8 _ _ _ hs)).trans ?_
      rfl
  · exact (State.byteAt_poke8_ne _ _ _ _ (hb 1 (by decide))).trans
      (s.byteAt_poke8_ne _ _ _ (by simpa using hb 0 (by decide)))

theorem State.stored_poke32 (h : s.writable a 4) : s.Stored (s.poke32 a v) a 4 v := by
  have f := s.poke32_frame a v
  refine ⟨f, fun i hi => ?_, fun b hb => ?_⟩
  · rw [← f.bigEndian]
    exact s.holdsWord_poke32 a v hw (fun j hj => State.stores_of_writable h (by decide) hj) i hi
  · exact s.byteAt_poke32_ne a b v (by simpa using hb 0 (by decide)) (hb 1 (by decide)) (hb 2 (by decide))
      (hb 3 (by decide))

end

/-- A state with the same bytes and byte order holds the same words. -/
theorem State.holdsWord_congr {t u : State} {a : Word} {v : Slot} (hb : u.bigEndian = t.bigEndian)
    (h : ∀ i < 4, u.byteAt (a + BitVec.ofNat 32 i) = t.byteAt (a + BitVec.ofNat 32 i)) (ht : t.holdsWord a v) :
    u.holdsWord a v := fun i hi => by rw [h i hi, hb]; exact ht i hi

/-- Each of the words stored at rising addresses is there (20_memory R99, R101). -/
theorem State.holdsWord_pokeWords (s : State) (a : Word) (vs : List Slot) (hw : s.mem.wf = true)
    (hs : ∀ i < 4 * vs.length, s.stores (a + BitVec.ofNat 32 i)) (hn : 4 * vs.length < 2 ^ 32) {i : Nat} {v : Slot}
    (hi : vs[i]? = some v) : (s.pokeWords a vs).holdsWord (a + BitVec.ofNat 32 (4 * i)) v := by
  induction vs generalizing s a i with
  | nil => cases hi
  | cons w rest ih =>
    rw [List.length_cons] at hs hn
    rw [State.pokeWords]
    have frame := (s.poke32 a w).pokeWords_frame (a + 4) rest
    cases i with
    | zero =>
      obtain rfl : w = v := by simpa using hi
      rw [Nat.mul_zero, word_add_zero]
      refine State.holdsWord_congr frame.bigEndian (fun j hj => ?_)
        (s.holdsWord_poke32 a w hw fun j hj => hs j (by omega))
      refine State.byteAt_pokeWords_ne _ _ _ _ fun k hk => ?_
      rw [show a + 4 = a + BitVec.ofNat 32 4 from rfl, word_add_ofNat]
      exact word_add_ofNat_ne a (by omega) (by omega) (by omega)
    | succ i =>
      have := ih (s.poke32 a w) (a + 4) (s.poke32_wf a w hw) (fun j hj => ?_) (by omega) (i := i) (by simpa using hi)
      · rwa [show a + 4 = a + BitVec.ofNat 32 4 from rfl, word_add_ofNat, Nat.add_comm, ← Nat.mul_succ] at this
      · rw [show a + 4 = a + BitVec.ofNat 32 4 from rfl, word_add_ofNat]
        obtain ⟨hm, hk⟩ := hs (4 + j) (by omega)
        exact ⟨hm, (State.kindAt_of_plat (s.poke32_frame a w).plat _).trans hk⟩

end Sys2Proof.Machine
end

section
/-! Register groups as destinations and as sources (40_data_movement R201; 10_state R27). -/

namespace Sys2Proof.Machine

theorem regNum_add_ofNat_ne {i j : Nat} (n : RegNum) (hi : i < 32) (hj : j < 32) (h : i ≠ j) :
    n + BitVec.ofNat 5 i ≠ n + BitVec.ofNat 5 j := by
  intro e
  have := congrArg BitVec.toNat ((BitVec.add_right_inj n).1 e)
  rw [BitVec.toNat_ofNat, BitVec.toNat_ofNat, Nat.mod_eq_of_lt hi, Nat.mod_eq_of_lt hj] at this
  exact h this

/-- The numbers of the group of `count` registers from register `i` of the group at `n` on. -/
def groupRegs (n : RegNum) (i count : Nat) : List RegNum := (List.range' i count).map fun j => n + BitVec.ofNat 5 j

theorem groupReg_of_fits {n : RegNum} {i : Nat} (h : n.toNat % 16 + i < 16) :
    groupReg n i = some (n + BitVec.ofNat 5 i) := if_pos h

theorem State.setGroup_cons (s : State) {n : RegNum} {i : Nat} (v : Slot) (rest : List Slot) (h : n.toNat % 16 + i < 16) :
    s.setGroup n i (v :: rest) = (s.setSlot (n + BitVec.ofNat 5 i) v).setGroup n (i + 1) rest := by
  rw [State.setGroup, groupReg_of_fits h]

/-- A write of a group within its file writes its registers and no other. -/
theorem State.changesOnly_setGroup (s : State) (n : RegNum) (i : Nat) (vs : List Slot)
    (h : n.toNat % 16 + (i + vs.length) ≤ 16) : s.changesOnly (s.setGroup n i vs) (groupRegs n i vs.length) := by
  induction vs generalizing s i with
  | nil => exact s.changesOnly_refl
  | cons v rest ih =>
    rw [List.length_cons] at h
    rw [s.setGroup_cons v rest (by omega)]
    exact (s.changesOnly_setSlot _ v).trans (ih _ (i + 1) (by omega))

/-- A read of a group just written. -/
theorem State.slot_setGroup (s : State) (n : RegNum) (i : Nat) (vs : List Slot) (h : n.toNat % 16 + (i + vs.length) ≤ 16)
    {j : Nat} {v : Slot} (hj : vs[j]? = some v) : (s.setGroup n i vs).slot (n + BitVec.ofNat 5 (i + j)) = v := by
  induction vs generalizing s i j with
  | nil => cases hj
  | cons w rest ih =>
    rw [List.length_cons] at h
    rw [s.setGroup_cons w rest (by omega)]
    cases j with
    | zero =>
      obtain rfl : w = v := by simpa using hj
      obtain ⟨⟨others, -⟩, -⟩ := State.changesOnly_setGroup (s.setSlot (n + BitVec.ofNat 5 i) w) n (i + 1) rest (by omega)
      refine (others _ fun hmem => ?_).trans (State.slot_setSlot_self _ _ _)
      obtain ⟨k, hk, e⟩ := List.mem_map.mp hmem
      rw [List.mem_range'_1] at hk
      exact regNum_add_ofNat_ne n (by omega) (by omega) (by omega) e
    | succ j =>
      have := ih (s.setSlot (n + BitVec.ofNat 5 i) w) (i + 1) (by omega) (j := j) (by simpa using hj)
      rwa [Nat.add_right_comm, Nat.add_assoc] at this

/-- A group that does not name r2 passes. -/
theorem checkDst_group_ok {n : RegNum} {count : Nat} (s : State) (h : ∀ i < count, n + BitVec.ofNat 5 i ≠ 2) :
    checkDst n count s = .ok () s := by
  have hg : groupHasRip n count = false := by
    rw [groupHasRip, decide_eq_false_iff_not]
    rintro ⟨hlow, hhigh⟩
    exact h (2 - n.toNat) (by omega) (by bv_omega)
  simp [checkDst, hg]

/-- All that the check of a destination can answer. -/
theorem checkDst_cases (n : RegNum) (count : Nat) (s : State) :
    checkDst n count s = .ok () s ∨ checkDst n count s = .error (.raise .unimplemented) s := by
  unfold checkDst; split
  · exact .inr rfl
  · exact .inl rfl

/-- The registers of a group as an operand reads them. -/
theorem State.group_getElem? (s : State) (site : Nat) (n : RegNum) (count : Nat) {i : Nat} (hi : i < count) :
    (s.group site n count)[i]? = some (s.srcSlot (site + i) (n + BitVec.ofNat 5 i)) := by
  induction count generalizing site n i with
  | zero => omega
  | succ count ih =>
    cases i with
    | zero => exact congrArg (fun r => some (s.srcSlot site r)) (BitVec.add_zero n).symm
    | succ i =>
      have := ih (site + 1) (n + 1) (i := i) (by omega)
      rw [BitVec.add_assoc, show (1 : RegNum) + BitVec.ofNat 5 i = BitVec.ofNat 5 (i + 1) by
        rw [Nat.add_comm, BitVec.ofNat_add]; rfl, Nat.add_right_comm] at this
      exact this

theorem State.length_group (s : State) (site : Nat) (n : RegNum) (count : Nat) :
    (s.group site n count).length = count := by
  induction count generalizing site n with
  | zero => rfl
  | succ count ih => exact congrArg (· + 1) (ih _ _)

/-- A register that is not r2 is read as it is. -/
theorem State.srcSlot_of_ne (s : State) (site : Nat) {n : RegNum} (h : n ≠ 2) : s.srcSlot site n = s.slot n := if_neg h

end Sys2Proof.Machine
end

section
/-! Loads and stores of memory: the state that each instruction leaves, its alignment check then coming last
(20_memory R104; 40_data_movement R201 to R203). -/

namespace Sys2Proof.Machine

/-- The outcome of an access of an instruction of `len` bytes that was made in full at `a`, leading from `s` to `u`: what
remains is the alignment check (20_memory R104). -/
def State.accessed (s u : State) (len a : Word) (bits : Nat) : Host.Outcome State Fault Refusal :=
  run len (set u >>= fun _ => unalignedTrap a bits >>= fun _ => pure {}) s

theorem State.accessed_next {s u : State} {a : Word} {bits : Nat} (len : Word) (hu : s.untraced) (ht : u.trace = s.trace)
    (h : u.alignedFor a bits) : s.accessed u len a bits = .next (u.after len false) := by
  refine run_after (d := {}) ?_ hu (by rw [ht]; exact hu.2) rfl rfl rfl
  rw [M.bind_ok (M.set_run u s), M.bind_ok (unalignedTrap_ok a bits u h)]
  rfl

theorem State.accessed_raised {s u : State} {a : Word} {bits : Nat} (len : Word) (hip : u.ip = s.ip)
    (h : a.toNat % 2 ^ bits ≠ 0) (hm : u.unalignedMasked = false) :
    s.accessed u len a bits = u.raised len .unaligned := by
  rw [State.raised, hip]
  refine run_raise len _ s u .unaligned ?_
  rw [M.bind_ok (M.set_run u s), M.bind_error (unalignedTrap_raises a bits u h hm)]

/-- An action that makes an access and then checks its alignment. -/
theorem run_accessed {len a : Word} {bits : Nat} {s u : State} {action : M Done}
    (h : action s = (unalignedTrap a bits >>= fun _ => (pure {} : M Done)) u) :
    run len action s = s.accessed u len a bits := by
  refine run_congr (h.trans ?_)
  rw [M.bind_ok (M.set_run u s)]

/-! Loads. -/

/-- The words of settled memory from `a` upwards. -/
def State.wordsAt (s : State) (a : Word) (count : Nat) : List Slot :=
  (List.range count).map fun i => .val (s.wordAt (a + BitVec.ofNat 32 (4 * i)))

theorem State.length_wordsAt (s : State) (a : Word) (count : Nat) : (s.wordsAt a count).length = count := by
  simp [State.wordsAt]

theorem State.wordsAt_getElem? (s : State) (a : Word) {count i : Nat} (hi : i < count) :
    (s.wordsAt a count)[i]? = some (.val (s.wordAt (a + BitVec.ofNat 32 (4 * i)))) := by
  simp [State.wordsAt, hi]

theorem State.peekWords_settled {s : State} {a : Word} {count : Nat} (h : s.wordsSettled a count) :
    s.peekWords a count = s.wordsAt a count := by
  induction count generalizing a with
  | zero => rfl
  | succ count ih =>
    have shift : ∀ i, a + 4 + BitVec.ofNat 32 (4 * i) = a + BitVec.ofNat 32 (4 * (i + 1)) := fun i => by
      rw [Nat.mul_succ, Nat.add_comm]; exact word_add_ofNat a 4 (4 * i)
    have h0 : s.settled a 4 := by simpa using h 0 (by omega)
    rw [State.peekWords, s.peek32_settled true a h0, ih fun i hi => shift i ▸ h (i + 1) (by omega)]
    simp [State.wordsAt, List.range_succ_eq_map, ← shift]

/-- Settled memory is settled word by word. -/
theorem State.wordsSettled_of_settled {s : State} {a : Word} {count : Nat} (h : s.settled a (4 * count))
    (hn : 4 * count < 0x01000000) : s.wordsSettled a count := fun i hi =>
  State.settled_part h hn (by decide) (by omega)

theorem checkLoad_settled {s : State} {a : Word} {n : Nat} (h : s.settled a n) : checkLoad a n s = .ok () s :=
  checkLoad_ok a n s h.1 h.2.1 fun i hi => (h.2.2 i hi).1

section
variable {m : MemOperand} {d : RegNum} {s : State}

theorem run_loadItem {n bits : Nat} {read : State → Word → Word} (h2 : d ≠ 2) (h : s.settled (efa m s) n) :
    run (memLength m) (loadItem n bits read m d) s =
      s.accessed (s.setReg d (read s (efa m s))) (memLength m) (efa m s) bits := by
  refine run_accessed ?_
  rw [loadItem, M.bind_ok (checkDst_ok d s h2), M.bind_ok (M.get_run s)]
  rw [M.bind_ok (checkLoad_settled h), setDst, M.bind_ok (M.modify_run _ _)]

theorem run_loadGroup {count alignment bits : Nat} (hd : misaligned d alignment = false)
    (h2 : ∀ i < count, d + BitVec.ofNat 5 i ≠ 2) (h : s.settled (efa m s) (4 * count)) (hn : 4 * count < 0x01000000) :
    run (memLength m) (loadGroup count alignment bits m d) s =
      s.accessed (s.setGroup d 0 (s.wordsAt (efa m s) count)) (memLength m) (efa m s) bits := by
  refine run_accessed ?_
  rw [loadGroup, hd, ← State.peekWords_settled (State.wordsSettled_of_settled h hn)]
  refine (M.bind_ok (checkDst_group_ok s h2)).trans ?_
  rw [M.bind_ok (M.get_run s), M.bind_ok (checkLoad_settled h), M.bind_ok (M.set_run _ _)]

/-- What each load of one item comes to (40_data_movement R205 to R209). -/
theorem exec_loadItem_settled : ∀ p ∈ ([(1, 0, Instr.ldob, fun s a => (s.byteAt a).zeroExtend 32),
      (2, 1, Instr.ldos, fun s a => (s.halfAt a).zeroExtend 32), (1, 0, Instr.ldib, fun s a => (s.byteAt a).signExtend 32),
      (2, 1, Instr.ldis, fun s a => (s.halfAt a).signExtend 32), (4, 2, Instr.ld, fun s a => s.wordAt a)] :
      List (Nat × Nat × (MemOperand → RegNum → Instr) × (State → Word → Word))),
    d ≠ 2 → s.settled (efa m s) p.1 → exec (p.2.2.1 m d) s =
      s.accessed (s.setReg d (p.2.2.2 s (efa m s))) (memLength m) (efa m s) p.2.1 := by
  have byte : s.settled (efa m s) 1 → s.peek8 true (efa m s) = s.byteAt (efa m s) := fun h => by
    have h0 := h.2.2 0 (by decide)
    rw [word_add_zero] at h0
    exact s.peek8_settled true _ h0.2.1 h0.2.2
  have half : s.settled (efa m s) 2 → s.peek16 true (efa m s) = s.halfAt (efa m s) := s.peek16_settled true _
  simp only [List.forall_mem_cons, List.not_mem_nil, false_imp_iff, implies_true, and_true]
  refine ⟨fun h2 h => ?_, fun h2 h => ?_, fun h2 h => ?_, fun h2 h => ?_, fun h2 h => ?_⟩
  · rw [← byte h]; exact run_loadItem h2 h
  · rw [← half h]; exact run_loadItem h2 h
  · rw [← byte h]; exact run_loadItem h2 h
  · rw [← half h]; exact run_loadItem h2 h
  · refine run_accessed ?_
    rw [M.bind_ok (checkDst_ok d s h2), M.bind_ok (M.get_run s)]
    rw [M.bind_ok (loadWord_ok _ s h), setDst, M.bind_ok (M.modify_run _ _)]

/-- What each load of a group comes to (40_data_movement R210 to R212). -/
theorem exec_loadGroup_settled : ∀ p ∈ ([(2, 2, 3, Instr.ldl), (3, 4, 4, Instr.ldt), (4, 4, 4, Instr.ldq)] :
      List (Nat × Nat × Nat × (MemOperand → RegNum → Instr))),
    d.toNat % p.2.1 = 0 → (∀ i < p.1, d + BitVec.ofNat 5 i ≠ 2) → s.settled (efa m s) (4 * p.1) →
    d.toNat % 16 + p.1 ≤ 16 ∧ exec (p.2.2.2 m d) s =
      s.accessed (s.setGroup d 0 (s.wordsAt (efa m s) p.1)) (memLength m) (efa m s) p.2.2.1 := by
  simp only [List.forall_mem_cons, List.not_mem_nil, false_imp_iff, implies_true, and_true]
  have aligned : ∀ {n : Nat}, d.toNat % n = 0 → misaligned d n = false := fun hd => by simp [misaligned, hd]
  exact ⟨fun hd h2 h => ⟨by omega, run_loadGroup (aligned hd) h2 h (by decide)⟩,
    fun hd h2 h => ⟨by omega, run_loadGroup (aligned hd) h2 h (by decide)⟩,
    fun hd h2 h => ⟨by omega, run_loadGroup (aligned hd) h2 h (by decide)⟩⟩

end

/-- What a load that completes leaves (40_data_movement R203). -/
theorem State.loaded_next {s u : State} {ds : List RegNum} (len : Word) {a : Word} {bits : Nat} (hu : s.untraced)
    (h : s.alignedFor a bits) (hds : s.changesOnly u ds) (hip : u.ip = s.ip) (hac : u.ac = s.ac) (ht : u.trace = s.trace) :
    s.accessed u len a bits = .next (u.after len false) ∧ (u.after len false).ac = s.ac ∧
      (u.after len false).ip = s.ip + len ∧ s.changesOnly (u.after len false) ds := by
  obtain ⟨-, ⟨-, -, -, hmasked, -⟩, -, -⟩ := id hds
  refine ⟨State.accessed_next len hu ht ?_, hac, congrArg (· + len) hip, State.changesOnly_after hds len false⟩
  rwa [State.alignedFor, hmasked]

/-- Settles O19: each load comes to the write of its destination, whose alignment check then passes. -/
theorem loadResults : Obligations.LoadResults := by
  unfold Obligations.LoadResults
  refine ⟨fun p hp m d s hu h2 hs ha => ?item, fun p hp m d s hu hd h2 hs ha => ?group⟩
  case item =>
    rw [exec_loadItem_settled p hp h2 hs]
    obtain ⟨e, hac, hip, hds⟩ := State.loaded_next (memLength m) hu ha
      (s.changesOnly_setSlot d (.val (p.2.2.2 s (efa m s)))) (s.setSlot_ip _ _) (s.setSlot_ac _ _) (s.setSlot_trace _ _)
    exact ⟨_, e, s.slot_setSlot_self d _, hac, hip, hds⟩
  case group =>
    obtain ⟨fits, e⟩ := exec_loadGroup_settled p hp hd h2 hs
    have fits' : d.toNat % 16 + (0 + (s.wordsAt (efa m s) p.1).length) ≤ 16 := by
      rw [s.length_wordsAt, Nat.zero_add]; exact fits
    have regs := s.changesOnly_setGroup d 0 _ fits'
    rw [s.length_wordsAt, groupRegs, ← List.range_eq_range'] at regs
    obtain ⟨e', hac, hip, hds⟩ := State.loaded_next (memLength m) hu ha regs (s.setGroup_ip _ _ _) (s.setGroup_ac _ _ _)
      (s.setGroup_trace _ _ _)
    refine ⟨_, e.trans e', fun i hi => ?_, hac, hip, hds⟩
    have := s.slot_setGroup d 0 _ fits' (s.wordsAt_getElem? (efa m s) hi)
    rwa [Nat.zero_add] at this

/-! Stores. -/

section
variable {m : MemOperand} {r : RegNum} {s : State}

theorem storeItem_ok {n : Nat} (write : State → Word → Slot → State) (hw : s.writable (efa m s) n)
    (hp : s.protectedIn s.supervisor (efa m s) n = false) :
    storeItem n write r m s = .ok (efa m s) (write s (efa m s) (s.srcSlot Site.srcDst r)) := by
  rw [storeItem, M.bind_ok (M.get_run s)]
  rw [M.bind_ok (checkProtected_ok _ n s hw.1 hp), M.bind_ok (checkRange_ok _ n s hw.2.1 (State.not_absent_of_writable hw)),
    M.bind_ok (M.set_run _ _)]
  rfl

/-- What each store of one item comes to (40_data_movement R221, R223, R224). -/
theorem exec_storeItem_writable : ∀ p ∈ ([(1, 0, Instr.stob, State.poke1), (2, 1, Instr.stos, State.poke16),
      (4, 2, Instr.st, State.poke32)] : List (Nat × Nat × (RegNum → MemOperand → Instr) × (State → Word → Slot → State))),
    s.mem.wf = true → s.writable (efa m s) p.1 → s.protectedIn s.supervisor (efa m s) p.1 = false →
    s.Stored (p.2.2.2 s (efa m s) (s.srcSlot Site.srcDst r)) (efa m s) p.1 (s.srcSlot Site.srcDst r) ∧
    exec (p.2.2.1 r m) s =
      s.accessed (p.2.2.2 s (efa m s) (s.srcSlot Site.srcDst r)) (memLength m) (efa m s) p.2.1 := by
  simp only [List.forall_mem_cons, List.not_mem_nil, false_imp_iff, implies_true, and_true]
  refine ⟨fun hm hw hp => ⟨State.stored_poke1 _ hm hw, run_accessed ?_⟩,
    fun hm hw hp => ⟨State.stored_poke16 _ hm hw, run_accessed ?_⟩,
    fun hm hw hp => ⟨State.stored_poke32 _ hm hw, run_accessed ?_⟩⟩
  · have any : (efa m s).toNat % 2 ^ 0 = 0 := Nat.mod_one _
    rw [M.bind_ok (storeItem_ok State.poke1 hw hp), M.bind_ok (unalignedTrap_ok _ 0 _ (.inl any))]
  · rw [M.bind_ok (storeItem_ok State.poke16 hw hp)]
  · rw [M.bind_ok (M.get_run s)]
    rw [M.bind_ok (storeWord_ok _ _ s hw hp)]

/-- An unaligned `stis` stores its half word before its alignment check raises, which its overflow test comes after
(40_data_movement R226). -/
theorem exec_stis_unaligned (hw : s.writable (efa m s) 2) (hp : s.protectedIn s.supervisor (efa m s) 2 = false)
    (ha : (efa m s).toNat % 2 ^ 1 ≠ 0) (hm : s.unalignedMasked = false) : exec (.stis r m) s =
      (s.poke16 (efa m s) (s.srcSlot Site.srcDst r)).raised (memLength m) .unaligned := by
  have frame := s.poke16_frame (efa m s) (s.srcSlot Site.srcDst r)
  rw [State.raised, frame.ip]
  refine run_raise _ _ s _ .unaligned ?_
  rw [M.bind_ok (M.get_run s), M.bind_ok (storeItem_ok State.poke16 hw hp)]
  exact M.bind_error (unalignedTrap_raises _ 1 _ ha (frame.unalignedMasked.trans hm))

theorem run_storeGroup {count alignment bits : Nat} (hr : misaligned r alignment = false)
    (hw : s.writable (efa m s) (4 * count)) (hp : s.protectedIn s.supervisor (efa m s) (4 * count) = false) :
    run (memLength m) (storeGroup count alignment bits r m) s =
      s.accessed (s.pokeWords (efa m s) (s.group (Site.result 8) r count)) (memLength m) (efa m s) bits := by
  refine run_accessed ?_
  rw [storeGroup, hr, M.bind_ok (M.get_run s)]
  rw [M.bind_ok (checkProtected_ok _ _ s hw.1 hp)]
  refine (M.bind_ok (checkRange_ok _ _ s hw.2.1 (State.not_absent_of_writable hw))).trans ?_
  rw [M.bind_ok (M.set_run _ _)]

/-- What each store of a group comes to (40_data_movement R227 to R229). -/
theorem exec_storeGroup_writable : ∀ p ∈ ([(2, 2, 3, Instr.stl), (3, 4, 4, Instr.stt), (4, 4, 4, Instr.stq)] :
      List (Nat × Nat × Nat × (RegNum → MemOperand → Instr))),
    r.toNat % p.2.1 = 0 → s.writable (efa m s) (4 * p.1) → s.protectedIn s.supervisor (efa m s) (4 * p.1) = false →
    p.1 ≤ 4 ∧ exec (p.2.2.2 r m) s = s.accessed (s.pokeWords (efa m s) (s.group (Site.result 8) r p.1)) (memLength m)
      (efa m s) p.2.2.1 := by
  simp only [List.forall_mem_cons, List.not_mem_nil, false_imp_iff, implies_true, and_true]
  have aligned : ∀ {n : Nat}, r.toNat % n = 0 → misaligned r n = false := fun hr => by simp [misaligned, hr]
  exact ⟨fun hr hw hp => ⟨by decide, run_storeGroup (aligned hr) hw hp⟩,
    fun hr hw hp => ⟨by decide, run_storeGroup (aligned hr) hw hp⟩,
    fun hr hw hp => ⟨by decide, run_storeGroup (aligned hr) hw hp⟩⟩

/-- What a store of a group leaves, and the words that memory then holds (40_data_movement R201). -/
theorem State.stored_group {a : Word} {count : Nat} (site : Nat) (hm : s.mem.wf = true) (hw : s.writable a (4 * count))
    (hn : count ≤ 4) : s.StoreFrame (s.pokeWords a (s.group site r count)) ∧
      (∀ i < count, r + BitVec.ofNat 5 i ≠ 2 → (s.pokeWords a (s.group site r count)).holdsWord
        (a + BitVec.ofNat 32 (4 * i)) (s.slot (r + BitVec.ofNat 5 i))) ∧
      s.storesOnly (s.pokeWords a (s.group site r count)) a (4 * count) := by
  have frame := s.pokeWords_frame a (s.group site r count)
  have len := s.length_group site r count
  refine ⟨frame, fun i hi h2 => ?_, frame.storesOnly fun b hb => s.byteAt_pokeWords_ne a b _ (len.symm ▸ hb)⟩
  refine s.holdsWord_pokeWords a _ hm (fun j hj => State.stores_of_writable hw (by omega) (len ▸ hj)) (by omega) ?_
  rw [s.group_getElem? site r count hi, s.srcSlot_of_ne _ h2]

end

/-- What a store that completes leaves (40_data_movement R203). -/
theorem State.StoreFrame.accessed_next {s u : State} {a : Word} {bits : Nat} (f : s.StoreFrame u) (len : Word)
    (hu : s.untraced) (h : s.alignedFor a bits) : s.accessed u len a bits = .next (u.after len false) ∧
      (u.after len false).ac = s.ac ∧ (u.after len false).ip = s.ip + len :=
  ⟨State.accessed_next len hu f.trace (by rwa [State.alignedFor, f.unalignedMasked]), f.ac, congrArg (· + len) f.ip⟩

theorem State.Stored.completes {s u : State} {a : Word} {n bits : Nat} {v : Slot} (h : s.Stored u a n v) (len : Word)
    (hu : s.untraced) (ha : s.alignedFor a bits) : ∃ t, s.accessed u len a bits = .next t ∧
      (∀ i < n, t.byteAt (a + BitVec.ofNat 32 i) = (v.byte (if s.bigEndian then n - 1 - i else i)).get) ∧
      t.ac = s.ac ∧ t.ip = s.ip + len ∧ s.storesOnly t a n := by
  obtain ⟨e, hac, hip⟩ := h.frame.accessed_next len hu ha
  exact ⟨_, e, h.bytes, hac, hip, h.frame.storesOnly h.others⟩

/-- Settles O20: each store comes to the write of its bytes, whose alignment check then passes. -/
theorem storeResults : Obligations.StoreResults := by
  unfold Obligations.StoreResults
  refine ⟨fun p hp r m s hu hm hw hprot ha => ?item, fun p hp r m s hu hr hm hw hprot ha => ?group⟩
  case item =>
    obtain ⟨write, hp⟩ : ∃ write, (p.1, p.2.1, p.2.2, write) ∈ [(1, 0, Instr.stob, State.poke1),
        (2, 1, Instr.stos, State.poke16), (4, 2, Instr.st, State.poke32)] := by
      simp only [List.mem_cons, List.not_mem_nil, or_false] at hp
      rcases hp with rfl | rfl | rfl
      exacts [⟨_, .head _⟩, ⟨_, .tail _ (.head _)⟩, ⟨_, .tail _ (.tail _ (.head _))⟩]
    obtain ⟨stored, e⟩ := exec_storeItem_writable (r := r) _ hp hm hw hprot
    rw [e]
    exact stored.completes _ hu ha
  case group =>
    obtain ⟨hn, e⟩ := exec_storeGroup_writable p hp hr hw hprot
    obtain ⟨frame, words, only⟩ := State.stored_group (r := r) (Site.result 8) hm hw hn
    obtain ⟨e', hac, hip⟩ := frame.accessed_next (memLength m) hu ha
    exact ⟨_, e.trans e', words, hac, hip, only⟩

/-! Unaligned accesses. -/

/-- Settles O22: the access leaves what `loadResults` and `storeResults` say, and its alignment check raises. -/
theorem unalignedAccessFaults : Obligations.UnalignedAccessFaults := by
  unfold Obligations.UnalignedAccessFaults
  refine ⟨fun p hp m d s h2 hs ha hm => ?loads, fun p hp r m s hwf hw hprot ha hm => ?stores,
    fun p hp m d s hd h2 hs ha hm => ?loadGroups,
    fun p hp r m s hr hwf hw hprot ha hm u hu => ?storeGroups⟩
  case loads =>
    rw [exec_loadItem_settled p (by simp only [List.mem_cons] at hp ⊢; tauto) h2 hs]
    exact State.accessed_raised _ (s.setSlot_ip _ _) ha ((s.setSlot_unalignedMasked _ _).trans hm)
  case loadGroups =>
    obtain ⟨fits, e⟩ := exec_loadGroup_settled p hp hd h2 hs
    obtain ⟨-, ⟨-, -, -, hmasked, -⟩, -, -⟩ := s.changesOnly_setGroup d 0 (s.wordsAt (efa m s) p.1)
      (by rw [s.length_wordsAt, Nat.zero_add]; exact fits)
    exact e.trans (State.accessed_raised _ (s.setGroup_ip _ _ _) ha (hmasked.trans hm))
  case storeGroups =>
    subst hu
    obtain ⟨hn, e⟩ := exec_storeGroup_writable p hp hr hw hprot
    obtain ⟨frame, words, only⟩ := State.stored_group (r := r) (Site.result 8) hwf hw hn
    exact ⟨words, only, e.trans (State.accessed_raised _ frame.ip ha (frame.unalignedMasked.trans hm))⟩
  case stores =>
    obtain rfl | hp : p = (2, 1, .stis, State.poke16) ∨ p ∈ [(1, 0, Instr.stob, State.poke1),
        (2, 1, Instr.stos, State.poke16), (4, 2, Instr.st, State.poke32)] := by
      simp only [List.mem_cons] at hp ⊢; tauto
    · have stored := State.stored_poke16 (s.srcSlot Site.srcDst r) hwf hw
      exact ⟨stored.bytes, stored.frame.storesOnly stored.others, exec_stis_unaligned hw hprot ha hm⟩
    · obtain ⟨stored, e⟩ := exec_storeItem_writable (r := r) p hp hwf hw hprot
      exact ⟨stored.bytes, stored.frame.storesOnly stored.others,
        e.trans (State.accessed_raised _ stored.frame.ip ha (stored.frame.unalignedMasked.trans hm))⟩

end Sys2Proof.Machine
end

section
/-! Accesses that fault before they are made: stores to write-protected internal RAM (20_memory R87, R108), and MMR space,
which takes aligned words alone (20_memory R93). -/

namespace Sys2Proof.Machine

/-! Protection. -/

/-- A byte of internal RAM is protected by its place, the mode and BCON (20_memory R87, R108). -/
theorem State.protectedByte_iff (s : State) {a : Word} (h : a.toNat < 0x400) : s.protectedByte s.supervisor a = true ↔
    (s.supervisor = false ∧ (a.toNat < 0x40 ∨ s.config.bcon.getLsbD 1 = true)) ∨
      (s.supervisor = true ∧ a.toNat < 0x40 ∧ s.config.bcon.getLsbD 2 = true) := by
  have hram := (regionOf_eq_internalRam_iff a).mpr h
  by_cases hlow : a.toNat < 0x40 <;> cases s.supervisor <;> simp [State.protectedByte, hram, hlow]

/-- Which stores to internal RAM are protected (20_memory R87, R108). -/
theorem State.protectedIn_internalRam_iff (s : State) {a : Word} {n : Nat} (h : a.toNat + n ≤ 0x400) :
    s.protectedIn s.supervisor a n = true ↔ ∃ i < n,
      (s.supervisor = false ∧ (a.toNat + i < 0x40 ∨ s.config.bcon.getLsbD 1 = true)) ∨
        (s.supervisor = true ∧ a.toNat + i < 0x40 ∧ s.config.bcon.getLsbD 2 = true) := by
  rw [s.protectedIn_iff]
  refine exists_congr fun i => and_congr_right fun hi => ?_
  have hto : (a + BitVec.ofNat 32 i).toNat = a.toNat + i := by
    rw [BitVec.toNat_add, BitVec.toNat_ofNat]; omega
  rw [← hto]
  exact s.protectedByte_iff (by omega)

/-! Stores and loads whose checks raise a fault. -/

section
variable {m : MemOperand} {r : RegNum} {s : State} {k : FaultKind}

theorem storeItem_raises {n : Nat} (write : State → Word → Slot → State)
    (h : checkProtected (efa m s) n s = .error (.raise k) s) : storeItem n write r m s = .error (.raise k) s := by
  rw [storeItem, M.bind_ok (M.get_run s)]
  exact M.bind_error h

theorem storeGroup_raises {count alignment bits : Nat} (h : checkProtected (efa m s) (4 * count) s = .error (.raise k) s) :
    storeGroup count alignment bits r m s = .error (.raise k) s := by
  rw [storeGroup, M.bind_ok (M.get_run s)]
  exact M.bind_error h

/-- A store whose first check raises a fault does nothing else (40_data_movement R202). -/
theorem exec_store_raises : ∀ p ∈ ([(1, Instr.stob r m), (1, .stib r m), (2, .stos r m), (2, .stis r m), (8, .stl r m),
    (12, .stt r m), (16, .stq r m)] : List (Nat × Instr)), checkProtected (efa m s) p.1 s = .error (.raise k) s →
      exec p.2 s = s.raised (memLength m) k := by
  simp only [List.forall_mem_cons, List.not_mem_nil, false_imp_iff, implies_true, and_true]
  refine ⟨fun h => run_raised ?_, fun h => run_raised ?_, fun h => run_raised ?_, fun h => run_raised ?_,
    fun h => run_raised (storeGroup_raises h), fun h => run_raised (storeGroup_raises h),
    fun h => run_raised (storeGroup_raises h)⟩
  · exact M.bind_error (storeItem_raises State.poke1 h)
  · rw [M.bind_ok (M.get_run s)]; exact M.bind_error (storeItem_raises State.poke1 h)
  · exact M.bind_error (storeItem_raises State.poke16 h)
  · rw [M.bind_ok (M.get_run s)]; exact M.bind_error (storeItem_raises State.poke16 h)

/-- `st` whose store raises a fault. -/
theorem exec_st_raises (h : storeWord (efa m s) (s.srcSlot Site.srcDst r) s = .error (.raise k) s) :
    exec (.st r m) s = s.raised (memLength m) k := by
  refine run_raised ?_
  rw [M.bind_ok (M.get_run s)]
  exact M.bind_error h

/-- A load that is not of one word raises OPERATION.UNIMPLEMENTED in MMR space, as the check of its destination would. -/
theorem loadItem_mmr {n bits : Nat} {read : State → Word → Word} (h : regionOf (efa m s) = .mmr) :
    loadItem n bits read m r s = .error (.raise .unimplemented) s := by
  have hload : checkLoad (efa m s) n s = .error (.raise .unimplemented) s := by rw [checkLoad, if_pos h]; rfl
  obtain hd | hd := checkDst_cases r 1 s
  · rw [loadItem, M.bind_ok hd, M.bind_ok (M.get_run s)]
    exact M.bind_error hload
  · exact M.bind_error hd

theorem loadGroup_mmr {count alignment bits : Nat} (hr : r.toNat % alignment = 0) (h : regionOf (efa m s) = .mmr) :
    loadGroup count alignment bits m r s = .error (.raise .unimplemented) s := by
  have hload : checkLoad (efa m s) (4 * count) s = .error (.raise .unimplemented) s := by rw [checkLoad, if_pos h]; rfl
  have hm : misaligned r alignment = false := by simp [misaligned, hr]
  rw [loadGroup, hm]
  obtain hd | hd := checkDst_cases r count s
  · refine (M.bind_ok hd).trans ?_
    rw [M.bind_ok (M.get_run s)]
    exact M.bind_error hload
  · exact M.bind_error hd

end

/-! MMR space. -/

theorem extractLsb'_two_eq_zero_iff (a : Word) : a.extractLsb' 0 2 = 0#2 ↔ a.toNat % 4 = 0 := by
  rw [← BitVec.toNat_inj]
  simp [BitVec.extractLsb'_toNat]

/-- An access to MMR space that is not aligned raises OPERATION.UNIMPLEMENTED (20_memory R93). -/
theorem checkMmrAligned_raises {a : Word} (s : State) (h : a.extractLsb' 0 2 ≠ 0#2) :
    checkMmrAligned a s = .error (.raise .unimplemented) s := by
  rw [checkMmrAligned, if_pos h]; rfl

section
variable {m : MemOperand} {s : State} (r : RegNum) (hm : regionOf (efa m s) = .mmr) (ha : (efa m s).extractLsb' 0 2 ≠ 0#2)
include hm ha

theorem exec_ld_mmr_unaligned : exec (.ld m r) s = s.raised (memLength m) .unimplemented := by
  have hload : loadWord (efa m s) s = .error (.raise .unimplemented) s := by
    rw [loadWord, readWord, if_pos hm]; exact M.bind_error (checkMmrAligned_raises s ha)
  refine run_raised ?_
  obtain hd | hd := checkDst_cases r 1 s
  · rw [M.bind_ok hd, M.bind_ok (M.get_run s)]
    exact M.bind_error hload
  · exact M.bind_error hd

theorem exec_st_mmr_unaligned : exec (.st r m) s = s.raised (memLength m) .unimplemented :=
  exec_st_mmr_raised r hm (M.bind_error (checkMmrAligned_raises s ha))

end

/-- Settles O23: the first check of each access raises the fault. -/
theorem accessFaults : Obligations.AccessFaults := by
  unfold Obligations.AccessFaults
  refine ⟨fun r m s p hp hend => ⟨s.protectedIn_internalRam_iff hend, fun hprot => ?mismatch⟩, fun r m s hmmr => ?mmr⟩
  case mismatch =>
    have hram : regionOf (efa m s) ≠ .mmr := by rw [Ne, regionOf_eq_mmr_iff]; omega
    obtain rfl | hp : p = (4, .st r m) ∨ p ∈ [(1, Instr.stob r m), (1, .stib r m), (2, .stos r m), (2, .stis r m),
        (8, .stl r m), (12, .stt r m), (16, .stq r m)] := by
      simp only [List.mem_cons] at hp ⊢; tauto
    · exact exec_st_raises (storeWord_raises _ _ s hram hprot)
    · exact exec_store_raises p hp (checkProtected_raises _ p.1 s hram hprot)
  case mmr =>
    have hm := (regionOf_eq_mmr_iff _).mpr hmmr
    have stores := exec_store_raises (r := r) (m := m) (s := s) (k := .unimplemented)
    have hprot : ∀ n, checkProtected (efa m s) n s = .error (.raise .unimplemented) s := fun n => by
      rw [checkProtected, if_pos hm]; rfl
    simp only [List.forall_mem_cons, List.not_mem_nil, false_imp_iff, implies_true, and_true, hprot,
      true_imp_iff] at stores ⊢
    obtain ⟨stob, stib, stos, stis, stl, stt, stq⟩ := stores
    refine ⟨⟨run_raised (loadItem_mmr hm), run_raised (loadItem_mmr hm), run_raised (loadItem_mmr hm),
      run_raised (loadItem_mmr hm), stob, stos, stib, stis, stl, stt, stq⟩, fun hr => run_raised (loadGroup_mmr hr hm),
      fun hr => ⟨run_raised (loadGroup_mmr hr hm), run_raised (loadGroup_mmr hr hm)⟩, fun ha => ?_⟩
    rw [Ne, ← extractLsb'_two_eq_zero_iff] at ha
    exact ⟨exec_ld_mmr_unaligned r hm ha, exec_st_mmr_unaligned r hm ha⟩

end Sys2Proof.Machine
end

section
/-! The parts of `sysctl` (48_processor_management R606 to R609, R612 to R614). -/

namespace Sys2Proof.Machine

/-! Words and their bytes. -/

theorem Slot.get_byte (v : Slot) (lane : Nat) : (v.byte lane).get = byteLane v.get lane := by cases v <;> rfl

theorem byteLanes_append (w : Word) : byteLane w 3 ++ byteLane w 2 ++ byteLane w 1 ++ byteLane w 0 = w := by
  ext i hi
  grind [byteLane]

/-- Memory that holds a word reads as that word. -/
theorem State.wordAt_of_holdsWord {t : State} {a : Word} {v : Slot} (h : t.holdsWord a v) : t.wordAt a = v.get := by
  simp only [State.holdsWord, Slot.get_byte] at h
  have h0 := h 0 (by decide)
  rw [word_add_zero] at h0
  have lanes : t.wordAt a = join32 t.bigEndian (byteLane v.get (if t.bigEndian then 3 else 0))
      (byteLane v.get (if t.bigEndian then 2 else 1)) (byteLane v.get (if t.bigEndian then 1 else 2))
      (byteLane v.get (if t.bigEndian then 0 else 3)) := by
    rw [State.wordAt, h0]
    exact congr (congr (congr rfl (h 1 (by decide))) (h 2 (by decide))) (h 3 (by decide))
  rw [lanes]
  cases t.bigEndian <;> exact byteLanes_append v.get

/-! The most significant 1 bit of a word (48_processor_management R607). -/

theorem topBit_eq_some {w : Word} {k n : Nat} (hn : n < k) (h : w.getLsbD n = true)
    (above : ∀ m < k, n < m → w.getLsbD m = false) : topBit w k = some n := by
  induction k with
  | zero => omega
  | succ k ih =>
    rw [topBit]
    by_cases e : n = k
    · rw [if_pos (e ▸ h), e]
    · rw [if_neg (by rw [above k (by omega) (by omega)]; decide)]
      exact ih (by omega) fun m hm => above m (by omega)

theorem topBit_zero (k : Nat) : topBit 0 k = none := by
  induction k with
  | zero => rfl
  | succ k ih => rw [topBit, ih]; simp

theorem topPriority_zero : topPriority 0 = 0 := by rw [topPriority, topBit_zero]; rfl

theorem topPriority_of_top {w : Word} {n : Nat} (hn : n < 32) (h : w.getLsbD n = true)
    (above : ∀ m < 32, n < m → w.getLsbD m = false) : topPriority w = BitVec.ofNat 5 n := by
  rw [topPriority, topBit_eq_some hn h above]; rfl

/-! What a store leaves of the checks of the next. -/

theorem State.StoreFrame.writable {s u : State} (f : s.StoreFrame u) {a : Word} {n : Nat} (h : s.writable a n) :
    u.writable a n :=
  ⟨h.1, h.2.1, fun i hi => (State.kindAt_of_plat f.plat _).trans (h.2.2 i hi)⟩

theorem State.StoreFrame.protectedIn {s u : State} (f : s.StoreFrame u) (em : Bool) (a : Word) (n : Nat) :
    u.protectedIn em a n = s.protectedIn em a n := by
  rw [Bool.eq_iff_iff, s.protectedIn_iff, u.protectedIn_iff]
  simp only [State.protectedByte, f.config]

theorem State.StoreFrame.supervisor {s u : State} (f : s.StoreFrame u) : u.supervisor = s.supervisor := by
  rw [State.supervisor, f.pc]; rfl

/-- A part of unprotected memory is unprotected. -/
theorem State.protectedIn_part {s : State} {em : Bool} {a : Word} {n i k : Nat} (h : s.protectedIn em a n = false)
    (hik : i + k ≤ n) : s.protectedIn em (a + BitVec.ofNat 32 i) k = false := by
  rw [Bool.eq_false_iff, Ne, s.protectedIn_iff] at h ⊢
  rintro ⟨j, hj, hb⟩
  exact h ⟨i + j, by omega, by rwa [word_add_ofNat] at hb⟩

/-- Internal RAM is RAM (20_memory R82). -/
theorem State.writable_internalRam (s : State) {a : Word} {n : Nat} (h : a.toNat + n ≤ 0x400) (hn : 0 < n) :
    s.writable a n := by
  have ram : ∀ i < n, regionOf (a + BitVec.ofNat 32 i) = .internalRam := fun i hi => by
    rw [regionOf_eq_internalRam_iff, BitVec.toNat_add, BitVec.toNat_ofNat]; omega
  have first : regionOf a = .internalRam := by simpa using ram 0 hn
  refine ⟨by rw [first]; decide, by rw [first, ram _ (by omega)], fun i hi => ?_⟩
  rw [State.kindAt, ram i hi, if_neg (by decide)]

/-- A read past the data cache reads RAM as memory holds it (20_memory R122). -/
theorem State.peek8_ram {s : State} {a : Word} (h : s.kindAt a = .ram) : s.peek8 false a = s.byteAt a := by
  rw [State.peek8, if_neg (by rw [h]; decide)]; rfl

theorem State.peek32_ram {s : State} {a : Word} (h : s.writable a 4) : s.peek32 false a = s.wordAt a := by
  have e : ∀ i < 4, s.peek8 false (a + BitVec.ofNat 32 i) = s.byteAt (a + BitVec.ofNat 32 i) := fun i hi =>
    State.peek8_ram (h.2.2 i hi)
  have e0 : s.peek8 false a = s.byteAt a := by simpa using e 0 (by decide)
  rw [State.peek32, State.wordAt, e0]
  exact congr (congr (congr rfl (e 1 (by decide))) (e 2 (by decide))) (e 3 (by decide))

theorem readWord_ram {s : State} {a : Word} (h : s.writable a 4) : readWord false a s = .ok (s.wordAt a) s := by
  rw [readWord, if_neg h.1, M.bind_ok (checkRange_ok a 4 s h.2.1 (State.not_absent_of_writable h)), M.bind_ok (M.get_run s),
    M.pure_run, State.peek32_ram h]

/-! Message 0: posting a software interrupt (48_processor_management R607). -/

section
variable (s : State) (v : Byte)

/-- The byte of the interrupt table that holds the bit of a vector. -/
abbrev State.vectorByte : Word := s.tables.interrupt + 4 + BitVec.ofNat 32 (v.toNat / 8)

/-- `s` with the bit of a vector set in its byte, unless the vector is of priority 0. -/
def State.posted : State :=
  if v.toNat / 8 = 0 then s
  else s.poke8 (s.vectorByte v) (.val (s.byteAt (s.vectorByte v) ||| BitVec.ofNat 8 (2 ^ (v.toNat % 8))))

/-- The word of pending priorities with the bit of the vector's priority set, unless that is 0. -/
def State.pendingWord : Word :=
  s.wordAt s.tables.interrupt ||| (if v.toNat / 8 = 0 then 0 else BitVec.ofNat 32 (2 ^ (v.toNat / 8)))

theorem vectorPriority_toNat : (vectorPriority v).toNat = v.toNat / 8 := by
  rw [vectorPriority, BitVec.extractLsb'_toNat, Nat.shiftRight_eq_div_pow]
  omega

/-- The store of a vector's bit, unless the vector is of priority 0. -/
def State.postBit : M Unit :=
  if v.toNat / 8 = 0 then pure () else postByte (s.vectorByte v) (BitVec.ofNat 8 (2 ^ (v.toNat % 8)))

/-- What message 0 does once it has read the word of pending priorities. -/
theorem postSoftware_eq (hw : s.writable s.tables.interrupt 4) :
    postSoftware v s = (s.postBit v >>= fun _ => storeWord s.tables.interrupt (.val (s.pendingWord v)) >>= fun _ =>
      modify fun t => t.withIntr { t.intr with swPriority := topPriority (s.pendingWord v) }) s := by
  have prio := vectorPriority_toNat v
  have zero : vectorPriority v = 0 ↔ v.toNat / 8 = 0 := by rw [← prio, ← BitVec.toNat_inj]; rfl
  rw [postSoftware, M.bind_ok (M.get_run s)]
  rw [M.bind_ok (readWord_ram hw)]
  by_cases h0 : v.toNat / 8 = 0
  · simp [State.postBit, State.pendingWord, h0, zero.mpr h0]
  · have offset : (vectorPriority v).zeroExtend 32 = BitVec.ofNat 32 (v.toNat / 8) := by
      rw [← prio]; exact BitVec.eq_of_toNat_eq (by simp)
    have bit : (bitWord (v.extractLsb' 0 3).toNat).setWidth 8 = BitVec.ofNat 8 (2 ^ (v.toNat % 8)) := by
      rw [BitVec.extractLsb'_toNat, bitWord]
      exact BitVec.eq_of_toNat_eq (by simp)
    simp only [State.postBit, State.pendingWord, if_neg h0, mt zero.mp h0, ne_eq, not_false_eq_true, if_true, if_false,
      offset, bit, prio]
    rfl

variable {s v} in
theorem State.postBit_ok
    (hb : v.toNat / 8 ≠ 0 → s.writable (s.vectorByte v) 1 ∧ s.protectedIn s.supervisor (s.vectorByte v) 1 = false) :
    s.postBit v s = .ok () (s.posted v) := by
  unfold State.postBit State.posted
  split
  · rfl
  · obtain ⟨hw, hp⟩ := hb ‹_›
    rw [postByte_ok _ _ s hw hp, State.peek8_ram (by simpa using hw.2.2 0 (by decide))]

variable {s v} in
/-- What the posted bit leaves. -/
theorem State.posted_frame : s.StoreFrame (s.posted v) := by
  unfold State.posted; split
  · exact .refl s
  · exact s.poke8_frame _ _

variable {s v} in
theorem State.posted_wf (h : s.mem.wf = true) : (s.posted v).mem.wf = true := by
  unfold State.posted; split
  · exact h
  · exact s.poke8_wf _ _ h

variable {s v} in
/-- The posted bit changes one byte, for a priority that is not 0. -/
theorem State.byteAt_posted_ne {x : Word} (h : v.toNat / 8 ≠ 0 → x ≠ s.vectorByte v) :
    (s.posted v).byteAt x = s.byteAt x := by
  unfold State.posted; split
  · rfl
  · exact s.byteAt_poke8_ne _ _ _ (h ‹_›)

variable {s v} in
theorem State.byteAt_posted (hp : v.toNat / 8 ≠ 0) (hw : s.mem.wf = true) (h : s.stores (s.vectorByte v)) :
    (s.posted v).byteAt (s.vectorByte v) = s.byteAt (s.vectorByte v) ||| BitVec.ofNat 8 (2 ^ (v.toNat % 8)) := by
  rw [State.posted, if_neg hp]
  exact s.byteAt_poke8_self _ _ hw h

/-- The vector's byte lies in the interrupt table, above the word of pending priorities (60_exceptions R686). -/
theorem State.vectorByte_eq : s.vectorByte v = s.tables.interrupt + BitVec.ofNat 32 (4 + v.toNat / 8) :=
  word_add_ofNat s.tables.interrupt 4 (v.toNat / 8)

theorem State.vectorByte_ne {i : Nat} (hi : i < 4) : s.tables.interrupt + BitVec.ofNat 32 i ≠ s.vectorByte v := by
  rw [s.vectorByte_eq]
  exact word_add_ofNat_ne _ (by omega) (by omega) (by omega)

/-- `s` with a software interrupt posted, before the software priority follows. -/
def State.postedTable : State := (s.posted v).poke32 s.tables.interrupt (.val (s.pendingWord v))

theorem State.postedTable_frame : s.StoreFrame (s.postedTable v) := State.posted_frame.trans (State.poke32_frame _ _ _)

variable {s v} in
/-- What the interrupt table holds after a post, and what else memory holds. -/
theorem State.postedTable_spec (hw : s.mem.wf = true) (h : s.writable s.tables.interrupt 36) :
    (s.postedTable v).wordAt s.tables.interrupt = s.pendingWord v ∧
      (v.toNat / 8 ≠ 0 → (s.postedTable v).byteAt (s.vectorByte v) =
        s.byteAt (s.vectorByte v) ||| BitVec.ofNat 8 (2 ^ (v.toNat % 8))) ∧
      ∀ x : Word, (∀ i < 4, x ≠ s.tables.interrupt + BitVec.ofNat 32 i) → (v.toNat / 8 ≠ 0 → x ≠ s.vectorByte v) →
        (s.postedTable v).byteAt x = s.byteAt x := by
  have word : s.writable s.tables.interrupt 4 := by
    simpa using State.writable_part h (by decide) (i := 0) (k := 4) (by decide) (by decide)
  obtain ⟨frame, bytes, others⟩ := State.stored_poke32 (.val (s.pendingWord v)) (State.posted_wf (v := v) hw)
    (State.posted_frame.writable word)
  refine ⟨?_, fun hp => ?_, fun x hx hb => (others x hx).trans (State.byteAt_posted_ne hb)⟩
  · exact State.wordAt_of_holdsWord fun i hi => (bytes i hi).trans (by rw [frame.bigEndian])
  · refine (others _ fun i hi => (s.vectorByte_ne v hi).symm).trans (State.byteAt_posted hp hw ?_)
    rw [s.vectorByte_eq]
    exact State.stores_of_writable h (by decide) (by omega)

variable {s v} in
/-- Message 0 with the table in RAM that is not protected. -/
theorem postSoftware_ok (h : s.writable s.tables.interrupt 36)
    (hp : s.protectedIn s.supervisor s.tables.interrupt 36 = false) :
    postSoftware v s = .ok () ((s.postedTable v).withIntr
      { (s.postedTable v).intr with swPriority := topPriority (s.pendingWord v) }) := by
  have word : s.writable s.tables.interrupt 4 := by
    simpa using State.writable_part h (by decide) (i := 0) (k := 4) (by decide) (by decide)
  have hpw : s.protectedIn s.supervisor s.tables.interrupt 4 = false := by
    simpa using State.protectedIn_part hp (i := 0) (k := 4) (by decide)
  have frame := State.posted_frame (s := s) (v := v)
  have post : s.postBit v s = .ok () (s.posted v) := by
    refine State.postBit_ok fun _ => ?_
    rw [s.vectorByte_eq]
    exact ⟨State.writable_part h (by decide) (by decide) (by omega), State.protectedIn_part hp (by omega)⟩
  rw [postSoftware_eq s v word, M.bind_ok post]
  rw [M.bind_ok (storeWord_ok _ _ _ (frame.writable word) (by rw [frame.supervisor, frame.protectedIn]; exact hpw))]
  rfl

variable {s v} in
/-- Message 0 with the byte of the vector in protected internal RAM (20_memory R87). -/
theorem postSoftware_bit_raises (hw : s.writable s.tables.interrupt 4) (h0 : v.toNat / 8 ≠ 0)
    (hb : s.writable (s.vectorByte v) 1) (hp : s.protectedIn s.supervisor (s.vectorByte v) 1 = true) :
    postSoftware v s = .error (.raise .mismatch) s := by
  rw [postSoftware_eq s v hw, State.postBit, if_neg h0]
  exact M.bind_error (postByte_raises _ _ s hb hp)

variable {s v} in
/-- Message 0 with the word of pending priorities in protected internal RAM, the byte of the vector not (20_memory R87). -/
theorem postSoftware_word_raises (hw : s.writable s.tables.interrupt 4)
    (hp : s.protectedIn s.supervisor s.tables.interrupt 4 = true)
    (hb : v.toNat / 8 ≠ 0 → s.writable (s.vectorByte v) 1 ∧ s.protectedIn s.supervisor (s.vectorByte v) 1 = false) :
    postSoftware v s = .error (.raise .mismatch) (s.posted v) := by
  have frame := State.posted_frame (s := s) (v := v)
  rw [postSoftware_eq s v hw, M.bind_ok (State.postBit_ok hb)]
  exact M.bind_error (storeWord_raises _ _ _ hw.1 (by rw [frame.supervisor, frame.protectedIn]; exact hp))

variable {s v} in
/-- Message 0 with the word of pending priorities in internal RAM that is protected in supervisor mode, by the place of the
byte of the vector (20_memory R87). -/
theorem postSoftware_protected (hs : s.supervisor = true) (hbcon : s.config.bcon.getLsbD 2 = true)
    (hlow : s.tables.interrupt.toNat < 0x40) :
    (v.toNat / 8 = 0 ∨ s.tables.interrupt.toNat + 4 + v.toNat / 8 < 0x40 →
      postSoftware v s = .error (.raise .mismatch) s) ∧
    (0x40 ≤ s.tables.interrupt.toNat + 4 + v.toNat / 8 → postSoftware v s = .error (.raise .mismatch) (s.posted v)) := by
  have word : s.writable s.tables.interrupt 4 := s.writable_internalRam (by omega) (by decide)
  have wordProtected : s.protectedIn s.supervisor s.tables.interrupt 4 = true :=
    (s.protectedIn_internalRam_iff (by omega)).mpr ⟨0, by decide, .inr ⟨hs, hlow, hbcon⟩⟩
  have place : (s.vectorByte v).toNat = s.tables.interrupt.toNat + 4 + v.toNat / 8 := by
    rw [s.vectorByte_eq, BitVec.toNat_add, BitVec.toNat_ofNat]; omega
  have byte : s.writable (s.vectorByte v) 1 := s.writable_internalRam (by omega) (by decide)
  have byteProtected : s.protectedIn s.supervisor (s.vectorByte v) 1 = true ↔
      s.tables.interrupt.toNat + 4 + v.toNat / 8 < 0x40 := by
    rw [s.protectedIn_internalRam_iff (by omega), place]
    simp [hs, hbcon]
  refine ⟨fun h => ?low, fun hhigh => ?high⟩
  case low =>
    by_cases h0 : v.toNat / 8 = 0
    · have := postSoftware_word_raises word wordProtected fun h => absurd h0 h
      rwa [State.posted, if_pos h0] at this
    · exact postSoftware_bit_raises word h0 byte (byteProtected.mpr (h.resolve_left h0))
  case high =>
    have unprotected : s.protectedIn s.supervisor (s.vectorByte v) 1 = false := by
      rw [Bool.eq_false_iff, Ne, byteProtected]; omega
    exact postSoftware_word_raises word wordProtected fun _ => ⟨byte, unprotected⟩

end

end Sys2Proof.Machine
end

section
/-! `sysctl` by message (48_processor_management R606 to R609, R612 to R614). -/

namespace Sys2Proof.Machine

/-! The end of an instruction that checks for interrupts while none can be delivered. -/

/-- Nothing but an NMI is delivered while interrupts are disabled (60_exceptions R682). -/
theorem State.pendingSource_disabled {s : State} (hn : s.intr.nmiPending = false) (hd : s.intr.icon.getLsbD 10 = true) :
    s.pendingSource = none := by
  simp [State.pendingSource, hn, hd]

/-- `run_after` for an instruction that also checks for interrupts (60_exceptions R680). -/
theorem run_after_poll {len : Word} {action : M Done} {s t : State} {d : Done} (h : action s = .ok d t) (hu : s.untraced)
    (hw : t.trace.teWindow = 0) (hp : d.pendingTrace = false) (ht : d.transfer = false)
    (hq : (t.after len d.branch).pendingSource = none) : run len action s = .next (t.after len d.branch) := by
  have hpoll : checkPending (t.after len d.branch) = .ok () (t.after len d.branch) := by
    simp [checkPending, M.bind_run, hq]
  cases hd : d.poll with
  | false => exact run_after h hu hw hp hd ht
  | true =>
    rw [State.after] at hpoll
    simp [run, h, complete, toOutcome, M.bind_run, hp, ht, hd, s.tracedUntil_untraced t hu hw, hpoll, State.after]

/-! The messages. -/

/-- `s` after message 6: every breakpoint register is granted, and register `d` says so (48_processor_management R613). -/
def State.rightsGranted (s : State) (d : RegNum) : State :=
  (s.withBp { s.bp with rights := ⟨true, true, true, true, true⟩ }).setReg d 0x22

/-- The address of the memory-mapped register that message 5 names by the upper half of src1 (48_processor_management
R612). -/
def mmrAddress (x : Word) : Word := 0xFF000000 ||| x

section
variable (a b : Operand) (d : RegNum) {s : State} (hs : s.supervisor = true) {v1 : Word}
  (hv : v1 = operandValue a Site.src1 s)
include hs hv

theorem exec_sysctl_post (hm : v1.extractLsb' 8 8 = 0#8) : exec (.sysctl a b d) s =
    run 4 (postSoftware (v1.setWidth 8) >>= fun _ => pure { poll := true }) s := by
  refine (run_requireSupervisor 4 _ hs).trans (run_congr ?_)
  simp only [M.bind_ok (M.get_run s), ← hv, hm]
  rfl

theorem exec_sysctl_purge (hm : v1.extractLsb' 8 8 = 1#8) : exec (.sysctl a b d) s =
    run 4 (set s.purgeICache >>= fun _ => pure {}) s := by
  refine (run_requireSupervisor 4 _ hs).trans (run_congr ?_)
  simp only [M.bind_ok (M.get_run s), ← hv, hm]
  rfl

theorem exec_sysctl_configure (hm : v1.extractLsb' 8 8 = 2#8) : exec (.sysctl a b d) s =
    run 4 (configureICache (v1.setWidth 8) (operandValue b Site.src2 s) >>= fun _ => pure {}) s := by
  refine (run_requireSupervisor 4 _ hs).trans (run_congr ?_)
  simp only [M.bind_ok (M.get_run s), ← hv, hm]
  rfl

theorem exec_sysctl_modify (hm : v1.extractLsb' 8 8 = 5#8) (h2 : d ≠ 2) : exec (.sysctl a b d) s =
    run 4 (modifyMmr (mmrAddress (v1 >>> 16)) (operandValue b Site.src2 s) (s.reg d) >>= fun old =>
      setDst d old >>= fun _ => pure {}) s := by
  refine (run_requireSupervisor 4 _ hs).trans (run_congr ?_)
  have hd : s.src Site.srcDst d = s.reg d := congrArg Slot.get (s.srcSlot_of_ne _ h2)
  simp only [M.bind_ok (M.get_run s), ← hv, hm]
  refine (M.bind_ok (checkDst_ok d s h2)).trans ?_
  rw [hd]
  rfl

theorem exec_sysctl_grant (hm : v1.extractLsb' 8 8 = 6#8) (h2 : d ≠ 2) : exec (.sysctl a b d) s =
    run 4 (set (s.rightsGranted d) >>= fun _ => pure {}) s := by
  refine (run_requireSupervisor 4 _ hs).trans (run_congr ?_)
  simp only [M.bind_ok (M.get_run s), ← hv, hm]
  exact M.bind_ok (checkDst_ok d s h2)

theorem exec_sysctl_reserved (hm : v1.extractLsb' 8 8 = 4#8 ∨ 7 ≤ (v1.extractLsb' 8 8).toNat) :
    exec (.sysctl a b d) s = s.raised 4 .invalidOperand := by
  have other : ∀ x : Byte, x = 4#8 ∨ 7 ≤ x.toNat → x ≠ 0 ∧ x ≠ 1 ∧ x ≠ 2 ∧ x ≠ 3 ∧ x ≠ 5 ∧ x ≠ 6 := by decide
  obtain ⟨h0, h1, h2, h3, h5, h6⟩ := other _ hm
  refine (run_requireSupervisor 4 _ hs).trans (run_raised ?_)
  simp only [M.bind_ok (M.get_run s), ← hv]
  rw [if_neg h0, if_neg h1, if_neg h2, if_neg h3, if_neg h5, if_neg h6]
  rfl

end

/-! Message 2 (48_processor_management R609). -/

section
variable {mode : Byte} (addr : Word) (s : State)

theorem configureICache_switch (h : mode = 0 ∨ mode.getLsbD 0 = true) :
    configureICache mode addr s = .ok () (s.withCache { s.cache with instrEnabled := !mode.getLsbD 0 }) := by
  cases hlow : mode.getLsbD 0 with
  | true => rw [configureICache, if_pos hlow]; rfl
  | false =>
    rw [configureICache, if_neg (by rw [hlow]; decide), if_pos (h.resolve_right (by rw [hlow]; decide))]
    rfl

theorem configureICache_invalid (hlow : mode.getLsbD 0 = false) (h : mode ∉ ([0, 4, 6] : List Byte)) :
    configureICache mode addr s = .error (.raise .invalidOperand) s := by
  simp only [List.mem_cons, List.not_mem_nil, or_false, not_or] at h
  obtain ⟨h0, h4, h6⟩ := h
  rw [configureICache, if_neg (by rw [hlow]; decide), if_neg h0, if_neg (not_or.mpr ⟨h4, h6⟩)]
  rfl

end

/-! Message 5 (48_processor_management R612). -/

/-- A write after a read leaves what the write alone leaves: of the two a timer mode register keeps the written word. -/
theorem State.setMmr_afterMmrRead (s : State) (v : Word) (r : MmrName) : (s.afterMmrRead r).setMmr v r = s.setMmr v r := by
  cases r <;> rfl

/-- `s` after the exchange of message 5 with register `r`, the mask and the old word in register `d`
(48_processor_management R612). -/
def State.mmrModified (s : State) (r : MmrName) (d : RegNum) (value : Word) : State :=
  (s.setMmr (merge (s.reg d) value (s.mmr r)) r).setReg d (s.mmr r)

theorem modifyMmr_ok {addr : Word} {r : MmrName} {s : State} (value mask : Word) (h : checkMmrStore addr s = .ok r s) :
    modifyMmr addr value mask s = .ok (s.mmr r) (s.setMmr (merge mask value (s.mmr r)) r) := by
  rw [modifyMmr, M.bind_ok h, M.bind_ok (M.get_run s)]
  rw [M.bind_ok (M.set_run _ _), State.setMmr_afterMmrRead]
  rfl

/-- A write of a general register changes no memory-mapped one. -/
theorem State.mmr_setSlot (s : State) (n : RegNum) (v : Slot) (r : MmrName) : (s.setSlot n v).mmr r = s.mmr r := by
  cases r <;> simp [State.mmr]

theorem State.mmrWritten_setSlot {s t : State} {r : MmrName} {w : Word} (h : s.mmrWritten t r w) (n : RegNum) (v : Slot) :
    s.mmrWritten (t.setSlot n v) r w := by
  simpa only [State.mmrWritten, State.mmr_setSlot, State.setSlot_intr] using h

theorem State.mmr_after (t : State) (len : Word) (b : Bool) (r : MmrName) : (t.after len b).mmr r = t.mmr r := by
  cases r <;> rfl

theorem State.mmrWritten_after {s t : State} {r : MmrName} {w : Word} (h : s.mmrWritten t r w) (len : Word) (b : Bool) :
    s.mmrWritten (t.after len b) r w := by
  obtain ⟨hreg, hipnd, hpins, hothers⟩ := h
  exact ⟨(t.mmr_after len b r).trans hreg, hipnd, hpins,
    fun other hne hni => (t.mmr_after len b other).trans (hothers other hne hni)⟩

/-- What a store to a memory-mapped register and then to a general one leaves of the general ones. -/
theorem State.sameRegsBut_setMmr_setSlot (s : State) (w : Word) (r : MmrName) (d : RegNum) (v : Slot) :
    s.sameRegsBut ((s.setMmr w r).setSlot d v) [d] := by
  cases r <;> exact State.sameRegsBut_setSlot _ d v

theorem findOpcode_eq_none {α : Type} {op : Nat} {l : List (Nat × α)} (h : ∀ p ∈ l, p.1 ≠ op) :
    findOpcode op l = none := by
  induction l with
  | nil => rfl
  | cons c rest ih =>
    rw [findOpcode, if_neg (h c (.head _)), ih fun p hp => h p (.tail _ hp)]

section
variable {x : Word} (hx : x.toNat < 2 ^ 16)
include hx

theorem mmrAddress_toNat : (mmrAddress x).toNat = 0xFF000000 + x.toNat := by
  rw [mmrAddress, BitVec.toNat_or]
  exact (Nat.two_pow_add_eq_or_of_lt (i := 16) (by omega) 0xFF00).symm

theorem mmrAt_mmrAddress (h : ∀ p ∈ mmrTable, BitVec.ofNat 32 p.1 ≠ x) : mmrAt (mmrAddress x) = none := by
  rw [mmrAt, mmrAddress_toNat hx, Nat.add_sub_cancel_left]
  exact findOpcode_eq_none fun p hp e => h p hp (by simp [e])

end

theorem checkMmrStore_reserved {a : Word} (s : State) (ha : a.extractLsb' 0 2 = 0#2) (hr : mmrAt a = none) :
    checkMmrStore a s = .error (.refuse (.reservedMmrStore a)) s := by
  simp [checkMmrStore, checkMmrAligned, M.bind_run, ha, hr]

theorem mmrTable_mmrAddress : ∀ p ∈ mmrTable, mmrAddress (BitVec.ofNat 32 p.1) = BitVec.ofNat 32 (0xFF000000 + p.1) := by
  decide

theorem mmrAddress_low (x : Word) : (mmrAddress x).extractLsb' 0 2 = x.extractLsb' 0 2 := by
  rw [mmrAddress, BitVec.extractLsb'_or]; exact BitVec.zero_or

/-! What each message leaves. -/

/-- The end of an instruction that changes the caches alone changes no other state that a program can see. -/
theorem State.changesOnly_withCache (s : State) (c : Caches) (len : Word) (b : Bool) :
    s.changesOnly (((s.withCache c).after len b).withCache s.cache) [] := by
  obtain ⟨regs, -, frames, bytes⟩ := s.changesOnly_refl
  exact ⟨regs, ⟨rfl, rfl, rfl, rfl, rfl, rfl, rfl, rfl, rfl, rfl, rfl, rfl, rfl⟩, frames, bytes⟩

theorem State.purgeICache_eq (s : State) :
    ∃ c, s.purgeICache = s.withCache c ∧ c.codeStale = [] ∧ c.instrLocked = false := ⟨_, rfl, rfl, rfl⟩

/-- What changes only registers of `s` with other breakpoint registers does so of `s`, but for those. -/
theorem State.changesOnly_withBp {s t : State} {bp : Breakpoints} {ds : List RegNum} (h : (s.withBp bp).changesOnly t ds) :
    s.changesOnly (t.withBp s.bp) ds := by
  obtain ⟨regs, special, frames, bytes⟩ := h
  obtain ⟨hpc, htc, htables, hmasked, hconfig, -, rest⟩ := special
  exact ⟨regs, ⟨hpc, htc, htables, hmasked, hconfig, rfl, rest⟩, frames, bytes⟩

theorem State.rightsGranted_spec (s : State) (d : RegNum) : (s.rightsGranted d).slot d = .val 0x22 ∧
    (s.rightsGranted d).bp = { s.bp with rights := ⟨true, true, true, true, true⟩ } ∧ (s.rightsGranted d).ac = s.ac ∧
      (s.rightsGranted d).ip = s.ip ∧ s.changesOnly ((s.rightsGranted d).withBp s.bp) [d] :=
  ⟨State.slot_setSlot_self _ _ _, State.setSlot_bp _ _ _, State.setSlot_ac _ _ _, State.setSlot_ip _ _ _,
    State.changesOnly_withBp (State.changesOnly_setSlot _ d (.val 0x22))⟩

theorem State.sameSpecial.withIntr {s t : State} (h : s.sameSpecial t) : s.sameSpecial (t.withIntr s.intr) := by
  obtain ⟨hpc, htc, htables, hmasked, hconfig, hbp, -, rest⟩ := h
  exact ⟨hpc, htc, htables, hmasked, hconfig, hbp, rfl, rest⟩

section
variable (a b : Operand) (d : RegNum) {s : State} (hs : s.supervisor = true) {v1 : Word}
  (hv : v1 = operandValue a Site.src1 s)
include hs hv

theorem sysctl_post_next (hm : v1.extractLsb' 8 8 = 0#8) (hu : s.untraced) (hnmi : s.intr.nmiPending = false)
    (hdis : s.intr.icon.getLsbD 10 = true) (hw : s.writable s.tables.interrupt 36)
    (hprot : s.protectedIn true s.tables.interrupt 36 = false) : exec (.sysctl a b d) s =
      .next (((s.postedTable (v1.setWidth 8)).withIntr
        { s.intr with swPriority := topPriority (s.pendingWord (v1.setWidth 8)) }).after 4 false) := by
  have frame := s.postedTable_frame (v1.setWidth 8)
  have post := postSoftware_ok (v := v1.setWidth 8) hw (hs ▸ hprot)
  generalize s.postedTable (v1.setWidth 8) = u at frame post ⊢
  rw [frame.intr] at post
  refine (exec_sysctl_post a b d hs hv hm).trans
    (run_after_poll (d := { poll := true }) ((M.bind_ok post).trans rfl) hu ?_ rfl rfl (State.pendingSource_disabled hnmi hdis))
  exact (congrArg TraceDelay.teWindow frame.trace).trans hu.2

theorem sysctl_purge_next (hm : v1.extractLsb' 8 8 = 1#8) (hu : s.untraced) :
    exec (.sysctl a b d) s = .next (s.purgeICache.after 4 false) :=
  (exec_sysctl_purge a b d hs hv hm).trans (run_after (d := {}) rfl hu hu.2 rfl rfl rfl)

/-- Message 2 switches the instruction cache by an odd mode or by mode 0 (48_processor_management R609). -/
theorem sysctl_switch_next (hm : v1.extractLsb' 8 8 = 2#8) (hu : s.untraced)
    (hmode : v1.setWidth 8 = 0#8 ∨ v1.getLsbD 0 = true) : exec (.sysctl a b d) s =
      .next ((s.withCache { s.cache with instrEnabled := !v1.getLsbD 0 }).after 4 false) := by
  have low : (v1.setWidth 8).getLsbD 0 = v1.getLsbD 0 := by simp
  have configure := configureICache_switch (operandValue b Site.src2 s) s (hmode.imp_right low.trans)
  rw [low] at configure
  exact (exec_sysctl_configure a b d hs hv hm).trans
    (run_after (d := {}) ((M.bind_ok configure).trans rfl) hu hu.2 rfl rfl rfl)

theorem sysctl_configure_invalid (hm : v1.extractLsb' 8 8 = 2#8) (hmode : v1.getLsbD 0 = false)
    (hother : v1.setWidth 8 ∉ [0#8, 4#8, 6#8]) : exec (.sysctl a b d) s = s.raised 4 .invalidOperand := by
  rw [exec_sysctl_configure a b d hs hv hm]
  exact run_raised (M.bind_error (configureICache_invalid _ s (by simpa using hmode) hother))

/-- Message 6 grants every breakpoint register and answers 22H (48_processor_management R613). -/
theorem sysctl_grant_next (hm : v1.extractLsb' 8 8 = 6#8) (hu : s.untraced) (h2 : d ≠ 2) :
    exec (.sysctl a b d) s = .next ((s.rightsGranted d).after 4 false) :=
  (exec_sysctl_grant a b d hs hv hm h2).trans
    (run_after (d := {}) rfl hu (by simpa [State.rightsGranted, State.setReg] using hu.2) rfl rfl rfl)

/-! Message 5 by the checks of its store. -/

section
variable (hm : v1.extractLsb' 8 8 = 5#8) (h2 : d ≠ 2)
include hm h2

theorem sysctl_modify_next {r : MmrName} (hu : s.untraced)
    (hc : checkMmrStore (mmrAddress (v1 >>> 16)) s = .ok r s) : exec (.sysctl a b d) s =
      .next ((s.mmrModified r d (operandValue b Site.src2 s)).after 4 false) := by
  obtain ⟨-, -, -, -, htrace, -⟩ := s.setMmr_leaves (merge (s.reg d) (operandValue b Site.src2 s) (s.mmr r)) r
  rw [exec_sysctl_modify a b d hs hv hm h2]
  refine run_after (d := {}) ((M.bind_ok (modifyMmr_ok _ _ hc)).trans rfl) hu ?_ rfl rfl rfl
  rw [State.mmrModified, State.setReg, State.setSlot_trace, htrace]
  exact hu.2

theorem sysctl_modify_raises {k : FaultKind} (hc : checkMmrStore (mmrAddress (v1 >>> 16)) s = .error (.raise k) s) :
    exec (.sysctl a b d) s = s.raised 4 k :=
  (exec_sysctl_modify a b d hs hv hm h2).trans (run_raised (M.bind_error (M.bind_error hc)))

theorem sysctl_modify_refused {r : Refusal} (hc : checkMmrStore (mmrAddress (v1 >>> 16)) s = .error (.refuse r) s) :
    exec (.sysctl a b d) s = .refused r :=
  (exec_sysctl_modify a b d hs hv hm h2).trans (run_refuse _ _ s s r (M.bind_error (M.bind_error hc)))

end
end

/-- What message 5 leaves in its register (10_state R53; 48_processor_management R612). -/
theorem State.mmrStored_merge (s : State) (r : MmrName) (value mask : Word) :
    s.mmrStored r (merge mask value (s.mmr r)) = if r = .prcb ∨ r = .deviceId then s.mmr r
      else ((value &&& mask) ||| (s.mmr r &&& ~~~mask)) &&& (if r = .tmr0 ∨ r = .tmr1 then ~~~1 else ~~~0) := by
  unfold State.mmrStored merge
  split
  · rfl
  · split
    · rfl
    · exact BitVec.and_allOnes.symm

theorem State.mmrModified_spec (s : State) (r : MmrName) (d : RegNum) (value : Word) :
    (s.mmrModified r d value).slot d = .val (s.mmr r) ∧
      s.mmrWritten (s.mmrModified r d value) r (if r = .prcb ∨ r = .deviceId then s.mmr r
        else ((value &&& s.reg d) ||| (s.mmr r &&& ~~~s.reg d)) &&& (if r = .tmr0 ∨ r = .tmr1 then ~~~1 else ~~~0)) ∧
      (s.mmrModified r d value).ac = s.ac ∧ (s.mmrModified r d value).ip = s.ip ∧
      (s.mmrModified r d value).pc = s.pc ∧ (s.mmrModified r d value).tc = s.tc ∧
      s.sameRegsBut (s.mmrModified r d value) [d] ∧ s.sameBytes (s.mmrModified r d value) := by
  obtain ⟨hip, hac, hpc, htc, -, -, hbytes⟩ := s.setMmr_leaves (merge (s.reg d) value (s.mmr r)) r
  obtain ⟨-, -, -, bytes⟩ := State.changesOnly_setSlot (s.setMmr (merge (s.reg d) value (s.mmr r)) r) d (.val (s.mmr r))
  rw [← s.mmrStored_merge]
  exact ⟨State.slot_setSlot_self _ _ _, State.mmrWritten_setSlot (s.mmrWritten_setMmr _ r) d _,
    (State.setSlot_ac _ _ _).trans hac, (State.setSlot_ip _ _ _).trans hip, (State.setSlot_pc _ _ _).trans hpc,
    (State.setSlot_tc _ _ _).trans htc, s.sameRegsBut_setMmr_setSlot _ r d _, fun x => (bytes x).trans (hbytes x)⟩

/-- Settles O44: each clause is the outcome of one message. -/
theorem systemControl : Obligations.SystemControl := by
  unfold Obligations.SystemControl
  intro a b d s hs v1 hv
  refine ⟨fun hm hu hwf hnmi hdis hw hprot p hp => ?posts, fun hm hbcon hlow _ p hp => ?protectedTable,
    fun hm hu _ => ?purge, fun hm hu hmode => ⟨_, sysctl_switch_next a b d hs hv hm hu hmode, ?switch⟩,
    fun hm hmode hother => sysctl_configure_invalid a b d hs hv hm hmode hother,
    fun hm h2 => ⟨fun p hp hx => ?known, fun hlow => ?unaligned, fun hlow hx => ?reserved⟩,
    fun hm hu h2 => ?grant, fun hm => exec_sysctl_reserved a b d hs hv hm⟩
  case posts =>
    subst hp
    have next := sysctl_post_next a b d hs hv hm hu hnmi hdis hw hprot
    have frame := s.postedTable_frame (v1.setWidth 8)
    obtain ⟨word, bit, others⟩ := State.postedTable_spec (v := v1.setWidth 8) hwf hw
    generalize s.postedTable (v1.setWidth 8) = u at next frame word bit others
    obtain ⟨regs, special, frames⟩ := frame.keeps
    have intr : ∀ q, topPriority (u.wordAt s.tables.interrupt) = q →
        { s.intr with swPriority := topPriority (s.pendingWord (v1.setWidth 8)) } = { s.intr with swPriority := q } :=
      fun q hq => by rw [← word, hq]
    exact ⟨_, next, word, bit, fun h0 => intr 0 ((congrArg topPriority h0).trans topPriority_zero),
      fun n hn h1 above => intr _ (topPriority_of_top hn h1 above), frame.ac, congrArg (· + 4) frame.ip, regs,
      special.withIntr, frames, others⟩
  case protectedTable =>
    subst hp
    obtain ⟨low, high⟩ := postSoftware_protected (v := v1.setWidth 8) hs hbcon hlow
    rw [exec_sysctl_post a b d hs hv hm]
    refine ⟨fun h => run_raised (M.bind_error (low h)), fun h0 hhigh => ?_⟩
    have raised := run_raise 4 _ s _ .mismatch (M.bind_error (f := fun _ => pure { poll := true }) (high hhigh))
    rwa [← State.posted_frame.ip, State.posted, if_neg h0] at raised
  case purge =>
    obtain ⟨c, e, hstale, hlocked⟩ := s.purgeICache_eq
    have next := sysctl_purge_next a b d hs hv hm hu
    rw [e] at next
    exact ⟨_, next, hstale, hlocked, rfl, rfl, s.changesOnly_withCache c 4 false⟩
  case switch => exact ⟨rfl, rfl, rfl, s.changesOnly_withCache _ 4 false⟩
  case known =>
    have address : mmrAddress (v1 >>> 16) = BitVec.ofNat 32 (0xFF000000 + p.1) := by
      rw [← hx]; exact mmrTable_mmrAddress p hp
    obtain ⟨-, ha, -, hr, -⟩ := mmrTable_addresses p hp _ address
    have check := checkMmrStore_eq s ha hr
    rw [if_neg fun h => by rw [hs] at h; cases h.1] at check
    refine ⟨fun hg => sysctl_modify_raises a b d hs hv hm h2 (check.trans (if_neg (by rw [hg]; decide))), fun hg hu => ?_⟩
    have next := sysctl_modify_next a b d hs hv hm h2 hu (check.trans (if_pos hg))
    have modified := s.mmrModified_spec p.2 d (operandValue b Site.src2 s)
    generalize s.mmrModified p.2 d (operandValue b Site.src2 s) = u at next modified
    obtain ⟨hslot, written, hac, hip, rest⟩ := modified
    exact ⟨_, next, hslot, State.mmrWritten_after written 4 false, hac, congrArg (· + 4) hip, rest⟩
  case unaligned =>
    refine sysctl_modify_raises a b d hs hv hm h2 (M.bind_error (checkMmrAligned_raises s ?_))
    rwa [mmrAddress_low]
  case reserved =>
    refine sysctl_modify_refused a b d hs hv hm h2 (r := .reservedMmrStore (mmrAddress (v1 >>> 16))) ?_
    have half : (v1 >>> 16).toNat < 2 ^ 16 := by rw [BitVec.toNat_ushiftRight, Nat.shiftRight_eq_div_pow]; omega
    exact checkMmrStore_reserved s (by rwa [mmrAddress_low]) (mmrAt_mmrAddress half hx)
  case grant =>
    have next := sysctl_grant_next a b d hs hv hm hu h2
    obtain ⟨hslot, hbp, hac, hip, regs⟩ := s.rightsGranted_spec d
    generalize s.rightsGranted d = u at next hslot hbp hac hip regs
    exact ⟨_, next, hslot, hbp, hac, congrArg (· + 4) hip, State.changesOnly_after regs 4 false⟩

end Sys2Proof.Machine
end

section
/-! One step: fetch and decode, and the choice between an instruction and an interrupt (20_memory R90, R92, R112;
30_encoding R157, R164; 60_exceptions R645, R680). -/

namespace Sys2Proof.Machine

/-! Fetch. -/

/-- The state after the fetch of the instruction at IP: of its second word too if the first says so (30_encoding R164). -/
def State.fetchedAt (s : State) : State :=
  if needsSecondWord (s.wordAt s.ip) then (s.fetched s.ip).fetched (s.ip + 4) else s.fetched s.ip

/-- The second word of the instruction at IP, 0 if it has none. -/
def State.secondWordAt (s : State) : Word := if needsSecondWord (s.wordAt s.ip) then s.wordAt (s.ip + 4) else 0

section
variable {s : State} (h : s.codeSettled s.ip)
  (h2 : needsSecondWord (s.wordAt s.ip) = true → (s.fetched s.ip).codeSettled (s.ip + 4))
include h h2

/-- A fetch from settled code decodes what memory holds. -/
theorem fetch_settled : fetch s = match decode (s.wordAt s.ip) s.secondWordAt with
    | .ok i => .ok i s.fetchedAt
    | .error _ => .error (.raise .invalidOpcode) s.fetchedAt := by
  rw [fetch, M.bind_ok (M.get_run s)]
  rw [M.bind_ok (fetchWord_ok s.ip s h)]
  cases hn : needsSecondWord (s.wordAt s.ip) with
  | true =>
    simp only [State.secondWordAt, State.fetchedAt, hn, if_true]
    rw [M.bind_ok (fetchWord_ok (s.ip + 4) (s.fetched s.ip) (h2 hn)), State.fetched_wordAt]
    cases decode (s.wordAt s.ip) (s.wordAt (s.ip + 4)) <;> rfl
  | false =>
    simp only [State.secondWordAt, State.fetchedAt, hn, Bool.false_eq_true, if_false]
    rw [M.bind_ok (M.pure_run _ _)]
    cases decode (s.wordAt s.ip) 0 <;> rfl

theorem fetchAndRun_decoded {i : Instr} (hd : decode (s.wordAt s.ip) s.secondWordAt = .ok i) :
    fetchAndRun exec s = exec i s.fetchedAt := by
  rw [fetchAndRun, fetch_settled h h2, hd]

theorem fetchAndRun_invalid {e : DecodeError} (hd : decode (s.wordAt s.ip) s.secondWordAt = .error e) :
    fetchAndRun exec s = s.fetchedAt.raised 4 .invalidOpcode := by
  rw [fetchAndRun, fetch_settled h h2, hd, State.raised]

end

/-- Code is in external memory alone (20_memory R90, R92; 60_exceptions R645). -/
theorem fetchAndRun_region {s : State} (h : regionOf s.ip ≠ .external) :
    fetchAndRun exec s = s.raised 4 .unimplemented := by
  have hfetch : fetch s = .error (.raise .unimplemented) s := by
    rw [fetch, M.bind_ok (M.get_run s)]
    refine M.bind_error ?_
    rw [fetchWord, M.bind_ok (M.get_run s), if_pos h, M.raise_run]
  rw [fetchAndRun, hfetch, State.raised]

/-! The choice of a step that takes no inputs. -/

section
variable {s : State} (hi : s.inputs = [])
include hi

theorem step_without_inputs : step s = cycle exec s := by
  have hinputs : takeInputs s = .ok () s := by rw [takeInputs, M.bind_ok (M.get_run s), hi]; rfl
  rw [step, stepWith, hinputs]

section
variable (hp : s.pendingSource = none)
include hp

theorem step_executes (hh : s.intr.halted = false) : step s = fetchAndRun exec (s.withLatency none) := by
  rw [step_without_inputs hi, cycle, hp]
  simp only [hh, Bool.false_eq_true, if_false]

theorem step_waits (hh : s.intr.halted = true) : step s = .next ((s.withLatency none).withFree (s.free + 1)) := by
  rw [step_without_inputs hi, cycle, hp]
  simp only [hh, if_true]

end

section
variable {src : Source} (hp : s.pendingSource = some src)
include hp

theorem step_halted_delivers (hh : s.intr.halted = true) : step s = toOutcome (deliver src) (s.withLatency none) := by
  rw [step_without_inputs hi, cycle, hp]
  simp only [hh, if_true]

theorem step_delivers (hl : s.deliveryLatency = 0) : step s = toOutcome (deliver src) (s.withLatency none) := by
  rw [step_without_inputs hi, cycle, hp]
  simp only [hl, ite_self]

theorem step_postpones (hh : s.intr.halted = false) {n : Nat} (hl : s.deliveryLatency = n + 1) :
    step s = fetchAndRun exec (s.withLatency (some n)) := by
  rw [step_without_inputs hi, cycle, hp]
  simp only [hh, hl, Bool.false_eq_true, if_false]

end
end

/-- A machine that waits for no delivery is as without the latency. -/
theorem State.withLatency_of_none {s : State} (h : s.intr.latency = none) : s.withLatency none = s := by
  rw [State.withLatency, ← h]; rfl

/-- A latency that runs is the one that counts (60_exceptions R680). -/
theorem State.deliveryLatency_of_some {s : State} {n : Nat} (h : s.intr.latency = some n) : s.deliveryLatency = n := by
  rw [State.deliveryLatency, h]; rfl

/-- Settles O56: the fetch decodes what memory holds, and the cycle chooses by the latency. -/
theorem stepRunsDecoded : Obligations.StepRunsDecoded := by
  unfold Obligations.StepRunsDecoded
  refine ⟨fun s h h2 w1 hw1 u hu => ⟨fun i hd => ?runs, fun e hd => ?invalid⟩, fun s h => fetchAndRun_region ?region,
    fun s hi => ⟨fun hp => ⟨step_executes hi hp, step_waits hi hp⟩, fun src hp => ⟨fun h => ?delivers, fun hh =>
      ⟨fun n hl => step_postpones hi hp hh (State.deliveryLatency_of_some hl), fun _ => ?draws⟩⟩⟩⟩
  case runs =>
    subst hw1 hu
    have e := fetchAndRun_decoded h h2 hd
    refine ⟨e, fun hi hp hh hl => ?_⟩
    rw [step_executes hi hp hh, State.withLatency_of_none hl]
    exact e
  case invalid =>
    subst hw1 hu
    exact fetchAndRun_invalid h h2 hd
  case region =>
    intro external
    rcases h with h | h
    · rw [← regionOf_eq_internalRam_iff, external] at h; cases h
    · rw [← regionOf_eq_mmr_iff, external] at h; cases h
  case delivers =>
    rcases h with hh | hl
    · exact step_halted_delivers hi hp hh
    · exact step_delivers hi hp (State.deliveryLatency_of_some hl)
  case draws =>
    cases hl : s.deliveryLatency with
    | zero => exact .inl (step_delivers hi hp hl)
    | succ n => exact .inr ⟨n, step_postpones hi hp hh hl⟩

end Sys2Proof.Machine
end

section
/-! The decoder and the encoder: the fields of the four word formats, what each decoder accepts, and the agreement of the
two (30_encoding R141 to R152, R157, R164 to R169). -/

namespace Sys2Proof

/-! The opcode tables. -/

theorem findOpcode_mem {α : Type} {op : Nat} {v : α} {table : List (Nat × α)} (h : findOpcode op table = some v) :
    (op, v) ∈ table := by
  induction table with
  | nil => cases h
  | cons row rest ih =>
    obtain ⟨k, u⟩ := row
    simp only [findOpcode] at h
    split at h
    case isTrue heq => cases h; simp [heq]
    case isFalse => exact List.mem_cons_of_mem _ (ih h)

/-- An opcode that is found is one that the table lists. -/
theorem findOpcode_listed {α : Type} {op : Nat} {v : α} {table : List (Nat × α)} (h : findOpcode op table = some v) :
    op ∈ table.map Prod.fst :=
  List.mem_map_of_mem (findOpcode_mem h)

theorem ctrlTable_opcodes : ∀ op ∈ ctrlTable.map Prod.fst, 0x08 ≤ op ∧ op < 0x0C ∨ 0x10 ≤ op ∧ op < 0x20 := by decide

theorem cobrTable_opcodes : ∀ op ∈ cobrTable.map Prod.fst, 0x20 ≤ op ∧ op < 0x28 ∨ 0x30 ≤ op ∧ op < 0x40 := by decide

theorem regTable_opcodes : ∀ op ∈ regTable.map Prod.fst, 0x580 ≤ op ∧ op < 0x800 := by decide

theorem memTable_opcodes : ∀ op ∈ memTable.map Prod.fst, 0x80 ≤ op := by decide

/-! The instruction that a row of a table makes of the fields of a word. -/

def CtrlForm.build (disp : BitVec 24) : CtrlForm → Instr
  | .disp f => f disp
  | .none i => i

/-- A TEST instruction has its destination in the field of the first source. -/
def CobrForm.build (src1 : Operand) (src2 : RegNum) (disp : BitVec 13) : CobrForm → Instr
  | .test f => f src1.field
  | .branch f => f src1 src2 disp

/-- Whether the first field is a destination, which cannot be a literal (30_encoding R157). -/
def CobrForm.isTest : CobrForm → Bool
  | .test _ => true
  | .branch _ => false

def RegForm.build (src1 src2 : Operand) (dst : RegNum) : RegForm → Instr
  | .three f => f src1 src2 dst
  | .oneDst f => f src1 dst
  | .two f => f src1 src2
  | .one f => f src1
  | .none i => i

/-- Whether there is a src/dst operand, which cannot be a literal (30_encoding R157, notes/assumptions/52.md). -/
def RegForm.hasDst : RegForm → Bool
  | .three _ => true
  | .oneDst _ => true
  | .two _ => false
  | .one _ => false
  | .none _ => false

def MemForm.build (m : MemOperand) (r : RegNum) : MemForm → Instr
  | .load f => f m r
  | .store f => f r m
  | .target f => f m

/-! What each decoder accepts. -/

@[simp] theorem operandOf_field (literal : BitVec 1) (field : BitVec 5) : (operandOf literal field).field = field := by
  unfold operandOf; split <;> rfl

@[simp] theorem operandOf_mode_field (o : Operand) : operandOf o.mode o.field = o := by cases o <;> rfl

theorem decodeCtrl_ok_iff {w : Word} {i : Instr} : decodeCtrl w = .ok i ↔
    ∃ form, findOpcode (opcode8 w).toNat ctrlTable = some form ∧ w.extractLsb' 0 1 ≠ 1#1 ∧
      form.build (w.extractLsb' 2 22 ++ 0#2) = i := by
  unfold decodeCtrl
  cases findOpcode (opcode8 w).toNat ctrlTable with
  | none => simp
  | some form => by_cases h0 : w.extractLsb' 0 1 = 1#1 <;> cases form <;> simp [h0, CtrlForm.build]

theorem decodeCobr_ok_iff {w : Word} {i : Instr} : decodeCobr w = .ok i ↔
    ∃ form, findOpcode (opcode8 w).toNat cobrTable = some form ∧ w.extractLsb' 0 1 ≠ 1#1 ∧
      (form.isTest = true → w.extractLsb' 13 1 ≠ 1#1) ∧
      form.build (operandOf (w.extractLsb' 13 1) (w.extractLsb' 19 5)) (w.extractLsb' 14 5)
        (w.extractLsb' 2 11 ++ 0#2) = i := by
  unfold decodeCobr
  cases findOpcode (opcode8 w).toNat cobrTable with
  | none => simp
  | some form =>
    by_cases h0 : w.extractLsb' 0 1 = 1#1
    · simp [h0]
    · cases form with
      | test f => by_cases h13 : w.extractLsb' 13 1 = 1#1 <;> simp [h0, h13, CobrForm.build, CobrForm.isTest]
      | branch f => simp [h0, CobrForm.build, CobrForm.isTest]

theorem decodeReg_ok_iff {w : Word} {i : Instr} : decodeReg w = .ok i ↔
    ∃ form, findOpcode (opcode12 w).toNat regTable = some form ∧ w.extractLsb' 5 2 = 0#2 ∧
      (form.hasDst = true → w.extractLsb' 13 1 ≠ 1#1) ∧
      form.build (operandOf (w.extractLsb' 11 1) (w.extractLsb' 0 5)) (operandOf (w.extractLsb' 12 1) (w.extractLsb' 14 5))
        (w.extractLsb' 19 5) = i := by
  unfold decodeReg
  cases findOpcode (opcode12 w).toNat regTable with
  | none => simp
  | some form =>
    by_cases h5 : w.extractLsb' 5 2 = 0#2
    · cases form with
      | three f | oneDst f => by_cases h13 : w.extractLsb' 13 1 = 1#1 <;> simp [h5, h13, RegForm.build, RegForm.hasDst]
      | two f | one f | none i => simp [h5, RegForm.build, RegForm.hasDst]
    · simp [h5]

theorem decodeMem_ok_iff {w0 w1 : Word} {i : Instr} : decodeMem w0 w1 = .ok i ↔
    ∃ form m, findOpcode (opcode8 w0).toNat memTable = some form ∧ memOperand w0 w1 = .ok m ∧
      form.build m (w0.extractLsb' 19 5) = i := by
  unfold decodeMem
  cases findOpcode (opcode8 w0).toNat memTable with
  | none => simp
  | some form =>
    cases memOperand w0 w1 with
    | error e => simp
    | ok m => cases form <;> simp [MemForm.build]

/-! Which decoder reads a word (30_encoding R141). -/

section
variable {w0 w1 : Word}

theorem decode_eq_ctrl (h : (opcode8 w0).toNat < 0x20) : decode w0 w1 = decodeCtrl w0 := if_pos h

theorem decode_eq_cobr (h : 0x20 ≤ (opcode8 w0).toNat) (h' : (opcode8 w0).toNat < 0x40) : decode w0 w1 = decodeCobr w0 := by
  simp only [decode, Nat.not_lt.mpr h, h', if_true, if_false]

theorem decode_eq_reg (h : 0x40 ≤ (opcode8 w0).toNat) (h' : (opcode8 w0).toNat < 0x80) : decode w0 w1 = decodeReg w0 := by
  have h20 : ¬ (opcode8 w0).toNat < 0x20 := by omega
  simp only [decode, h20, Nat.not_lt.mpr h, h', if_true, if_false]

theorem decode_eq_mem (h : 0x80 ≤ (opcode8 w0).toNat) : decode w0 w1 = decodeMem w0 w1 := by
  have h20 : ¬ (opcode8 w0).toNat < 0x20 := by omega
  have h40 : ¬ (opcode8 w0).toNat < 0x40 := by omega
  simp only [decode, h20, h40, Nat.not_lt.mpr h, if_false]

/-- Only a MEM word announces a second word (30_encoding R164). -/
theorem needsSecondWord_of_lt (h : (opcode8 w0).toNat < 0x80) : needsSecondWord w0 = false := by
  simp [needsSecondWord, Nat.not_le.mpr h]

end

/-! The opcode of a word as a number. -/

theorem opcode8_toNat (w : Word) : (opcode8 w).toNat = w.toNat / 2 ^ 24 := by
  have := w.isLt
  rw [opcode8, BitVec.extractLsb'_toNat, Nat.shiftRight_eq_div_pow]
  omega

theorem opcode12_toNat (w : Word) : (opcode12 w).toNat = 16 * (w.toNat / 2 ^ 24) + w.toNat / 2 ^ 7 % 16 := by
  have low : (w.extractLsb' 7 4).toNat < 2 ^ 4 := (w.extractLsb' 7 4).isLt
  have := w.isLt
  rw [opcode12, BitVec.toNat_append, ← Nat.shiftLeft_add_eq_or_of_lt low, BitVec.extractLsb'_toNat,
    BitVec.extractLsb'_toNat, Nat.shiftRight_eq_div_pow, Nat.shiftRight_eq_div_pow, Nat.shiftLeft_eq]
  omega

/-- The first two digits of a REG opcode are the first byte of the word (30_encoding R144). -/
theorem opcode12_div (w : Word) : (opcode12 w).toNat / 16 = (opcode8 w).toNat := by
  rw [opcode8_toNat, opcode12_toNat]; omega

/-! The fields of an encoded word. Each format is a concatenation, whose width Lean must see as the sum of its parts. -/

/-- A displacement is its word part with two zero bits below (30_encoding R145, R146). -/
theorem append_zero_of_wordDisp {n : Nat} {disp : BitVec (n + 2)} (h : wordDisp disp = true) :
    disp.extractLsb' 2 n ++ 0#2 = disp := by
  rw [← eq_of_beq h, BitVec.extractLsb'_append_extractLsb'_eq_extractLsb' (Nat.zero_add 2).symm,
    BitVec.extractLsb'_eq_self]

theorem wordDisp_append_zero {n : Nat} (x : BitVec n) : wordDisp (x ++ 0#2) = true := by
  simp [wordDisp, BitVec.extractLsb'_append_eq_of_add_le]

theorem ctrlWord_extract (op : BitVec 8) (disp : BitVec 24) (start len : Nat) :
    (ctrlWord op disp).extractLsb' start len =
      BitVec.extractLsb' (n := 8 + 22 + 2) start len (op ++ disp.extractLsb' 2 22 ++ 0#2) := rfl

theorem ctrlWord_fields (op : BitVec 8) (disp : BitVec 24) :
    opcode8 (ctrlWord op disp) = op ∧ (ctrlWord op disp).extractLsb' 0 1 = 0#1 ∧
      (ctrlWord op disp).extractLsb' 2 22 = disp.extractLsb' 2 22 := by
  simp (disch := decide) only [opcode8, ctrlWord_extract, BitVec.extractLsb'_append_eq_of_add_le,
    BitVec.extractLsb'_append_eq_of_le]
  simp

theorem cobrWord_extract (op : BitVec 8) (src1 src2 : BitVec 5) (m1 : BitVec 1) (disp : BitVec 13) (start len : Nat) :
    (cobrWord op src1 src2 m1 disp).extractLsb' start len = BitVec.extractLsb' (n := 8 + 5 + 5 + 1 + 11 + 2) start len
      (op ++ src1 ++ src2 ++ m1 ++ disp.extractLsb' 2 11 ++ 0#2) := rfl

theorem cobrWord_fields (op : BitVec 8) (src1 src2 : BitVec 5) (m1 : BitVec 1) (disp : BitVec 13) :
    let w := cobrWord op src1 src2 m1 disp
    opcode8 w = op ∧ w.extractLsb' 19 5 = src1 ∧ w.extractLsb' 14 5 = src2 ∧ w.extractLsb' 13 1 = m1 ∧
      w.extractLsb' 2 11 = disp.extractLsb' 2 11 ∧ w.extractLsb' 0 1 = 0#1 := by
  simp (disch := decide) only [opcode8, cobrWord_extract, BitVec.extractLsb'_append_eq_of_add_le,
    BitVec.extractLsb'_append_eq_of_le]
  simp

theorem regWord_extract (op : BitVec 12) (dst src2 : BitVec 5) (m2 m1 : BitVec 1) (src1 : BitVec 5) (start len : Nat) :
    (regWord op dst src2 m2 m1 src1).extractLsb' start len =
      BitVec.extractLsb' (n := 8 + 5 + 5 + 1 + 1 + 1 + 4 + 2 + 5) start len
        (op.extractLsb' 4 8 ++ dst ++ src2 ++ 0#1 ++ m2 ++ m1 ++ op.extractLsb' 0 4 ++ 0#2 ++ src1) := rfl

theorem regWord_fields (op : BitVec 12) (dst src2 : BitVec 5) (m2 m1 : BitVec 1) (src1 : BitVec 5) :
    let w := regWord op dst src2 m2 m1 src1
    opcode12 w = op ∧ w.extractLsb' 19 5 = dst ∧ w.extractLsb' 14 5 = src2 ∧ w.extractLsb' 13 1 = 0#1 ∧
      w.extractLsb' 12 1 = m2 ∧ w.extractLsb' 11 1 = m1 ∧ w.extractLsb' 5 2 = 0#2 ∧ w.extractLsb' 0 5 = src1 := by
  simp (disch := decide) only [opcode12, regWord_extract, BitVec.extractLsb'_append_eq_of_add_le,
    BitVec.extractLsb'_append_eq_of_le]
  simp [BitVec.extractLsb'_append_extractLsb'_eq_extractLsb' (Nat.zero_add 4).symm, BitVec.extractLsb'_eq_self]

theorem membWord_extract (op : BitVec 8) (r base : BitVec 5) (mode : BitVec 4) (scale : BitVec 3) (index : BitVec 5)
    (start len : Nat) : (membWord op r base mode scale index).extractLsb' start len =
      BitVec.extractLsb' (n := 8 + 5 + 5 + 4 + 3 + 2 + 5) start len
        (op ++ r ++ base ++ mode ++ scale ++ 0#2 ++ index) := rfl

theorem membWord_fields (op : BitVec 8) (r base : BitVec 5) (mode : BitVec 4) (scale : BitVec 3) (index : BitVec 5) :
    let w := membWord op r base mode scale index
    opcode8 w = op ∧ w.extractLsb' 19 5 = r ∧ w.extractLsb' 14 5 = base ∧ w.extractLsb' 12 1 = mode.extractLsb' 2 1 ∧
      w.extractLsb' 10 4 = mode ∧ w.extractLsb' 7 3 = scale ∧ w.extractLsb' 5 2 = 0#2 ∧ w.extractLsb' 0 5 = index := by
  simp (disch := decide) only [opcode8, membWord_extract, BitVec.extractLsb'_append_eq_of_add_le,
    BitVec.extractLsb'_append_eq_of_le]
  simp

theorem memaWord_extract (op : BitVec 8) (r base : BitVec 5) (mode : BitVec 1) (offset : BitVec 12) (start len : Nat) :
    (memaWord op r base mode offset).extractLsb' start len = BitVec.extractLsb' (n := 8 + 5 + 5 + 1 + 1 + 12) start len
      (op ++ r ++ base ++ mode ++ 0#1 ++ offset) := rfl

theorem memaWord_fields (op : BitVec 8) (r base : BitVec 5) (mode : BitVec 1) (offset : BitVec 12) :
    let w := memaWord op r base mode offset
    opcode8 w = op ∧ w.extractLsb' 19 5 = r ∧ w.extractLsb' 14 5 = base ∧ w.extractLsb' 13 1 = mode ∧
      w.extractLsb' 12 1 = 0#1 ∧ w.extractLsb' 0 12 = offset := by
  simp (disch := decide) only [opcode8, memaWord_extract, BitVec.extractLsb'_append_eq_of_add_le,
    BitVec.extractLsb'_append_eq_of_le]
  simp

end Sys2Proof
end

section
/-! Decode and encode agree: one lemma for each format, then one use of it for each instruction (30_encoding R142 to R152,
R164 to R169). -/

namespace Sys2Proof

/-- Decoding the words of the instruction gives it back, and its first word tells whether there is a second. -/
def Instr.RoundTrips (i : Instr) : Prop :=
  decode (encode i).1 ((encode i).2.getD 0) = .ok i ∧ needsSecondWord (encode i).1 = (encode i).2.isSome

/-! The first word of a MEM instruction. -/

theorem MemOperand.firstWord_fields (op : BitVec 8) (r : RegNum) (m : MemOperand) :
    opcode8 (m.firstWord op r) = op ∧ (m.firstWord op r).extractLsb' 19 5 = r := by
  cases m <;> simp [MemOperand.firstWord, memaWord_fields, membWord_fields]

theorem scaleOf_field (sc : Scale) : scaleOf sc.field = .ok sc := by cases sc <;> rfl

/-- The scale field of a MEMB word without an index is 0. -/
theorem scaleOf_zero : scaleOf 0#3 = .ok .x1 := rfl

theorem memOperand_firstWord (op : BitVec 8) (r : RegNum) (m : MemOperand) :
    memOperand (m.firstWord op r) (m.secondWord.getD 0) = .ok m := by
  cases m with
  | absOffset | indOffset => simp [MemOperand.firstWord, memOperand, memaWord_fields]
  | absDisp | indirect | indDisp | indIndex | indIndexDisp | indexDisp | ipDisp =>
    simp [MemOperand.firstWord, MemOperand.secondWord, memOperand, membOperand, membWord_fields, scaleOf_field,
      scaleOf_zero]

theorem needsSecondWord_firstWord {op : BitVec 8} (hop : 0x80 ≤ op.toNat) (r : RegNum) (m : MemOperand) :
    needsSecondWord (m.firstWord op r) = m.secondWord.isSome := by
  cases m <;>
    simp [MemOperand.firstWord, MemOperand.secondWord, needsSecondWord, memaWord_fields, membWord_fields, hop]

/-! The formats. -/

theorem Operand.mode_reg_ne (n : RegNum) : (Operand.reg n).mode ≠ 1#1 := by simp [Operand.mode]

section
variable {i : Instr}

theorem roundTrips_ctrl {op : BitVec 8} {form : CtrlForm} {disp : BitVec 24} (hdisp : wordDisp disp = true)
    (henc : encode i = encCtrl op disp) (hrow : findOpcode op.toNat ctrlTable = some form)
    (hbuild : form.build disp = i) : i.RoundTrips := by
  obtain ⟨hop, hzero, hfield⟩ := ctrlWord_fields op disp
  have range := ctrlTable_opcodes _ (findOpcode_listed hrow)
  rw [Instr.RoundTrips, henc, encCtrl, needsSecondWord_of_lt (by rw [hop]; omega), decode_eq_ctrl (by rw [hop]; omega),
    decodeCtrl_ok_iff]
  refine ⟨⟨form, by rw [hop, hrow], by rw [hzero]; decide, ?_⟩, rfl⟩
  rw [hfield, append_zero_of_wordDisp hdisp, hbuild]

theorem roundTrips_cobr {op : BitVec 8} {form : CobrForm} (src1 : Operand) (src2 : RegNum) {disp : BitVec 13}
    (hdisp : wordDisp disp = true) (henc : encode i = encCobr op src1 src2 disp)
    (hrow : findOpcode op.toNat cobrTable = some form) (hdst : form.isTest = true → src1.mode ≠ 1#1)
    (hbuild : form.build src1 src2 disp = i) : i.RoundTrips := by
  obtain ⟨hop, hsrc1, hsrc2, hmode, hfield, hzero⟩ := cobrWord_fields op src1.field src2 src1.mode disp
  have range := cobrTable_opcodes _ (findOpcode_listed hrow)
  rw [Instr.RoundTrips, henc, encCobr, needsSecondWord_of_lt (by rw [hop]; omega),
    decode_eq_cobr (by rw [hop]; omega) (by rw [hop]; omega), decodeCobr_ok_iff]
  refine ⟨⟨form, by rw [hop, hrow], by rw [hzero]; decide, by rwa [hmode], ?_⟩, rfl⟩
  rw [hsrc1, hsrc2, hmode, hfield, append_zero_of_wordDisp hdisp, operandOf_mode_field, hbuild]

theorem roundTrips_reg {op : BitVec 12} {form : RegForm} (src1 src2 : Operand) (dst : RegNum)
    (henc : encode i = encReg3 op src1 src2 dst) (hrow : findOpcode op.toNat regTable = some form)
    (hbuild : form.build src1 src2 dst = i) : i.RoundTrips := by
  obtain ⟨hop, hdst, hsrc2, hm3, hm2, hm1, hflags, hsrc1⟩ :=
    regWord_fields op dst src2.field src2.mode src1.mode src1.field
  have range := regTable_opcodes _ (findOpcode_listed hrow)
  have hop8 := opcode12_div (encReg3 op src1 src2 dst).1
  rw [encReg3, hop] at hop8
  rw [Instr.RoundTrips, henc, encReg3, needsSecondWord_of_lt (by omega), decode_eq_reg (by omega) (by omega),
    decodeReg_ok_iff]
  refine ⟨⟨form, by rw [hop, hrow], hflags, fun _ => by rw [hm3]; decide, ?_⟩, rfl⟩
  rw [hsrc1, hsrc2, hm1, hm2, hdst, operandOf_mode_field, operandOf_mode_field, hbuild]

theorem roundTrips_mem {op : BitVec 8} {form : MemForm} (m : MemOperand) (r : RegNum)
    (henc : encode i = encMem op r m) (hrow : findOpcode op.toNat memTable = some form) (hbuild : form.build m r = i) :
    i.RoundTrips := by
  obtain ⟨hop, hreg⟩ := m.firstWord_fields op r
  have range := memTable_opcodes _ (findOpcode_listed hrow)
  rw [Instr.RoundTrips, henc, encMem, needsSecondWord_firstWord range, decode_eq_mem (by rwa [hop]), decodeMem_ok_iff]
  exact ⟨⟨form, m, by rw [hop, hrow], memOperand_firstWord op r m, by rw [hreg, hbuild]⟩, rfl⟩

end

/-! The instructions. An operand that an instruction lacks is encoded as register 0. -/

theorem Instr.roundTrips (i : Instr) (hwf : i.wellFormed = true) : i.RoundTrips := by
  cases i with
  | ld m r | ldob m r | ldos m r | ldib m r | ldis m r | ldl m r | ldt m r | ldq m r | lda m r | balx m r =>
    exact roundTrips_mem m r rfl rfl rfl
  | st r m | stob r m | stos r m | stib r m | stis r m | stl r m | stt r m | stq r m =>
    exact roundTrips_mem m r rfl rfl rfl
  | mov a d | movl a d | movt a d | movq a d | bswap a d | not a d | scanbit a d | spanbit a d | intctl a d =>
    exact roundTrips_reg a (.reg 0) d rfl rfl rfl
  | selno a b d | selg a b d | sele a b d | selge a b d | sell a b d | selne a b d | selle a b d | selo a b d
  | addono a b d | addog a b d | addoe a b d | addoge a b d | addol a b d | addone a b d | addole a b d | addoo a b d
  | addino a b d | addig a b d | addie a b d | addige a b d | addil a b d | addine a b d | addile a b d | addio a b d
  | addc a b d | addo a b d | addi a b d | subono a b d | subog a b d | suboe a b d | suboge a b d | subol a b d
  | subone a b d | subole a b d | suboo a b d | subino a b d | subig a b d | subie a b d | subige a b d | subil a b d
  | subine a b d | subile a b d | subio a b d | subc a b d | subo a b d | subi a b d | mulo a b d | muli a b d
  | divo a b d | divi a b d | remo a b d | remi a b d | modi a b d | emul a b d | ediv a b d | shlo a b d
  | shro a b d | shli a b d | shri a b d | shrdi a b d | rotate a b d | eshro a b d | alterbit a b d | and a b d
  | andnot a b d | clrbit a b d | extract a b d | modify a b d | nand a b d | nor a b d | notand a b d | notbit a b d
  | notor a b d | or a b d | ornot a b d | setbit a b d | xnor a b d | xor a b d | cmpdeco a b d | cmpdeci a b d
  | cmpinco a b d | cmpinci a b d | atadd a b d | atmod a b d | dcctl a b d | icctl a b d | modac a b d | modpc a b d
  | modtc a b d | sysctl a b d => exact roundTrips_reg a b d rfl rfl rfl
  | chkbit a b | scanbyte a b | cmpo a b | cmpi a b | cmpob a b | cmpib a b | cmpos a b | cmpis a b | concmpo a b
  | concmpi a b => exact roundTrips_reg a b 0 rfl rfl rfl
  | testno d | testg d | teste d | testge d | testl d | testne d | testle d | testo d =>
    exact roundTrips_cobr (.reg d) 0 rfl rfl rfl (fun _ => Operand.mode_reg_ne d) rfl
  | b disp | bal disp | bno disp | bg disp | be disp | bge disp | bl disp | bne disp | ble disp | bo disp | call disp =>
    exact roundTrips_ctrl hwf rfl rfl rfl
  | bx m | callx m => exact roundTrips_mem m 0 rfl rfl rfl
  | bbc a b disp | bbs a b disp | cmpobg a b disp | cmpobe a b disp | cmpobge a b disp | cmpobl a b disp
  | cmpobne a b disp | cmpoble a b disp | cmpibno a b disp | cmpibg a b disp | cmpibe a b disp | cmpibge a b disp
  | cmpibl a b disp | cmpibne a b disp | cmpible a b disp | cmpibo a b disp =>
    exact roundTrips_cobr a b hwf rfl rfl nofun rfl
  | calls a | halt a => exact roundTrips_reg a (.reg 0) 0 rfl rfl rfl
  | ret | faultno | faultg | faulte | faultge | faultl | faultne | faultle | faulto =>
    exact roundTrips_ctrl (disp := 0) rfl rfl rfl rfl
  | flushreg | mark | fmark | syncf | intdis | inten => exact roundTrips_reg (.reg 0) (.reg 0) 0 rfl rfl rfl

/-- Settles O53: every instruction is encoded in its format by the row that the decoder finds. -/
theorem decodeOfEncode : Obligations.DecodeOfEncode := Instr.roundTrips

end Sys2Proof
end

section
/-! What decodes is well formed, the reserved encodings do not decode, and what the written words decode to (30_encoding
R144 to R152, R157, R168). -/

namespace Sys2Proof

/-! Every row of a table makes well-formed instructions. -/

theorem ctrlTable_wellFormed {disp : BitVec 24} (h : wordDisp disp = true) :
    ∀ row ∈ ctrlTable, (row.2.build disp).wellFormed = true :=
  List.forall_iff_forall_mem.mp ⟨h, h, rfl, h, h, h, h, h, h, h, h, h, rfl, rfl, rfl, rfl, rfl, rfl, rfl, rfl⟩

theorem cobrTable_wellFormed {disp : BitVec 13} (h : wordDisp disp = true) (src1 : Operand) (src2 : RegNum) :
    ∀ row ∈ cobrTable, (row.2.build src1 src2 disp).wellFormed = true :=
  List.forall_iff_forall_mem.mp
    ⟨rfl, rfl, rfl, rfl, rfl, rfl, rfl, rfl, h, h, h, h, h, h, h, h, h, h, h, h, h, h, h, h⟩

theorem regTable_wellFormed {row : Nat × RegForm} (h : row ∈ regTable) (src1 src2 : Operand) (dst : RegNum) :
    (row.2.build src1 src2 dst).wellFormed = true := by
  have all : regTable.all (fun row => (row.2.build src1 src2 dst).wellFormed) = true := rfl
  exact List.all_eq_true.mp all row h

theorem memTable_wellFormed {row : Nat × MemForm} (h : row ∈ memTable) (m : MemOperand) (r : RegNum) :
    (row.2.build m r).wellFormed = true := by
  have all : memTable.all (fun row => (row.2.build m r).wellFormed) = true := rfl
  exact List.all_eq_true.mp all row h

/-! What decodes. -/

theorem decode_ok_cases {w0 w1 : Word} {i : Instr} (h : decode w0 w1 = .ok i) :
    ((opcode8 w0).toNat < 0x20 ∧ decodeCtrl w0 = .ok i) ∨
    (0x20 ≤ (opcode8 w0).toNat ∧ (opcode8 w0).toNat < 0x40 ∧ decodeCobr w0 = .ok i) ∨
    (0x40 ≤ (opcode8 w0).toNat ∧ (opcode8 w0).toNat < 0x80 ∧ decodeReg w0 = .ok i) ∨
    (0x80 ≤ (opcode8 w0).toNat ∧ decodeMem w0 w1 = .ok i) := by
  by_cases h20 : (opcode8 w0).toNat < 0x20
  · exact .inl ⟨h20, by rwa [decode_eq_ctrl h20] at h⟩
  by_cases h40 : (opcode8 w0).toNat < 0x40
  · exact .inr (.inl ⟨by omega, h40, by rwa [decode_eq_cobr (by omega) h40] at h⟩)
  by_cases h80 : (opcode8 w0).toNat < 0x80
  · exact .inr (.inr (.inl ⟨by omega, h80, by rwa [decode_eq_reg (by omega) h80] at h⟩))
  · exact .inr (.inr (.inr ⟨by omega, by rwa [decode_eq_mem (by omega)] at h⟩))

theorem decode_wellFormed {w0 w1 : Word} {i : Instr} (h : decode w0 w1 = .ok i) : i.wellFormed = true := by
  rcases decode_ok_cases h with ⟨-, h⟩ | ⟨-, -, h⟩ | ⟨-, -, h⟩ | ⟨-, h⟩
  case inl =>
    obtain ⟨form, row, -, rfl⟩ := decodeCtrl_ok_iff.mp h
    exact ctrlTable_wellFormed (wordDisp_append_zero _) _ (findOpcode_mem row)
  case inr.inl =>
    obtain ⟨form, row, -, -, rfl⟩ := decodeCobr_ok_iff.mp h
    exact cobrTable_wellFormed (wordDisp_append_zero _) _ _ _ (findOpcode_mem row)
  case inr.inr.inl =>
    obtain ⟨form, row, -, -, rfl⟩ := decodeReg_ok_iff.mp h
    exact regTable_wellFormed (findOpcode_mem row) _ _ _
  case inr.inr.inr =>
    obtain ⟨form, m, row, -, rfl⟩ := decodeMem_ok_iff.mp h
    exact memTable_wellFormed (findOpcode_mem row) _ _

/-- The REG opcodes whose instruction has no src/dst operand (30_encoding R168). -/
theorem regTable_hasDst_false : ∀ row ∈ regTable, row.2.hasDst = false → row.1 ∈ [0x594, 0x595, 0x596, 0x597, 0x5A0, 0x5A1,
    0x5A2, 0x5A3, 0x5AC, 0x5AE, 0x5B4, 0x5B5, 0x65D, 0x660, 0x66B, 0x66C, 0x66D, 0x66F] := by decide

/-- The COBR opcodes whose first field is a destination (30_encoding R167). -/
theorem cobrTable_isTest_of_lt : ∀ row ∈ cobrTable, row.1 < 0x28 → row.2.isTest = true := by decide

/-- The scales 5 to 7 are reserved (30_encoding R151). -/
theorem scaleOf_reserved : ∀ field : BitVec 3, 5 ≤ field.toNat → scaleOf field = .error .reservedScale := by decide

/-- A MEMB word that decodes has none of the reserved fields (30_encoding R151, R157). -/
theorem membOperand_ok {w0 w1 : Word} {m : MemOperand} (h : membOperand w0 w1 = .ok m) :
    w0.extractLsb' 5 2 = 0#2 ∧ (w0.extractLsb' 7 3).toNat < 5 ∧ w0.extractLsb' 10 4 ≠ 6#4 := by
  unfold membOperand at h
  by_cases hzero : w0.extractLsb' 5 2 = 0#2
  · cases hscale : scaleOf (w0.extractLsb' 7 3) with
    | error e => simp [hzero, hscale] at h
    | ok sc =>
      have unreserved : (w0.extractLsb' 7 3).toNat < 5 := by
        by_contra reserved
        rw [scaleOf_reserved _ (by omega)] at hscale
        cases hscale
      refine ⟨hzero, unreserved, fun hmode => ?_⟩
      simp [hzero, hscale, hmode] at h
  · simp [hzero] at h

/-! Fields as bits and numbers, as the statement writes them. -/

theorem extractLsb'_one_iff {w : Word} {k : Nat} : w.extractLsb' k 1 = 1#1 ↔ w.getLsbD k = true := by
  simp [BitVec.eq_of_getLsbD_eq_iff]

theorem extractLsb'_two_ne {w : Word} {k : Nat} (h : w.getLsbD k = true ∨ w.getLsbD (k + 1) = true) :
    w.extractLsb' k 2 ≠ 0#2 := by
  intro e
  have bit0 := congrArg (·.getLsbD 0) e
  have bit1 := congrArg (·.getLsbD 1) e
  simp only [BitVec.getLsbD_extractLsb', BitVec.getLsbD_zero] at bit0 bit1
  rcases h with h | h <;> simp [h] at bit0 bit1

theorem extractLsb'_toNat_eq (w : Word) (start len : Nat) :
    (w.extractLsb' start len).toNat = w.toNat / 2 ^ start % 2 ^ len := by
  rw [BitVec.extractLsb'_toNat, Nat.shiftRight_eq_div_pow]

theorem exists_error {x : Except DecodeError Instr} (h : ∀ i, x ≠ .ok i) : ∃ e, x = .error e := by
  cases x with
  | error e => exact ⟨e, rfl⟩
  | ok i => exact absurd rfl (h i)

/-! The reserved encodings. -/

section
variable {w0 w1 : Word}

theorem decode_ne_ok_of_bit0 (hop : (opcode8 w0).toNat < 0x40) (h0 : w0.getLsbD 0 = true) (i : Instr) : decode w0 w1 ≠ .ok i := by
  intro h
  have field := extractLsb'_one_iff.mpr h0
  rcases decode_ok_cases h with ⟨-, h⟩ | ⟨-, -, h⟩ | ⟨hop', -, -⟩ | ⟨hop', -⟩
  case inl =>
    obtain ⟨form, -, hzero, -⟩ := decodeCtrl_ok_iff.mp h
    exact hzero field
  case inr.inl =>
    obtain ⟨form, -, hzero, -⟩ := decodeCobr_ok_iff.mp h
    exact hzero field
  all_goals omega

theorem decode_ne_ok_of_test_literal (hop : 0x20 ≤ (opcode8 w0).toNat) (hop' : (opcode8 w0).toNat < 0x28)
    (h13 : w0.getLsbD 13 = true) (i : Instr) : decode w0 w1 ≠ .ok i := by
  intro h
  rw [decode_eq_cobr hop (by omega)] at h
  obtain ⟨form, row, -, hdst, -⟩ := decodeCobr_ok_iff.mp h
  exact hdst (cobrTable_isTest_of_lt _ (findOpcode_mem row) hop') (extractLsb'_one_iff.mpr h13)

section
variable (hop : 0x40 ≤ (opcode8 w0).toNat) (hop' : (opcode8 w0).toNat < 0x80)
include hop hop'

theorem decode_ne_ok_of_special (h : w0.getLsbD 5 = true ∨ w0.getLsbD 6 = true) (i : Instr) : decode w0 w1 ≠ .ok i := by
  intro hi
  rw [decode_eq_reg hop hop'] at hi
  obtain ⟨form, -, hflags, -⟩ := decodeReg_ok_iff.mp hi
  exact extractLsb'_two_ne h hflags

/-- M3 is a literal destination wherever the row has a src/dst operand (notes/assumptions/52.md). -/
theorem decode_ok_hasDst (h13 : w0.getLsbD 13 = true) {i : Instr} (h : decode w0 w1 = .ok i) :
    ∃ row ∈ regTable, row.1 = (opcode12 w0).toNat ∧ row.2.hasDst = false := by
  rw [decode_eq_reg hop hop'] at h
  obtain ⟨form, row, -, hdst, -⟩ := decodeReg_ok_iff.mp h
  refine ⟨_, findOpcode_mem row, rfl, ?_⟩
  by_contra hhas
  exact hdst (by simpa using hhas) (extractLsb'_one_iff.mpr h13)

theorem decode_ok_reg_listed {i : Instr} (h : decode w0 w1 = .ok i) : (opcode12 w0).toNat ∈ regTable.map Prod.fst := by
  rw [decode_eq_reg hop hop'] at h
  obtain ⟨form, row, -⟩ := decodeReg_ok_iff.mp h
  exact findOpcode_listed row

end

theorem decode_ok_memb_fields (hop : 0x80 ≤ (opcode8 w0).toNat) (h12 : w0.getLsbD 12 = true) {i : Instr}
    (h : decode w0 w1 = .ok i) :
    w0.extractLsb' 5 2 = 0#2 ∧ (w0.extractLsb' 7 3).toNat < 5 ∧ w0.extractLsb' 10 4 ≠ 6#4 := by
  rw [decode_eq_mem hop] at h
  obtain ⟨form, m, -, hm, -⟩ := decodeMem_ok_iff.mp h
  rw [memOperand, if_pos (extractLsb'_one_iff.mpr h12)] at hm
  exact membOperand_ok hm

/-- The 8-bit opcode of a word that decodes: that of a listed row, for a REG word the first two digits of it. -/
theorem decode_ok_opcode8 {i : Instr} (h : decode w0 w1 = .ok i) :
    (opcode8 w0).toNat ∈ ctrlTable.map Prod.fst ∨ (opcode8 w0).toNat ∈ cobrTable.map Prod.fst ∨
      (0x58 ≤ (opcode8 w0).toNat ∧ (opcode8 w0).toNat < 0x80) ∨ (opcode8 w0).toNat ∈ memTable.map Prod.fst := by
  rcases decode_ok_cases h with ⟨-, h⟩ | ⟨-, -, h⟩ | ⟨hop, hop', h⟩ | ⟨-, h⟩
  case inl =>
    obtain ⟨form, row, -⟩ := decodeCtrl_ok_iff.mp h
    exact .inl (findOpcode_listed row)
  case inr.inl =>
    obtain ⟨form, row, -⟩ := decodeCobr_ok_iff.mp h
    exact .inr (.inl (findOpcode_listed row))
  case inr.inr.inl =>
    obtain ⟨form, row, -⟩ := decodeReg_ok_iff.mp h
    have range := regTable_opcodes _ (findOpcode_listed row)
    have digits := opcode12_div w0
    exact .inr (.inr (.inl (by omega)))
  case inr.inr.inr =>
    obtain ⟨form, m, row, -⟩ := decodeMem_ok_iff.mp h
    exact .inr (.inr (.inr (findOpcode_listed row)))

end

/-- Settles O54: each clause is what a decoder that accepts the word would say of its opcode or of a field. -/
theorem reservedEncodingsRefused : Obligations.ReservedEncodingsRefused := by
  unfold Obligations.ReservedEncodingsRefused
  intro w0 w1
  rw [← opcode12_toNat, ← opcode8_toNat]
  refine ⟨fun i => decode_wellFormed, fun hop h0 => exists_error (decode_ne_ok_of_bit0 hop h0),
    fun hop hop' h13 => exists_error (decode_ne_ok_of_test_literal hop hop' h13),
    fun hop hop' => ⟨fun h => exists_error (decode_ne_ok_of_special hop hop' h),
      fun h13 hlist => exists_error fun i hi => ?literal⟩,
    fun hop hop' hlist => exists_error fun i hi => hlist (decode_ok_reg_listed (by omega) hop' hi),
    fun hop h12 hres => exists_error fun i hi => ?memb, fun hres => exists_error fun i hi => ?opcode⟩
  case literal =>
    obtain ⟨row, hrow, hnum, hdst⟩ := decode_ok_hasDst hop hop' h13 hi
    exact hlist (hnum ▸ regTable_hasDst_false row hrow hdst)
  case memb =>
    obtain ⟨hzero, hscale, hmode⟩ := decode_ok_memb_fields hop h12 hi
    rcases hres with h | h | h | h
    · exact extractLsb'_two_ne (.inl h) hzero
    · exact extractLsb'_two_ne (.inr h) hzero
    · rw [extractLsb'_toNat_eq] at hscale; omega
    · exact hmode (BitVec.eq_of_toNat_eq ((extractLsb'_toNat_eq _ _ _).trans h))
  case opcode =>
    rcases decode_ok_opcode8 hi with h | h | h | h
    · have range := ctrlTable_opcodes _ h; omega
    · have range := cobrTable_opcodes _ h; omega
    · omega
    · have range := memTable_opcodes _ h
      rcases hres with hres | hres | hres | hres | ⟨-, unlisted⟩
      case inr.inr.inr.inr => exact unlisted h
      all_goals omega

/-- Settles O55: the decoder evaluates on each word. -/
theorem decodesWrittenWords : Obligations.DecodesWrittenWords := by
  unfold Obligations.DecodesWrittenWords
  decide

end Sys2Proof
end

section
/-! `lda` and the effective addresses (30_encoding R149 to R152; 40_data_movement R213). -/

namespace Sys2Proof.Machine

/-- What a field that names a register other than r2 reads. -/
theorem State.src_of_ne (s : State) (site : Nat) {n : RegNum} (h : n ≠ 2) : s.src site n = s.reg n := by
  rw [State.src, s.srcSlot_of_ne site h, State.reg]

/-- A shift by the count of a scale is the product with its factor, modulo 2^32 (30_encoding R151). -/
theorem shiftLeft_scaleShift (x : Word) {sc : Scale} {k : Nat}
    (h : (sc, k) ∈ [(Scale.x1, 1), (Scale.x2, 2), (Scale.x4, 4), (Scale.x8, 8), (Scale.x16, 16)]) :
    x <<< scaleShift sc = BitVec.ofNat 32 (x.toNat * k) := by
  have hk : k = 2 ^ scaleShift sc := by cases sc <;> simpa [scaleShift] using h
  apply BitVec.eq_of_toNat_eq
  rw [BitVec.toNat_shiftLeft, Nat.shiftLeft_eq, BitVec.toNat_ofNat, hk]

/-- `lda` completes: the destination holds the effective address. -/
theorem execLda_next {src : MemOperand} {dst : RegNum} {s : State} (hu : s.untraced) (hd : dst ≠ 2) :
    execLda src dst s = .next ((s.setReg dst (efa src s)).after (memLength src) false) := by
  refine run_after (d := {}) ?_ hu (by simpa [State.setReg] using hu.2) rfl rfl rfl
  rw [M.bind_ok (checkDst_ok dst s hd), M.bind_ok (M.modify_run _ s), M.pure_run]

/-- Settles O18: `lda` writes `efa`, whose sums modulo 2^32 are those of the numbers. -/
theorem effectiveAddresses : Obligations.EffectiveAddresses := by
  unfold Obligations.EffectiveAddresses
  refine ⟨fun src dst s hu hd => ?lda, fun b i off d s hb hi => ?modes⟩
  case lda =>
    refine ⟨_, execLda_next hu hd, ?_, ?_, ?_, State.changesOnly_after (s.changesOnly_setSlot dst _) _ _⟩ <;>
      simp [State.setReg]
  case modes =>
    simp only [efa, s.src_of_ne _ hb, s.src_of_ne _ hi, BitVec.ofNat_add, BitVec.ofNat_toNat, BitVec.setWidth_eq,
      true_and]
    exact ⟨rfl, fun p hp => by simp only [shiftLeft_scaleShift _ hp, and_self]⟩

end Sys2Proof.Machine
end

section
/-! SEL<cc> (40_data_movement R230). -/

namespace Sys2Proof.Machine

/-- The condition of a mask: a bit in common with AC.cc, or the mask 0 on AC.cc = 0 (10_state R37). -/
theorem cond_iff (mask : BitVec 3) (s : State) : cond mask s = true ↔ mask &&& s.cc ≠ 0 ∨ mask = s.cc := by
  simp [cond]

/-- The word that SEL<cc> selects. -/
def selected (mask : BitVec 3) (src1 src2 : Operand) (s : State) : Word :=
  if mask &&& s.cc ≠ 0 ∨ mask = s.cc then operandValue src2 Site.src2 s else operandValue src1 Site.src1 s

theorem select_ok (mask : BitVec 3) (src1 src2 : Operand) {dst : RegNum} (s : State) (hd : dst ≠ 2) :
    select mask src1 src2 dst s = .ok {} (s.setReg dst (selected mask src1 src2 s)) := by
  rw [select, M.bind_ok (checkDst_ok dst s hd), M.bind_ok (M.get_run s)]
  simp only [cond_iff]
  rfl

/-- The eight forms differ in their mask alone (40_data_movement R231 to R238). -/
theorem exec_select (src1 src2 : Operand) (dst : RegNum) (s : State) :
    ∀ p ∈ ([(0, Instr.selno), (1, Instr.selg), (2, Instr.sele), (3, Instr.selge), (4, Instr.sell), (5, Instr.selne),
      (6, Instr.selle), (7, Instr.selo)] : List (BitVec 3 × (Operand → Operand → RegNum → Instr))),
    exec (p.2 src1 src2 dst) s = run 4 (select p.1 src1 src2 dst) s := by
  simp only [List.forall_mem_cons, List.not_mem_nil, false_imp_iff, implies_true, and_true]
  exact ⟨rfl, rfl, rfl, rfl, rfl, rfl, rfl, rfl⟩

/-- Settles O7: each form writes the selected operand to its destination and nothing else. -/
theorem selectResults : Obligations.SelectResults := by
  unfold Obligations.SelectResults
  intro p hp src1 src2 dst s hu hd
  have completes := run_after (len := 4) (select_ok p.1 src1 src2 s hd) hu ((s.setSlot_trace _ _).symm ▸ hu.2) rfl rfl rfl
  exact ⟨_, (exec_select src1 src2 dst s p hp).trans completes, s.slot_setSlot_self dst _, s.setSlot_ac _ _,
    congrArg (· + 4) (s.setSlot_ip _ _), State.changesOnly_after (s.changesOnly_setSlot dst _) 4 false⟩

end Sys2Proof.Machine
end

section
/-! Moves of register groups and literals (40_data_movement R214 to R218). -/

namespace Sys2Proof.Machine

/-! Alignment of groups (10_state R27). -/

theorem misaligned_iff {n : RegNum} {alignment : Nat} : misaligned n alignment = true ↔ n.toNat % alignment ≠ 0 :=
  bne_iff_ne

theorem misaligned_eq_false_iff {n : RegNum} {alignment : Nat} :
    misaligned n alignment = false ↔ n.toNat % alignment = 0 := bne_eq_false_iff_eq

/-! What a move copies. -/

section
variable (s : State) {count i : Nat}

theorem length_moveSlots (o : Operand) (h : 0 < count) : (moveSlots o count s).length = count := by
  cases o with
  | reg n => exact s.length_group _ n count
  | lit v => simp only [moveSlots, List.length_cons, List.length_replicate]; omega

theorem moveSlots_reg_getElem? {n : RegNum} (hi : i < count) (h2 : n + BitVec.ofNat 5 i ≠ 2) :
    (moveSlots (.reg n) count s)[i]? = some (s.slot (n + BitVec.ofNat 5 i)) := by
  rw [moveSlots, s.group_getElem? _ n count hi, s.srcSlot_of_ne _ h2]

theorem moveSlots_lit_getElem? (v : BitVec 5) (hi : i < count) :
    (moveSlots (.lit v) count s)[i]? = some (.val (if i = 0 then v.zeroExtend 32 else 0)) := by
  cases i with
  | zero => rfl
  | succ i =>
    have hi' : i < count - 1 := by omega
    simp only [moveSlots, List.getElem?_cons_succ, List.getElem?_replicate_of_lt hi', Nat.add_one_ne_zero, if_false]

end

/-! The instructions. -/

section
variable (o : Operand) (d : RegNum) (s : State)

/-- The four moves differ in the size and the alignment of their groups. -/
theorem exec_move : ∀ p ∈ ([(1, 1, Instr.mov), (2, 2, Instr.movl), (3, 4, Instr.movt), (4, 4, Instr.movq)] :
      List (Nat × Nat × (Operand → RegNum → Instr))), exec (p.2.2 o d) s = run 4 (moveGroup p.1 p.2.1 o d) s := by
  simp only [List.forall_mem_cons, List.not_mem_nil, false_imp_iff, implies_true, and_true]
  exact ⟨rfl, rfl, rfl, rfl⟩

variable {o d s} {count alignment : Nat}

/-- An aligned group of a move lies within its register file. -/
theorem move_fits : ∀ p ∈ ([(1, 1, Instr.mov), (2, 2, Instr.movl), (3, 4, Instr.movt), (4, 4, Instr.movq)] :
      List (Nat × Nat × (Operand → RegNum → Instr))), d.toNat % p.2.1 = 0 → 0 < p.1 ∧ d.toNat % 16 + p.1 ≤ 16 := by
  simp only [List.forall_mem_cons, List.not_mem_nil, false_imp_iff, implies_true, and_true]
  omega

theorem moveGroup_ok (ho : operandMisaligned o alignment = false) (hd : misaligned d alignment = false)
    (h2 : ∀ i < count, d + BitVec.ofNat 5 i ≠ 2) :
    moveGroup count alignment o d s = .ok {} (s.setGroup d 0 (moveSlots o count s)) := by
  rw [moveGroup, ho, hd]
  exact M.bind_ok (checkDst_group_ok s h2)

/-- A move between aligned groups, or of a literal, leaves in its destination what it copies. -/
theorem run_moveGroup (hu : s.untraced) (ho : operandMisaligned o alignment = false)
    (hd : misaligned d alignment = false) (h2 : ∀ i < count, d + BitVec.ofNat 5 i ≠ 2) (h0 : 0 < count)
    (fits : d.toNat % 16 + count ≤ 16) : ∃ t, run 4 (moveGroup count alignment o d) s = .next t ∧
      (∀ i v, (moveSlots o count s)[i]? = some v → t.slot (d + BitVec.ofNat 5 i) = v) ∧ t.ac = s.ac ∧ t.ip = s.ip + 4 ∧
      s.changesOnly t ((List.range count).map fun i => d + BitVec.ofNat 5 i) := by
  have len := length_moveSlots s o h0
  have fits' : d.toNat % 16 + (0 + (moveSlots o count s).length) ≤ 16 := by rwa [len, Nat.zero_add]
  have regs := s.changesOnly_setGroup d 0 _ fits'
  rw [len, groupRegs, ← List.range_eq_range'] at regs
  refine ⟨_, run_after (moveGroup_ok ho hd h2) hu ((s.setGroup_trace _ _ _).symm ▸ hu.2) rfl rfl rfl, fun i v hv => ?_,
    s.setGroup_ac _ _ _, congrArg (· + 4) (s.setGroup_ip _ _ _), State.changesOnly_after regs 4 false⟩
  simpa using s.slot_setGroup d 0 _ fits' hv

/-- A misaligned group leaves free values in the destination (40_data_movement R214). -/
theorem run_moveGroup_misaligned (h : operandMisaligned o alignment = true ∨ misaligned d alignment = true) :
    run 4 (moveGroup count alignment o d) s = (s.setGroup d 0 (freeSlots s.free count)).raised 4 .invalidOperand :=
  run_undefined d s (by rw [moveGroup, if_pos (Bool.or_eq_true_iff.mpr h)])

end

/-- Settles O17: a move leaves `moveSlots` of its source in its destination group. -/
theorem moveResults : Obligations.MoveResults := by
  unfold Obligations.MoveResults
  intro p hp n d v s hu hd h2
  obtain ⟨h0, fits⟩ := move_fits p hp hd
  simp only [exec_move _ d s p hp]
  have hd' := misaligned_eq_false_iff.mpr hd
  refine ⟨fun hn => ?group, ?literal⟩
  case group =>
    obtain ⟨t, e, slots, rest⟩ := run_moveGroup hu (operandMisaligned_reg hn) hd' h2 h0 fits
    exact ⟨t, e, fun i hi hi2 => slots i _ (moveSlots_reg_getElem? s hi hi2), rest⟩
  case literal =>
    obtain ⟨t, e, slots, rest⟩ := run_moveGroup (o := .lit v) hu rfl hd' h2 h0 fits
    exact ⟨t, e, fun i hi => slots i _ (moveSlots_lit_getElem? s v hi), rest⟩

end Sys2Proof.Machine
end

section
/-! Misaligned register groups (40_data_movement R201, R214; 10_state R27). -/

namespace Sys2Proof.Machine

section
variable {m : MemOperand} {r : RegNum} {s : State} {count alignment bits : Nat}

/-- A load checks its register number before all else. -/
theorem run_loadGroup_misaligned (h : r.toNat % alignment ≠ 0) :
    run (memLength m) (loadGroup count alignment bits m r) s = s.raised (memLength m) .invalidOperand :=
  run_raised (by rw [loadGroup, misaligned_iff.mpr h]; rfl)

/-- A store checks protection, then its register number, and then writes (40_data_movement R202). -/
theorem run_storeGroup_misaligned (h : r.toNat % alignment ≠ 0) (hm : (efa m s).toNat < 0xFF000000)
    (hp : s.protectedIn s.supervisor (efa m s) (4 * count) = false) :
    run (memLength m) (storeGroup count alignment bits r m) s = s.raised (memLength m) .invalidOperand := by
  have hmmr : regionOf (efa m s) ≠ .mmr := fun e => by rw [regionOf_eq_mmr_iff] at e; omega
  refine run_raised ?_
  rw [storeGroup, M.bind_ok (M.get_run s), misaligned_iff.mpr h]
  exact M.bind_ok (checkProtected_ok _ _ s hmmr hp)

end

/-- Settles O24: the check of the register number raises before a load or a store has an effect; a move leaves free
values first. -/
theorem misalignedGroupFaults : Obligations.MisalignedGroupFaults := by
  unfold Obligations.MisalignedGroupFaults
  refine fun r n m s => ⟨fun hr => ⟨run_loadGroup_misaligned hr, run_storeGroup_misaligned (count := 2) hr⟩,
    fun hr => ⟨run_loadGroup_misaligned hr, run_loadGroup_misaligned hr,
      fun hm => ⟨run_storeGroup_misaligned (count := 3) hr hm, run_storeGroup_misaligned (count := 4) hr hm⟩⟩,
    fun p hp => ?moves⟩
  case moves =>
    simp only [exec_move _ r s p (List.mem_cons_of_mem _ hp)]
    exact ⟨fun h => run_moveGroup_misaligned (h.symm.imp misaligned_iff.mpr misaligned_iff.mpr),
      fun hr v => run_moveGroup_misaligned (.inr (misaligned_iff.mpr hr))⟩

end Sys2Proof.Machine
end

section
/-! Integer stores: `stib` and `stis` (40_data_movement R222, R225, R226). -/

namespace Sys2Proof.Machine

/-! The overflow test. -/

/-- The test of a store of one or two bytes finds no overflow where the discarded bits are all 0 or all 1
(40_data_movement R222). -/
theorem storeOverflows_eq_false_iff {bytes : Nat} (hb : bytes = 1 ∨ bytes = 2) (v : Word) :
    storeOverflows (8 * bytes) v = false ↔
      v.toNat / 2 ^ (8 * bytes) = 0 ∨ v.toNat / 2 ^ (8 * bytes) = 2 ^ (32 - 8 * bytes) - 1 := by
  have zero : v >>> (8 * bytes) = 0 ↔ v.toNat / 2 ^ (8 * bytes) = 0 := by
    rw [← BitVec.toNat_inj, BitVec.toNat_ushiftRight, Nat.shiftRight_eq_div_pow]; rfl
  have ones : v.sshiftRight (8 * bytes) = BitVec.allOnes 32 ↔
      v.toNat / 2 ^ (8 * bytes) = 2 ^ (32 - 8 * bytes) - 1 := by
    have hv := v.isLt
    rw [← BitVec.toInt_inj, BitVec.toInt_sshiftRight, Int.shiftRight_eq_div_pow, BitVec.toInt_eq_toNat_cond,
      show (BitVec.allOnes 32).toInt = -1 from rfl]
    obtain rfl | rfl := hb <;> split <;> omega
  simp only [storeOverflows, Bool.and_eq_false_iff, bne_eq_false_iff_eq, Bool.not_eq_false', beq_iff_eq, zero, ones]

/-! What the test does (10_state R39). -/

section
variable (s : State)

theorem overflowIf_false : overflowIf false s = .ok () s := rfl

theorem overflowIf_masked (h : s.ac.getLsbD 12 = true) : overflowIf true s = .ok () s.setOverflowFlag := by
  have om : s.overflowMasked = true := h
  simp [overflowIf, integerOverflow, M.bind_run, om]

theorem overflowIf_raises (h : s.ac.getLsbD 12 = false) : overflowIf true s = .error (.raise .overflow) s := by
  have om : s.overflowMasked = false := h
  simp [overflowIf, integerOverflow, M.bind_run, om]

end

/-! The instructions. -/

/-- The outcome of an integer store that was made in full, leading from `s` to `u`: what remains is the overflow test of
the register's word `w`. -/
def State.storedInteger (s u : State) (len : Word) (n : Nat) (w : Word) : Host.Outcome State Fault Refusal :=
  run len (set u >>= fun _ => overflowIf (storeOverflows n w) >>= fun _ => pure {}) s

/-- What `stib` and `stis` come to: the store, its alignment check passed, and then the overflow test. -/
theorem exec_storeInteger_writable {m : MemOperand} {r : RegNum} {s : State} :
    ∀ p ∈ ([(1, 0, Instr.stib, State.poke1), (2, 1, Instr.stis, State.poke16)] :
      List (Nat × Nat × (RegNum → MemOperand → Instr) × (State → Word → Slot → State))),
    s.mem.wf = true → s.writable (efa m s) p.1 → s.protectedIn s.supervisor (efa m s) p.1 = false →
    s.alignedFor (efa m s) p.2.1 →
    s.Stored (p.2.2.2 s (efa m s) (s.srcSlot Site.srcDst r)) (efa m s) p.1 (s.srcSlot Site.srcDst r) ∧
    exec (p.2.2.1 r m) s = s.storedInteger (p.2.2.2 s (efa m s) (s.srcSlot Site.srcDst r)) (memLength m) (8 * p.1)
      (s.srcSlot Site.srcDst r).get := by
  simp only [List.forall_mem_cons, List.not_mem_nil, false_imp_iff, implies_true, and_true]
  refine ⟨fun hm hw hp ha => ⟨State.stored_poke1 _ hm hw, run_congr ?_⟩,
    fun hm hw hp ha => ⟨State.stored_poke16 _ hm hw, run_congr ?_⟩⟩
  · rw [M.bind_ok (M.get_run s), M.bind_ok (storeItem_ok State.poke1 hw hp), M.bind_ok (M.set_run _ s)]
    rfl
  · have frame := s.poke16_frame (efa m s) (s.srcSlot Site.srcDst r)
    rw [M.bind_ok (M.get_run s), M.bind_ok (storeItem_ok State.poke16 hw hp), M.bind_ok (M.set_run _ s)]
    exact M.bind_ok (unalignedTrap_ok _ 1 _ (by rwa [State.alignedFor, frame.unalignedMasked]))

section
variable {s u : State} (frame : s.StoreFrame u) (len : Word) {n : Nat} {w : Word}
include frame

theorem State.storedInteger_next (hu : s.untraced) (h : storeOverflows n w = false) :
    s.storedInteger u len n w = .next (u.after len false) := by
  refine run_after (d := {}) ?_ hu (frame.trace ▸ hu.2) rfl rfl rfl
  rw [M.bind_ok (M.set_run u s), h]
  exact M.bind_ok (overflowIf_false u)

theorem State.storedInteger_masked (hu : s.untraced) (h : storeOverflows n w = true) (hm : s.ac.getLsbD 12 = true) :
    s.storedInteger u len n w = .next (u.setOverflowFlag.after len false) := by
  refine run_after (d := {}) ?_ hu (frame.trace ▸ hu.2) rfl rfl rfl
  rw [M.bind_ok (M.set_run u s), h]
  exact M.bind_ok (overflowIf_masked u (frame.ac ▸ hm))

theorem State.storedInteger_raises (h : storeOverflows n w = true) (hm : s.ac.getLsbD 12 = false) :
    s.storedInteger u len n w = u.raised len .overflow := by
  rw [State.raised, frame.ip]
  refine run_raise len _ s u .overflow ?_
  rw [M.bind_ok (M.set_run u s), h]
  exact M.bind_error (overflowIf_raises u (frame.ac ▸ hm))

end

/-- Settles O21: the bytes are stored, and then the overflow test has one of its three outcomes. -/
theorem integerStoreResults : Obligations.IntegerStoreResults := by
  unfold Obligations.IntegerStoreResults
  intro p hp r m s hwf hw hprot ha v hv u hu
  have width : p.1 = 1 ∨ p.1 = 2 := by
    simp only [List.mem_cons, List.not_mem_nil, or_false] at hp
    exact hp.imp (congrArg Prod.fst) (congrArg Prod.fst)
  obtain ⟨stored, e⟩ := exec_storeInteger_writable (r := r) p hp hwf hw hprot ha
  rw [← hv, ← hu] at stored e
  have frame := stored.frame
  have only := frame.storesOnly stored.others
  rw [e, ← storeOverflows_eq_false_iff width, Bool.not_eq_false]
  refine ⟨stored.bytes, only, frame.ip, frame.ac, fun fits hunt => ?fits,
    fun hover => ⟨fun hom hunt => ?masked, fun hom => ?raises⟩⟩
  case fits => exact ⟨_, State.storedInteger_next frame _ hunt fits, rfl, frame.ac, congrArg (· + _) frame.ip, only⟩
  case masked =>
    exact ⟨_, State.storedInteger_masked frame _ hunt hover hom, rfl, congrArg (· ||| 0x100) frame.ac,
      congrArg (· + _) frame.ip, only⟩
  case raises => exact State.storedInteger_raises frame _ hover hom

end Sys2Proof.Machine
end

section
/-! Register results of arithmetic: what an instruction that writes one register comes to, with and without the test for
integer overflow (10_state R39, 41_arithmetic R260 to R263). -/

namespace Sys2Proof.Machine

/-! The integers of 32 bits. -/

theorem fitsInt_iff {v : Int} : fitsInt v = true ↔ -2147483648 ≤ v ∧ v ≤ 2147483647 := decide_eq_true_iff

theorem toInt_bounds (x : Word) : -2147483648 ≤ x.toInt ∧ x.toInt ≤ 2147483647 :=
  ⟨x.le_toInt, Int.le_of_lt_add_one x.toInt_lt⟩

/-! The state that such an instruction leads to. -/

section
variable {o : Host.Outcome State Fault Refusal} {s : State} {d : RegNum} {v : Word}

/-- An outcome that is the write of one register and the end of the instruction. -/
theorem register_result (h : o = .next ((s.setReg d v).after 4 false)) :
    ∃ t, o = .next t ∧ t.slot d = .val v ∧ t.ac = s.ac ∧ t.ip = s.ip + 4 ∧ s.changesOnly t [d] :=
  ⟨_, h, s.slot_setSlot_self d _, s.setSlot_ac d _, congrArg (· + 4) (s.setSlot_ip d _),
    State.changesOnly_after (s.changesOnly_setSlot d _) 4 false⟩

/-- An instruction whose action comes to the write of one register. -/
theorem run_setReg {action : M Done} (hu : s.untraced) (h : action s = .ok {} (s.setReg d v)) :
    run 4 action s = .next ((s.setReg d v).after 4 false) :=
  run_after h hu ((s.setSlot_trace d _).symm ▸ hu.2) rfl rfl rfl

/-- An instruction that raises a fault in a state with the IP of the beginning. -/
theorem run_raised_in {action : M Done} {t : State} {k : FaultKind} (h : action s = .error (.raise k) t) (hip : t.ip = s.ip) :
    run 4 action s = t.raised 4 k := by
  rw [State.raised, hip]
  exact run_raise 4 action s t k h

end

/-! Results with an overflow test. -/

/-- The outcome of an instruction that writes `w` to `d` and then, where `overflows` holds, performs `integer_overflow()`. -/
def State.integerResult (s : State) (d : RegNum) (w : Word) (overflows : Bool) : Host.Outcome State Fault Refusal :=
  run 4 (set (s.setReg d w) >>= fun _ => overflowIf overflows >>= fun _ => pure {}) s

/-- The two outcomes of an integer overflow after `w` was written to `d`: with AC.om set the instruction completes with AC.of
set, else it raises ARITHMETIC.OVERFLOW (10_state R39). -/
def State.OverflowsTo (s : State) (o : Host.Outcome State Fault Refusal) (d : RegNum) (w : Word) : Prop :=
  (s.ac.getLsbD 12 = true → s.untraced → ∃ t, o = .next t ∧ t.slot d = .val w ∧ t.ac = s.ac ||| 0x100 ∧
    t.ip = s.ip + 4 ∧ s.changesOnly t [d]) ∧
  (s.ac.getLsbD 12 = false → o = (s.setReg d w).raised 4 .overflow)

section
variable {o : Host.Outcome State Fault Refusal} {s : State} {d : RegNum} {w : Word}

theorem State.integerResult_next (hu : s.untraced) :
    s.integerResult d w false = .next ((s.setReg d w).after 4 false) :=
  run_setReg hu rfl

theorem State.overflowsTo_of_integerResult (h : o = s.integerResult d w true) : s.OverflowsTo o d w := by
  have hac : (s.setReg d w).ac = s.ac := s.setSlot_ac d _
  have hip : (s.setReg d w).ip = s.ip := s.setSlot_ip d _
  subst h
  refine ⟨fun hom hu => ?masked, fun hom => ?raises⟩
  case masked =>
    have flag := M.bind_ok (f := fun _ => (pure {} : M Done)) (overflowIf_masked (s.setReg d w) (hac.symm ▸ hom))
    exact ⟨_, run_after ((M.bind_ok (M.set_run (s.setReg d w) s)).trans flag) hu ((s.setSlot_trace d _).symm ▸ hu.2)
      rfl rfl rfl, s.slot_setSlot_self d _, congrArg (· ||| 0x100) hac, congrArg (· + 4) hip,
      State.changesOnly_after (s.changesOnly_setSlot d _) 4 false⟩
  case raises =>
    exact run_raised_in ((M.bind_ok (M.set_run (s.setReg d w) s)).trans
      (M.bind_error (overflowIf_raises (s.setReg d w) (hac.symm ▸ hom)))) hip

end

/-- The outcome of an instruction that computes the integer `v` exactly: it writes the low 32 bits to `d`, and overflows where
`v` does not fit in them. -/
def State.exactResult (s : State) (d : RegNum) (v : Int) : Host.Outcome State Fault Refusal :=
  s.integerResult d (BitVec.ofInt 32 v) (!fitsInt v)

section
variable {o : Host.Outcome State Fault Refusal} {s : State} {d : RegNum} {v : Int} (h : o = s.exactResult d v)
include h

theorem next_of_exactResult (hu : s.untraced) (fits : -2147483648 ≤ v ∧ v ≤ 2147483647) :
    o = .next ((s.setReg d (BitVec.ofInt 32 v)).after 4 false) := by
  rw [h, State.exactResult, fitsInt_iff.mpr fits]
  exact s.integerResult_next hu

theorem overflowsTo_of_exactResult (tooBig : ¬ (-2147483648 ≤ v ∧ v ≤ 2147483647)) :
    s.OverflowsTo o d (BitVec.ofInt 32 v) := by
  refine State.overflowsTo_of_integerResult ?_
  rw [h, State.exactResult, Bool.eq_false_iff.mpr (tooBig ∘ fitsInt_iff.mp)]
  rfl

end

end Sys2Proof.Machine
end

section
/-! addo, subo, mulo, the shifts but shli, and rotate (41_arithmetic R284, R304, R306, R316 to R321). -/

namespace Sys2Proof.Machine

/-- Differences of integers and of words agree, modulo `2 ^ n`. -/
theorem ofInt_sub {n : Nat} (x y : Int) : BitVec.ofInt n (x - y) = BitVec.ofInt n x - BitVec.ofInt n y := by
  rw [Int.sub_eq_add_neg, BitVec.ofInt_add, BitVec.ofInt_neg, BitVec.sub_eq_add_neg]

/-! Ordinals wrap (R260). -/

theorem add_eq_ofNat (a b : Word) : b + a = BitVec.ofNat 32 (b.toNat + a.toNat) :=
  BitVec.eq_of_toNat_eq (by simp)

theorem sub_eq_ofInt (a b : Word) : b - a = BitVec.ofInt 32 ((b.toNat : Int) - a.toNat) := by
  rw [ofInt_sub, BitVec.ofInt_natCast, BitVec.ofInt_natCast, BitVec.ofNat_toNat, BitVec.ofNat_toNat, BitVec.setWidth_eq,
    BitVec.setWidth_eq]

theorem mul_eq_ofNat (a b : Word) : b * a = BitVec.ofNat 32 (b.toNat * a.toNat) :=
  BitVec.eq_of_toNat_eq (by simp)

/-! A length above 32 acts as 32 (R315). -/

theorem shiftLeft_bounded (v : Word) (n : Nat) : (if n < 32 then v <<< n else 0) = v <<< n := by
  split
  · rfl
  · exact (BitVec.shiftLeft_eq_zero (by omega)).symm

theorem ushiftRight_bounded (v : Word) (n : Nat) : (if n < 32 then v >>> n else 0) = v >>> n := by
  split
  · rfl
  · exact (BitVec.ushiftRight_eq_zero (by omega)).symm

/-- Past a length of 32 every bit of the result is the sign. -/
theorem sshiftRight_shiftCount (v len : Word) : v.sshiftRight (shiftCount len) = v.sshiftRight len.toNat := by
  rcases Nat.le_total len.toNat 32 with h | h
  · rw [shiftCount, Nat.min_eq_left h]
  · rw [shiftCount, Nat.min_eq_right h]
    refine BitVec.eq_of_getLsbD_eq fun i hi => ?_
    rw [BitVec.getLsbD_sshiftRight, BitVec.getLsbD_sshiftRight, if_neg (by omega), if_neg (by omega)]

/-- No word has a quotient by 2^32 or a greater power but 0. -/
theorem tdiv_shiftCount (v len : Word) : v.toInt.tdiv (2 ^ shiftCount len) = v.toInt.tdiv (2 ^ len.toNat) := by
  rcases Nat.le_total len.toNat 32 with h | h
  · rw [shiftCount, Nat.min_eq_left h]
  · have small : v.toInt.natAbs < 2 ^ 32 := by have bounds := toInt_bounds v; omega
    have zero : ∀ n, 32 ≤ n → v.toInt.tdiv (2 ^ n) = 0 := fun n hn => by
      rw [← Int.natAbs_eq_zero, Int.natAbs_tdiv, Int.natAbs_pow]
      exact Nat.div_eq_of_lt (small.trans_le (Nat.pow_le_pow_right (by decide) hn))
    rw [shiftCount, Nat.min_eq_right h, zero 32 le_rfl, zero _ h]

/-- An instruction of the shape `binary` completes with the value that `f` agrees with. -/
theorem binary_result {f g : Word → Word → Word} (hfg : ∀ a b, f a b = g a b) (src1 src2 : Operand) {d : RegNum} {s : State}
    (hu : s.untraced) (hd : d ≠ 2) :
    ∃ t, run 4 (binary f src1 src2 d) s = .next t ∧
      t.slot d = .val (g (operandValue src1 Site.src1 s) (operandValue src2 Site.src2 s)) ∧
      t.ac = s.ac ∧ t.ip = s.ip + 4 ∧ s.changesOnly t [d] := by
  rw [← hfg]
  exact register_result (binary_next f src1 src2 d s hd hu)

/-- Settles O1: each instruction is of the shape `binary`, and its function is the one of the page. -/
theorem ordinalAndShiftResults : Obligations.OrdinalAndShiftResults := by
  unfold Obligations.OrdinalAndShiftResults
  simp only [List.forall_mem_cons, List.not_mem_nil, false_imp_iff, implies_true, and_true]
  refine ⟨?addo, ?subo, ?mulo, ?shlo, ?shro, ?shri, ?shrdi, ?rotate⟩ <;> intro a b d s hu hd
  case addo => exact binary_result add_eq_ofNat a b hu hd
  case subo => exact binary_result sub_eq_ofInt a b hu hd
  case mulo => exact binary_result mul_eq_ofNat a b hu hd
  case shlo => exact binary_result (fun len v => shiftLeft_bounded v len.toNat) a b hu hd
  case shro => exact binary_result (fun len v => ushiftRight_bounded v len.toNat) a b hu hd
  case shri => exact binary_result (fun len v => sshiftRight_shiftCount v len) a b hu hd
  case shrdi => exact binary_result (fun len v => congrArg (BitVec.ofInt 32) (tdiv_shiftCount v len)) a b hu hd
  case rotate => exact binary_result (fun len v => v.rotateLeft_mod_eq_rotateLeft) a b hu hd

end Sys2Proof.Machine
end

section
/-! addc and subc (41_arithmetic R283, R303). -/

namespace Sys2Proof.Machine

/-! AC.cc. -/

/-- A merge leaves the bits outside its mask. -/
theorem merge_and_not (mask new old : Word) : merge mask new old &&& ~~~mask = old &&& ~~~mask := by
  ext i hi
  simp only [merge, BitVec.getElem_and, BitVec.getElem_or, BitVec.getElem_not]
  cases mask[i] <;> simp

/-- A write of AC.cc leaves the other bits of AC. -/
theorem State.setsCc_setCc (s : State) (c : BitVec 3) : s.setsCc (s.setCc c) c := by
  refine ⟨?cc, merge_and_not _ _ _⟩
  ext i hi
  obtain rfl | rfl | rfl : i = 0 ∨ i = 1 ∨ i = 2 := by omega
  all_goals simp [State.cc, State.setCc, merge]

theorem carryCc_bits : ∀ carry overflow : Bool, (carryCc carry overflow).getLsbD 0 = overflow ∧
    (carryCc carry overflow).getLsbD 1 = carry ∧ (carryCc carry overflow).getLsbD 2 = false := by decide

/-! The sum. -/

/-- The 33 bits hold the sum of two words and a carry in full. -/
theorem carrySum_toNat (a b : Word) (carry : Bool) : (carrySum a b carry).toNat = b.toNat + a.toNat + carry.toNat := by
  have ha := a.isLt
  have hb := b.isLt
  have hc := carry.toNat_lt
  rw [carrySum, BitVec.toNat_add, BitVec.toNat_add, BitVec.toNat_setWidth, BitVec.toNat_setWidth, BitVec.toNat_setWidth,
    BitVec.toNat_ofBool]
  omega

/-- A sum of 33 bits is its low word and its carry. -/
theorem low_word_add_carry (x : BitVec 33) : (x.setWidth 32).toNat + 2 ^ 32 * (x.getLsbD 32).toNat = x.toNat := by
  have hx := x.isLt
  rw [BitVec.toNat_setWidth, BitVec.getLsbD, Nat.testBit_eq_decide_div_mod_eq]
  by_cases top : x.toNat / 2 ^ 32 % 2 = 1
  · rw [decide_eq_true top, Bool.toNat_true]; omega
  · rw [decide_eq_false top, Bool.toNat_false]; omega

/-! The instructions. -/

/-- An instruction that writes a register and AC.cc completes. -/
theorem run_setRegCc (v : State → Word) (c : State → BitVec 3) {d : RegNum} {s : State} (hu : s.untraced) (hd : d ≠ 2) :
    ∃ t, run 4 (checkDst d >>= fun _ => get >>= fun u => set ((u.setReg d (v u)).setCc (c u)) >>= fun _ => pure {}) s =
        .next t ∧
      t.slot d = .val (v s) ∧ s.setsCc t (c s) ∧ t.ip = s.ip + 4 ∧ s.changesOnly t [d] := by
  have written := (s.setReg d (v s)).setsCc_setCc (c s)
  rw [State.setsCc, show (s.setReg d (v s)).ac = s.ac from s.setSlot_ac d _] at written
  exact ⟨_, run_after (M.bind_ok (checkDst_ok d s hd)) hu ((s.setSlot_trace d _).symm ▸ hu.2) rfl rfl rfl,
    s.slot_setSlot_self d _, written, congrArg (· + 4) (s.setSlot_ip d _),
    State.changesOnly_after (State.changesOnly_withAc (s.changesOnly_setSlot d _) _) 4 false⟩

/-- Settles O4: the 33-bit sum is exact, and for subc the complement of src1 adds 2^32 - 1 - src1. -/
theorem carryArithmetic : Obligations.CarryArithmetic := by
  unfold Obligations.CarryArithmetic
  intro a b d s hu hd
  refine ⟨?addc, ?subc⟩
  case addc =>
    obtain ⟨t, e, hslot, ⟨hcc, hac⟩, hip, only⟩ := run_setRegCc _ _ hu hd
    obtain ⟨overflow, carry, zero⟩ := carryCc_bits _ _
    refine ⟨t, e, _, hslot, ?_, hcc ▸ overflow, hcc ▸ zero, hac, hip, only⟩
    rw [hcc, carry, low_word_add_carry, carrySum_toNat]
  case subc =>
    obtain ⟨t, e, hslot, ⟨hcc, hac⟩, hip, only⟩ := run_setRegCc _ _ hu hd
    obtain ⟨overflow, carry, zero⟩ := carryCc_bits _ _
    refine ⟨t, e, _, hslot, ?_, hcc ▸ overflow, hcc ▸ zero, hac, hip, only⟩
    have sum := low_word_add_carry (carrySum (~~~(operandValue a Site.src1 s)) (operandValue b Site.src2 s) (s.cc.getLsbD 1))
    rw [carrySum_toNat, BitVec.toNat_not] at sum
    rw [hcc, carry]
    omega

end Sys2Proof.Machine
end

section
/-! Division (41_arithmetic R263, R308 to R312, R314). -/

namespace Sys2Proof.Machine

/-! The remainders of integers. -/

theorem remainderInt_eq_tmod (a b : Word) : remainderInt a b = b.toInt.tmod a.toInt := by
  rw [remainderInt, quotientInt, Int.tmod_def, mul_comm]

/-- The remainder with the sign of the divisor is that with the sign of the dividend, moved by the divisor where the signs
differ and it is not 0 (R312). -/
theorem tmod_toward_divisor (x y : Int) :
    (if x * y < 0 ∧ x.tmod y ≠ 0 then x.tmod y + y else x.tmod y) = x.fmod y := by
  rw [Int.fmod_eq_tmod]
  simp only [mul_neg_iff]
  by_cases exactly : y ∣ x
  · have zero : x.tmod y = 0 := Int.tmod_eq_zero_of_dvd exactly
    simp [exactly, zero]
  · have rest : x.tmod y ≠ 0 := fun h => exactly (Int.dvd_of_tmod_eq_zero h)
    have dividend : x ≠ 0 := fun h => exactly (h ▸ dvd_zero y)
    simp only [if_neg exactly, rest, ne_eq, not_false_eq_true, and_true]
    split_ifs <;> omega

theorem moduloInt_eq_fmod (a b : Word) : moduloInt a b = b.toInt.fmod a.toInt := by
  rw [moduloInt, remainderInt_eq_tmod]
  exact tmod_toward_divisor _ _

/-! The shape `divideBy`. -/

theorem State.setGroup_single (s : State) (d : RegNum) (v : Slot) : s.setGroup d 0 [v] = s.setSlot d v := by
  rw [s.setGroup_cons v [] (by omega), BitVec.add_zero]
  rfl

section
variable {writes : Bool} (f : Word → Word → Word) (src1 src2 : Operand) {d : RegNum} {s : State} (hd : d ≠ 2)
include hd

theorem divideBy_ok (h : operandValue src1 Site.src1 s ≠ 0) : divideBy writes f src1 src2 d s =
    .ok {} (s.setReg d (f (operandValue src1 Site.src1 s) (operandValue src2 Site.src2 s))) := by
  rw [divideBy, M.bind_ok (checkDst_ok d s hd), M.bind_ok (M.get_run s)]
  simp only [if_neg h]
  rfl

theorem divideBy_zero_keeps (h : operandValue src1 Site.src1 s = 0) :
    divideBy false f src1 src2 d s = .error (.raise .zeroDivide) s := by
  rw [divideBy, M.bind_ok (checkDst_ok d s hd), M.bind_ok (M.get_run s)]
  simp only [if_pos h]
  rfl

theorem divideBy_zero_writes (h : operandValue src1 Site.src1 s = 0) : divideBy true f src1 src2 d s =
    .error (.raise .zeroDivide) (s.setSlot d (.free s.free (Site.result 0))) := by
  rw [divideBy, M.bind_ok (checkDst_ok d s hd), M.bind_ok (M.get_run s), ← s.setGroup_single]
  simp only [if_pos h]
  rfl

/-- A division by a divisor other than 0 completes with the value that `f` agrees with. -/
theorem divideBy_result {g : Word → Word → Word} (hfg : ∀ a b, f a b = g a b) (hu : s.untraced)
    (h : operandValue src1 Site.src1 s ≠ 0) :
    ∃ t, run 4 (divideBy writes f src1 src2 d) s = .next t ∧
      t.slot d = .val (g (operandValue src1 Site.src1 s) (operandValue src2 Site.src2 s)) ∧
      t.ac = s.ac ∧ t.ip = s.ip + 4 ∧ s.changesOnly t [d] := by
  rw [← hfg]
  exact register_result (run_setReg hu (divideBy_ok f src1 src2 hd h))

end

/-! A divisor of 0. -/

section
variable (a b : Operand) {d : RegNum} {s : State} (hd : d ≠ 2) (h : operandValue a Site.src1 s = 0)
include hd h

theorem exec_divi_zero : exec (.divi a b d) s = (s.setSlot d (.free s.free (Site.result 0))).raised 4 .zeroDivide := by
  unfold exec execDivi
  exact run_raised_in ((M.bind_ok (M.get_run s)).trans (M.bind_error (divideBy_zero_writes _ a b hd h)))
    (s.setSlot_ip d _)

theorem exec_modi_zero : exec (.modi a b d) s = (s.setSlot d (.free s.free (Site.result 0))).raised 4 .zeroDivide := by
  unfold exec execModi
  exact run_raised_in (divideBy_zero_writes _ a b hd h) (s.setSlot_ip d _)

/-- `ediv` of a pair by 0 leaves free values in its pair. -/
theorem exec_ediv_zero (hpair : d.toNat % 2 = 0) (hsrc : pairValue b s ≠ none) : ∃ v w,
    exec (.ediv a b d) s = ((s.setSlot d v).setSlot (d + 1) w).raised 4 .zeroDivide := by
  obtain ⟨n, hn⟩ := Option.ne_none_iff_exists'.mp hsrc
  refine ⟨.free s.free (Site.result 0), .free s.free (Site.result 1), ?_⟩
  rw [← s.setGroup_pair hpair]
  unfold exec execEdiv
  refine run_undefined d s (count := 2) ?_
  rw [M.bind_ok (M.get_run s), hn, not_misaligned_pair hpair]
  simp only [M.bind_ok (checkDst_pair hpair s hd), if_pos h]

end

/-- Settles O5: each of the four is `divideBy` of the quotient or remainder of the page, and a divisor of 0 raises the fault
before or after the destination is left undefined. -/
theorem divisionResults : Obligations.DivisionResults := by
  unfold Obligations.DivisionResults
  simp only [List.forall_mem_cons, List.not_mem_nil, false_imp_iff, implies_true, and_true]
  refine ⟨⟨?divo, ?remo, ?remi, ?modi⟩, fun a b d s hd h => ⟨⟨?divoZero, ?remoZero, ?remiZero⟩,
    ⟨⟨_, exec_divi_zero a b hd h⟩, ⟨_, exec_modi_zero a b hd h⟩⟩, exec_ediv_zero a b hd h⟩⟩
  case divo => exact fun a b d s hu hd => divideBy_result _ a b hd (fun _ _ => BitVec.udiv_def) hu
  case remo => exact fun a b d s hu hd => divideBy_result _ a b hd (fun _ _ => BitVec.umod_def) hu
  case remi =>
    exact fun a b d s hu hd =>
      divideBy_result _ a b hd (fun x y => congrArg (BitVec.ofInt 32) (remainderInt_eq_tmod x y)) hu
  case modi =>
    exact fun a b d s hu hd =>
      divideBy_result _ a b hd (fun x y => congrArg (BitVec.ofInt 32) (moduloInt_eq_fmod x y)) hu
  case divoZero => exact run_raised (divideBy_zero_keeps _ a b hd h)
  case remoZero => exact run_raised (divideBy_zero_keeps _ a b hd h)
  case remiZero => exact run_raised (divideBy_zero_keeps _ a b hd h)

end Sys2Proof.Machine
end

section
/-! addi, subi, muli, divi and the conditional forms: the exact integer result and its overflow test (41_arithmetic R265,
R285, R286, R305, R307, R309). -/

namespace Sys2Proof.Machine

/-! The overflow tests. -/

/-- Operands of one sign with a sum of the other: the sum does not fit (R285). -/
theorem addOverflows_eq (a b : Word) : addOverflows a b = !fitsInt (b.toInt + a.toInt) := by
  have ha := toInt_bounds a
  have hb := toInt_bounds b
  rw [Bool.eq_iff_iff]
  simp only [addOverflows, fitsInt, BitVec.msb_eq_toInt, BitVec.toInt_add, Int.bmod, Bool.and_eq_true,
    beq_iff_eq, bne_iff_ne, ne_eq, decide_eq_decide, Bool.not_eq_true', decide_eq_false_iff_not]
  omega

/-- Operands of different sign with a difference of the subtrahend's sign: the difference does not fit (R305). -/
theorem subOverflows_eq (a b : Word) : subOverflows a b = !fitsInt (b.toInt - a.toInt) := by
  have ha := toInt_bounds a
  have hb := toInt_bounds b
  rw [Bool.eq_iff_iff]
  simp only [subOverflows, fitsInt, BitVec.msb_eq_toInt, BitVec.toInt_sub, Int.bmod, Bool.and_eq_true,
    bne_iff_ne, ne_eq, decide_eq_decide, Bool.not_eq_true', decide_eq_false_iff_not]
  omega

/-! The instructions. -/

section
variable (a b : Operand) {d : RegNum} {s : State} (hd : d ≠ 2)
include hd

theorem run_binaryOverflow (f : Word → Word → Word) (o : Word → Word → Bool) : run 4 (binaryOverflow f o a b d) s =
    s.integerResult d (f (operandValue a Site.src1 s) (operandValue b Site.src2 s))
      (o (operandValue a Site.src1 s) (operandValue b Site.src2 s)) := by
  refine run_congr ?_
  rw [binaryOverflow, M.bind_ok (checkDst_ok d s hd), M.bind_ok (M.get_run s)]
  rfl

/-- An action under its condition. -/
theorem run_whenCond {mask : BitVec 3} {action : M Done} (hc : cond mask s = true) :
    run 4 (whenCond mask d action) s = run 4 action s := by
  refine run_congr ?_
  rw [whenCond, M.bind_ok (checkDst_ok d s hd), M.bind_ok (M.get_run s), hc]
  rfl

/-- An action whose condition fails is not made. -/
theorem run_whenCond_fails {mask : BitVec 3} {action : M Done} (hu : s.untraced) (hc : cond mask s = false) :
    run 4 (whenCond mask d action) s = .next (s.after 4 false) := by
  refine run_after (d := {}) ?_ hu hu.2 rfl rfl rfl
  rw [whenCond, M.bind_ok (checkDst_ok d s hd), M.bind_ok (M.get_run s), hc]
  rfl

theorem exec_addi : exec (.addi a b d) s =
    s.exactResult d ((operandValue b Site.src2 s).toInt + (operandValue a Site.src1 s).toInt) := by
  rw [State.exactResult, ← addOverflows_eq, BitVec.ofInt_add, BitVec.ofInt_toInt, BitVec.ofInt_toInt]
  exact run_binaryOverflow a b hd _ _

theorem exec_subi : exec (.subi a b d) s =
    s.exactResult d ((operandValue b Site.src2 s).toInt - (operandValue a Site.src1 s).toInt) := by
  rw [State.exactResult, ← subOverflows_eq, ofInt_sub, BitVec.ofInt_toInt, BitVec.ofInt_toInt]
  exact run_binaryOverflow a b hd _ _

theorem exec_muli : exec (.muli a b d) s =
    s.exactResult d ((operandValue b Site.src2 s).toInt * (operandValue a Site.src1 s).toInt) :=
  run_binaryOverflow a b hd _ _

theorem exec_divi (h : operandValue a Site.src1 s ≠ 0) : exec (.divi a b d) s =
    s.exactResult d ((operandValue b Site.src2 s).toInt.tdiv (operandValue a Site.src1 s).toInt) := by
  unfold exec execDivi
  refine run_congr ?_
  rw [M.bind_ok (M.get_run s), M.bind_ok (divideBy_ok _ a b hd h)]
  rfl

/-- ADDI<cc> under its condition is `addi`. -/
theorem run_addIntegerIf (mask : BitVec 3) (hc : cond mask s = true) : run 4 (addIntegerIf mask a b d) s =
    s.exactResult d ((operandValue b Site.src2 s).toInt + (operandValue a Site.src1 s).toInt) := by
  rw [addIntegerIf, run_whenCond hd hc, funext₂ fun x y : Word => BitVec.add_comm x y]
  exact exec_addi a b hd

/-- SUBI<cc> under its condition is `subi`. -/
theorem run_subIntegerIf (mask : BitVec 3) (hc : cond mask s = true) : run 4 (subIntegerIf mask a b d) s =
    s.exactResult d ((operandValue b Site.src2 s).toInt - (operandValue a Site.src1 s).toInt) :=
  (run_whenCond hd hc).trans (exec_subi a b hd)

end

end Sys2Proof.Machine
end

section
/-! shli, and the integer instructions together (41_arithmetic R261, R318). -/

namespace Sys2Proof.Machine

/-! The loop of shli. -/

/-- The loop goes on where twice the value fits (R318). -/
theorem topBits_agree_eq (v : Word) : (v.getLsbD 31 == v.getLsbD 30) = fitsInt (v.toInt * 2) := by
  have hv := v.isLt
  rw [fitsInt, BitVec.toInt_eq_toNat_cond, BitVec.getLsbD, BitVec.getLsbD, Nat.testBit_eq_decide_div_mod_eq,
    Nat.testBit_eq_decide_div_mod_eq, Bool.eq_iff_iff, beq_iff_eq, decide_eq_decide, decide_eq_true_iff]
  split <;> omega

theorem toInt_ofInt_fits {v : Int} (h : fitsInt v = true) : (BitVec.ofInt 32 v).toInt = v := by
  obtain ⟨lower, upper⟩ := fitsInt_iff.mp h
  exact BitVec.toInt_ofInt_eq_self (by decide) lower (by omega)

theorem toInt_shiftLeft_one {v : Word} (h : fitsInt (v.toInt * 2) = true) : (v <<< 1).toInt = v.toInt * 2 := by
  have double : v <<< 1 = BitVec.ofInt 32 (v.toInt * 2) := by
    rw [BitVec.shiftLeft_eq_mul_twoPow, BitVec.ofInt_mul, BitVec.ofInt_toInt]
    rfl
  rw [double, toInt_ofInt_fits h]

/-- Where a product with a power of 2 fits, that with a smaller power does. -/
theorem fitsInt_mul_two_pow {v : Int} {m n : Nat} (hmn : m ≤ n) (h : fitsInt (v * 2 ^ n) = true) :
    fitsInt (v * 2 ^ m) = true := by
  have lower : (1 : Int) ≤ 2 ^ m := one_le_pow₀ (by decide)
  have upper : (2 : Int) ^ m ≤ 2 ^ n := pow_le_pow_right₀ (by decide) hmn
  rw [fitsInt_iff] at h ⊢
  constructor <;> rcases le_total 0 v with sign | sign <;> nlinarith

/-- A value that is not shifted fits. -/
theorem fitsInt_mul_two_pow_zero (v : Word) : fitsInt (v.toInt * 2 ^ 0) = true := by
  rw [pow_zero, mul_one]
  exact fitsInt_iff.mpr (toInt_bounds v)

/-- The loop stops after the greatest number of shifts, up to its count, whose result fits. -/
theorem shliLoop_eq (n : Nat) (v : Word) : ∃ k ≤ n, shliLoop n v = (BitVec.ofInt 32 (v.toInt * 2 ^ k), n - k) ∧
    fitsInt (v.toInt * 2 ^ k) = true ∧ (k < n → fitsInt (v.toInt * 2 ^ (k + 1)) = false) := by
  induction n generalizing v with
  | zero => exact ⟨0, le_rfl, by simp [shliLoop], fitsInt_mul_two_pow_zero v, fun h => absurd h (lt_irrefl 0)⟩
  | succ n ih =>
    rw [shliLoop, topBits_agree_eq]
    cases double : fitsInt (v.toInt * 2) with
    | false => exact ⟨0, Nat.zero_le _, by simp, fitsInt_mul_two_pow_zero v, fun _ => by simpa using double⟩
    | true =>
      obtain ⟨k, hk, hloop, hfits, hmore⟩ := ih (v <<< 1)
      have shifted : ∀ j : Nat, v.toInt * (2 : Int) ^ (j + 1) = (v <<< 1).toInt * 2 ^ j := fun j => by
        rw [toInt_shiftLeft_one double, pow_succ', mul_assoc]
      refine ⟨k + 1, Nat.succ_le_succ hk, ?_, by rwa [shifted], fun h => by rw [shifted]; exact hmore (by omega)⟩
      rw [if_pos rfl, hloop, shifted, Nat.add_sub_add_right]

/-- `shli` comes to the write of src2 * 2^k for the greatest k up to the length for which that fits, and overflows where that
is not the length. -/
theorem exec_shli (a b : Operand) {d : RegNum} {s : State} (hd : d ≠ 2) :
    ∃ k ≤ min (operandValue a Site.src1 s).toNat 32,
      exec (.shli a b d) s = s.integerResult d (BitVec.ofInt 32 ((operandValue b Site.src2 s).toInt * 2 ^ k))
        (decide (0 < min (operandValue a Site.src1 s).toNat 32 - k)) ∧
      fitsInt ((operandValue b Site.src2 s).toInt * 2 ^ k) = true ∧
      (k < min (operandValue a Site.src1 s).toNat 32 →
        fitsInt ((operandValue b Site.src2 s).toInt * 2 ^ (k + 1)) = false) := by
  obtain ⟨k, hk, hloop, rest⟩ := shliLoop_eq (shiftCount (operandValue a Site.src1 s)) (operandValue b Site.src2 s)
  have e : exec (.shli a b d) s = _ := run_binaryOverflow a b hd _ _
  refine ⟨k, hk, ?_, rest⟩
  rw [e, hloop]
  rfl

/-- Where the shift by the whole length fits, `shli` makes it. -/
theorem exec_shli_fits (a b : Operand) {d : RegNum} {s : State} (hu : s.untraced) (hd : d ≠ 2)
    (fits : fitsInt ((operandValue b Site.src2 s).toInt * 2 ^ min (operandValue a Site.src1 s).toNat 32) = true) :
    exec (.shli a b d) s = .next ((s.setReg d (BitVec.ofInt 32 ((operandValue b Site.src2 s).toInt *
      2 ^ min (operandValue a Site.src1 s).toNat 32))).after 4 false) := by
  obtain ⟨k, hk, e, -, hmore⟩ := exec_shli a b hd
  have whole : k = min (operandValue a Site.src1 s).toNat 32 := by
    by_contra h
    have less := Nat.lt_of_le_of_ne hk h
    exact Bool.false_ne_true ((hmore less).symm.trans (fitsInt_mul_two_pow less fits))
  rw [e, ← whole, Nat.sub_self]
  exact s.integerResult_next hu

/-- Where it does not fit, `shli` makes the last shift that does and overflows. -/
theorem exec_shli_overflows (a b : Operand) {d : RegNum} {s : State} (hd : d ≠ 2)
    (tooBig : ¬ fitsInt ((operandValue b Site.src2 s).toInt * 2 ^ min (operandValue a Site.src1 s).toNat 32) = true) :
    ∃ k < min (operandValue a Site.src1 s).toNat 32, fitsInt ((operandValue b Site.src2 s).toInt * 2 ^ k) = true ∧
      ¬ fitsInt ((operandValue b Site.src2 s).toInt * 2 ^ (k + 1)) = true ∧
      exec (.shli a b d) s = s.integerResult d (BitVec.ofInt 32 ((operandValue b Site.src2 s).toInt * 2 ^ k)) true := by
  obtain ⟨k, hk, e, hfits, hmore⟩ := exec_shli a b hd
  have less : k < min (operandValue a Site.src1 s).toNat 32 := Nat.lt_of_le_of_ne hk fun h => tooBig (h ▸ hfits)
  rw [decide_eq_true (by omega : 0 < min (operandValue a Site.src1 s).toNat 32 - k)] at e
  exact ⟨k, less, hfits, Bool.eq_false_iff.mp (hmore less), e⟩

/-- Settles O2: the exact result of each instruction, where it fits. -/
theorem integerResultsThatFit : Obligations.IntegerResultsThatFit := by
  unfold Obligations.IntegerResultsThatFit
  simp only [List.forall_mem_cons, List.not_mem_nil, false_imp_iff, implies_true, and_true, true_imp_iff]
  refine ⟨?addi, ?subi, ?muli, ?divi, ?shli⟩ <;> intro a b d s hu hd divisor lower upper <;> refine register_result ?_
  case addi => exact next_of_exactResult (exec_addi a b hd) hu ⟨lower, upper⟩
  case subi => exact next_of_exactResult (exec_subi a b hd) hu ⟨lower, upper⟩
  case muli => exact next_of_exactResult (exec_muli a b hd) hu ⟨lower, upper⟩
  case divi => exact next_of_exactResult (exec_divi a b hd divisor) hu ⟨lower, upper⟩
  case shli => exact exec_shli_fits a b hu hd (fitsInt_iff.mpr ⟨lower, upper⟩)

/-- A quotient that does not fit has a divisor other than 0. -/
theorem divisor_ne_zero_of_overflow {a b : Word}
    (tooBig : ¬ (-2147483648 ≤ b.toInt.tdiv a.toInt ∧ b.toInt.tdiv a.toInt ≤ 2147483647)) : a ≠ 0 := by
  rintro rfl
  rw [show (0 : Word).toInt = 0 from rfl, Int.tdiv_zero] at tooBig
  exact tooBig (by decide)

/-- Settles O3: an exact result that does not fit has the two outcomes of `State.OverflowsTo`, and so has the last shift of
`shli` that fits. -/
theorem integerOverflowOutcome : Obligations.IntegerOverflowOutcome := by
  unfold Obligations.IntegerOverflowOutcome
  refine ⟨?exact, fun a b d s hd tooBig => ?shli⟩
  case exact =>
    have adds (mask : BitVec 3) (a b : Operand) (d : RegNum) (s : State) (hd : d ≠ 2)
        (hc : false = true ∨ cond mask s = true) tooBig :=
      overflowsTo_of_exactResult (run_addIntegerIf a b hd mask (hc.resolve_left Bool.false_ne_true)) tooBig
    have subs (mask : BitVec 3) (a b : Operand) (d : RegNum) (s : State) (hd : d ≠ 2)
        (hc : false = true ∨ cond mask s = true) tooBig :=
      overflowsTo_of_exactResult (run_subIntegerIf a b hd mask (hc.resolve_left Bool.false_ne_true)) tooBig
    simp only [List.forall_mem_cons, List.not_mem_nil, false_imp_iff, implies_true, and_true]
    exact ⟨fun a b d s hd _ tooBig => overflowsTo_of_exactResult (exec_addi a b hd) tooBig,
      fun a b d s hd _ tooBig => overflowsTo_of_exactResult (exec_subi a b hd) tooBig,
      fun a b d s hd _ tooBig => overflowsTo_of_exactResult (exec_muli a b hd) tooBig,
      fun a b d s hd _ tooBig => overflowsTo_of_exactResult (exec_divi a b hd (divisor_ne_zero_of_overflow tooBig)) tooBig,
      adds 0, adds 1, adds 2, adds 3, adds 4, adds 5, adds 6, adds 7,
      subs 0, subs 1, subs 2, subs 3, subs 4, subs 5, subs 6, subs 7⟩
  case shli =>
    obtain ⟨k, less, hfits, hmore, e⟩ := exec_shli_overflows a b hd (tooBig ∘ fitsInt_iff.mp)
    exact ⟨k, less, fitsInt_iff.mp hfits, hmore ∘ fitsInt_iff.mpr, State.overflowsTo_of_integerResult e⟩

end Sys2Proof.Machine
end

section
/-! ADDO<cc>, SUBO<cc>, ADDI<cc> and SUBI<cc> (41_arithmetic R265, R286). -/

namespace Sys2Proof.Machine

/-- ADDO<cc> under its condition is `addo`. -/
theorem run_addOrdinalIf (a b : Operand) {d : RegNum} {s : State} (hu : s.untraced) (hd : d ≠ 2) (mask : BitVec 3)
    (hc : cond mask s = true) : run 4 (addOrdinalIf mask a b d) s =
      .next ((s.setReg d (operandValue b Site.src2 s + operandValue a Site.src1 s)).after 4 false) := by
  rw [addOrdinalIf, run_whenCond hd hc, BitVec.add_comm (operandValue b Site.src2 s)]
  exact binary_next (fun x y => x + y) a b d s hd hu

/-- SUBO<cc> under its condition is `subo`. -/
theorem run_subOrdinalIf (a b : Operand) {d : RegNum} {s : State} (hu : s.untraced) (hd : d ≠ 2) (mask : BitVec 3)
    (hc : cond mask s = true) : run 4 (subOrdinalIf mask a b d) s =
      .next ((s.setReg d (operandValue b Site.src2 s - operandValue a Site.src1 s)).after 4 false) :=
  (run_whenCond hd hc).trans (binary_next _ a b d s hd hu)

/-- An instruction that writes `v` to its destination under its condition, and else does nothing. -/
theorem conditional_result {mask : BitVec 3} {action : M Done} {d : RegNum} {s : State} {v : Word} (hu : s.untraced)
    (hd : d ≠ 2) (acts : cond mask s = true → run 4 (whenCond mask d action) s = .next ((s.setReg d v).after 4 false)) :
    ∃ t, run 4 (whenCond mask d action) s = .next t ∧
      t.slot d = (if mask &&& s.cc ≠ 0 ∨ mask = s.cc then .val v else s.slot d) ∧ t.ac = s.ac ∧ t.ip = s.ip + 4 ∧
      s.changesOnly t (if mask &&& s.cc ≠ 0 ∨ mask = s.cc then [d] else []) := by
  simp only [← cond_iff]
  by_cases holds : cond mask s = true
  · simp only [if_pos holds]
    exact register_result (acts holds)
  · simp only [if_neg holds]
    exact ⟨_, run_whenCond_fails hd hu (Bool.eq_false_iff.mpr holds), rfl, rfl, rfl,
      State.changesOnly_after s.changesOnly_refl 4 false⟩

/-- The exact result of an ADDI<cc> or SUBI<cc> whose condition holds fits. -/
theorem fits_of_cond {mask : BitVec 3} {s : State} {v : Int} (hc : cond mask s = true)
    (h : ¬ (mask &&& s.cc ≠ 0 ∨ mask = s.cc) ∨ (-2147483648 ≤ v ∧ v ≤ 2147483647)) :
    -2147483648 ≤ v ∧ v ≤ 2147483647 :=
  h.resolve_left (not_not.mpr ((cond_iff mask s).mp hc))

/-- Settles O8: the four classes, each for its eight masks. -/
theorem conditionalArithmetic : Obligations.ConditionalArithmetic := by
  unfold Obligations.ConditionalArithmetic
  have addo (mask : BitVec 3) (a b : Operand) (d : RegNum) (s : State) (hu : s.untraced) (hd : d ≠ 2) :=
    conditional_result hu hd (run_addOrdinalIf a b hu hd mask)
  have subo (mask : BitVec 3) (a b : Operand) (d : RegNum) (s : State) (hu : s.untraced) (hd : d ≠ 2) :=
    conditional_result hu hd (run_subOrdinalIf a b hu hd mask)
  have addi (mask : BitVec 3) (a b : Operand) (d : RegNum) (s : State) (hu : s.untraced) (hd : d ≠ 2) fits :=
    conditional_result hu hd fun hc => next_of_exactResult (run_addIntegerIf a b hd mask hc) hu (fits_of_cond hc fits)
  have subi (mask : BitVec 3) (a b : Operand) (d : RegNum) (s : State) (hu : s.untraced) (hd : d ≠ 2) fits :=
    conditional_result hu hd fun hc => next_of_exactResult (run_subIntegerIf a b hd mask hc) hu (fits_of_cond hc fits)
  simp only [List.forall_mem_cons, List.not_mem_nil, false_imp_iff, implies_true, and_true]
  exact ⟨⟨addo 0, addo 1, addo 2, addo 3, addo 4, addo 5, addo 6, addo 7,
      subo 0, subo 1, subo 2, subo 3, subo 4, subo 5, subo 6, subo 7⟩,
    ⟨addi 0, addi 1, addi 2, addi 3, addi 4, addi 5, addi 6, addi 7,
      subi 0, subi 1, subi 2, subi 3, subi 4, subi 5, subi 6, subi 7⟩⟩

end Sys2Proof.Machine
end

section
/-! Results of the logical and bit instructions, bit by bit: `and` to `ornot` and `not`, `setbit`, `clrbit`, `notbit`,
`alterbit`, `extract`, `modify` and `bswap` (42_logical_bit_byte R350 to R371). -/

namespace Sys2Proof.Machine

/-! What an instruction that writes one register comes to. -/

/-- An instruction that writes one register completes with a word of which `P` holds. -/
theorem register_satisfies {o : Host.Outcome State Fault Refusal} {s : State} {d : RegNum} {v : Word} (P : Word → Prop)
    (h : o = .next ((s.setReg d v).after 4 false)) (hv : P v) :
    ∃ t, o = .next t ∧ (∃ w, t.slot d = .val w ∧ P w) ∧ t.ac = s.ac ∧ t.ip = s.ip + 4 ∧ s.changesOnly t [d] := by
  obtain ⟨t, e, hslot, rest⟩ := register_result h
  exact ⟨t, e, ⟨v, hslot, hv⟩, rest⟩

section
variable {d : RegNum} {s : State} (hu : s.untraced) (hd : d ≠ 2)
include hu hd

/-- An action that checks its destination and writes a function of the state to it. -/
theorem run_setDst (v : State → Word) :
    run 4 (checkDst d >>= fun _ => get >>= fun u => setDst d (v u) >>= fun _ => pure {}) s =
      .next ((s.setReg d (v s)).after 4 false) :=
  run_setReg hu (M.bind_ok (checkDst_ok d s hd))

/-- An instruction of the shape `binary` whose function sets each bit as `g` says, by its number and its operands. -/
theorem binary_bits {f : Word → Word → Word} {g : Word → Word → Nat → Bool}
    (hfg : ∀ a b, ∀ i < 32, (f a b).getLsbD i = g a b i) (src1 src2 : Operand) :
    ∃ t, run 4 (binary f src1 src2 d) s = .next t ∧
      (∃ v, t.slot d = .val v ∧
        ∀ i < 32, v.getLsbD i = g (operandValue src1 Site.src1 s) (operandValue src2 Site.src2 s) i) ∧
      t.ac = s.ac ∧ t.ip = s.ip + 4 ∧ s.changesOnly t [d] :=
  register_satisfies (fun v => ∀ i < 32, v.getLsbD i = g _ _ i) (binary_next f src1 src2 d s hd hu) (hfg _ _)

end

/-! The Boolean operations. -/

theorem getLsbD_not_of_lt (v : Word) {i : Nat} (hi : i < 32) : (~~~v).getLsbD i = !v.getLsbD i := by
  rw [BitVec.getLsbD_not, decide_eq_true hi, Bool.true_and]

/-- R350 gives `xnor` as both operands or neither. -/
theorem nor_or_and_eq_beq : ∀ a b : Bool, (!(b || a) || b && a) = (b == a) := by decide

/-- R350 gives `xor` as one operand and not both. -/
theorem or_and_nand_eq_bne : ∀ a b : Bool, ((b || a) && !(b && a)) = (b != a) := by decide

/-- Each of the ten is of the shape `binary`, and its function the Boolean operation of R350 on each bit. -/
theorem exec_logical :
    ∀ p ∈ ([(Instr.and, fun a b => b && a), (Instr.notand, fun a b => !b && a), (Instr.andnot, fun a b => b && !a),
      (Instr.xor, fun a b => b != a), (Instr.or, fun a b => b || a), (Instr.nor, fun a b => !(b || a)),
      (Instr.xnor, fun a b => b == a), (Instr.notor, fun a b => !b || a), (Instr.ornot, fun a b => b || !a),
      (Instr.nand, fun a b => !(b && a))] : List ((Operand → Operand → RegNum → Instr) × (Bool → Bool → Bool))),
    ∃ f : Word → Word → Word, (∀ src1 src2 d s, exec (p.1 src1 src2 d) s = run 4 (binary f src1 src2 d) s) ∧
      ∀ a b, ∀ i < 32, (f a b).getLsbD i = p.2 (a.getLsbD i) (b.getLsbD i) := by
  simp only [List.forall_mem_cons, List.not_mem_nil, false_imp_iff, implies_true, and_true]
  refine ⟨⟨_, fun _ _ _ _ => rfl, ?and⟩, ⟨_, fun _ _ _ _ => rfl, ?notand⟩, ⟨_, fun _ _ _ _ => rfl, ?andnot⟩,
    ⟨_, fun _ _ _ _ => rfl, ?xor⟩, ⟨_, fun _ _ _ _ => rfl, ?or⟩, ⟨_, fun _ _ _ _ => rfl, ?nor⟩,
    ⟨_, fun _ _ _ _ => rfl, ?xnor⟩, ⟨_, fun _ _ _ _ => rfl, ?notor⟩, ⟨_, fun _ _ _ _ => rfl, ?ornot⟩,
    ⟨_, fun _ _ _ _ => rfl, ?nand⟩⟩ <;> intro a b i hi
  case and => exact BitVec.getLsbD_and
  case or => exact BitVec.getLsbD_or
  case notand => rw [BitVec.getLsbD_and, getLsbD_not_of_lt b hi]
  case andnot => rw [BitVec.getLsbD_and, getLsbD_not_of_lt a hi]
  case notor => rw [BitVec.getLsbD_or, getLsbD_not_of_lt b hi]
  case ornot => rw [BitVec.getLsbD_or, getLsbD_not_of_lt a hi]
  case nor => rw [BitVec.getLsbD_and, getLsbD_not_of_lt b hi, getLsbD_not_of_lt a hi, Bool.not_or]
  case nand => rw [BitVec.getLsbD_or, getLsbD_not_of_lt b hi, getLsbD_not_of_lt a hi, Bool.not_and]
  case xor =>
    rw [BitVec.getLsbD_and, getLsbD_not_of_lt _ hi, BitVec.getLsbD_or, BitVec.getLsbD_and, or_and_nand_eq_bne]
  case xnor =>
    rw [BitVec.getLsbD_or, getLsbD_not_of_lt _ hi, BitVec.getLsbD_or, BitVec.getLsbD_and, nor_or_and_eq_beq]

/-- Settles O9: `exec_logical` for the ten of two operands, and the complement of each bit for `not`. -/
theorem logicalResults : Obligations.LogicalResults := by
  unfold Obligations.LogicalResults
  refine ⟨fun p hp a b d s hu hd => ?binary, fun a d s hu hd => ?not⟩
  case binary =>
    obtain ⟨f, shape, bits⟩ := exec_logical p hp
    rw [shape]
    exact binary_bits hu hd bits a b
  case not =>
    exact register_satisfies (fun v => ∀ i < 32, v.getLsbD i = _) (unary_next (~~~·) a d s hd hu)
      fun i hi => getLsbD_not_of_lt _ hi

/-! The bit that a bit number selects (R351). -/

theorem bitOf_eq_twoPow (n : Word) : bitOf n = BitVec.twoPow 32 (n.toNat % 32) := rfl

theorem getLsbD_bitOf (n : Word) (i : Nat) : (bitOf n).getLsbD i = decide (i = n.toNat % 32) := by
  rw [bitOf_eq_twoPow, BitVec.getLsbD_twoPow, decide_eq_true (Nat.mod_lt _ (by decide)), Bool.true_and]
  exact decide_eq_decide.mpr eq_comm

section
variable (n v : Word) {i : Nat}

theorem getLsbD_or_bitOf : (v ||| bitOf n).getLsbD i = if i = n.toNat % 32 then true else v.getLsbD i := by
  rw [BitVec.getLsbD_or, getLsbD_bitOf]
  split <;> simp [*]

theorem getLsbD_and_not_bitOf (hi : i < 32) :
    (v &&& ~~~bitOf n).getLsbD i = if i = n.toNat % 32 then false else v.getLsbD i := by
  rw [BitVec.getLsbD_and, getLsbD_not_of_lt _ hi, getLsbD_bitOf]
  split <;> simp [*]

theorem getLsbD_xor_bitOf : (v ^^^ bitOf n).getLsbD i = if i = n.toNat % 32 then !v.getLsbD i else v.getLsbD i := by
  rw [BitVec.getLsbD_xor, getLsbD_bitOf]
  split <;> simp [*]

/-- `alterbit` is `setbit` or `clrbit`, as AC.cc[1] says (R353). -/
theorem getLsbD_alterBit (c : Bool) (hi : i < 32) :
    (if c then v ||| bitOf n else v &&& ~~~bitOf n).getLsbD i = if i = n.toNat % 32 then c else v.getLsbD i := by
  cases c with
  | true => exact getLsbD_or_bitOf n v
  | false => exact getLsbD_and_not_bitOf n v hi

end

/-! Fields and bytes. -/

theorem getLsbD_lowOnes (len : Word) {i : Nat} (hi : i < 32) : (lowOnes len).getLsbD i = decide (i < len.toNat) := by
  rw [lowOnes, BitVec.getLsbD_ofNat, Nat.testBit_two_pow_sub_one, decide_eq_true hi, Bool.true_and]
  exact decide_eq_decide.mpr (by omega)

theorem getLsbD_extractField (v len : Word) (pos : Nat) {i : Nat} (hi : i < 32) :
    ((v >>> pos) &&& lowOnes len).getLsbD i = (decide (i < len.toNat) && v.getLsbD (i + pos)) := by
  rw [BitVec.getLsbD_and, BitVec.getLsbD_ushiftRight, getLsbD_lowOnes len hi, Bool.and_comm, Nat.add_comm]

theorem getLsbD_merge (mask new old : Word) {i : Nat} (hi : i < 32) :
    (merge mask new old).getLsbD i = if mask.getLsbD i then new.getLsbD i else old.getLsbD i := by
  rw [merge, BitVec.getLsbD_or, BitVec.getLsbD_and, BitVec.getLsbD_and, getLsbD_not_of_lt mask hi]
  cases mask.getLsbD i <;> simp

/-- `bswap` reverses the bytes (R356). -/
theorem byteLane_reversed (v : Word) : ∀ i < 4,
    byteLane (byteLane v 0 ++ byteLane v 1 ++ byteLane v 2 ++ byteLane v 3) i = byteLane v (3 - i) := by
  intro i hi
  obtain rfl | rfl | rfl | rfl : i = 0 ∨ i = 1 ∨ i = 2 ∨ i = 3 := by omega
  all_goals ext k hk; grind [byteLane]

/-- Settles O10: each instruction writes one word, whose bits or bytes are those of the page. -/
theorem bitAndFieldResults : Obligations.BitAndFieldResults := by
  unfold Obligations.BitAndFieldResults
  simp only [List.forall_mem_cons, List.not_mem_nil, false_imp_iff, implies_true, and_true]
  refine ⟨⟨?setbit, ?clrbit, ?notbit, ?alterbit⟩, fun a b d s hu hd => ⟨?extract, ?modify, ?bswap⟩⟩
  case setbit => exact fun a b d s hu hd => binary_bits hu hd (fun n v i _ => getLsbD_or_bitOf n v) a b
  case clrbit => exact fun a b d s hu hd => binary_bits hu hd (fun n v i hi => getLsbD_and_not_bitOf n v hi) a b
  case notbit => exact fun a b d s hu hd => binary_bits hu hd (fun n v i _ => getLsbD_xor_bitOf n v) a b
  case alterbit =>
    intro a b d s hu hd
    have flag : s.cc.getLsbD 1 = s.ac.getLsbD 1 := BitVec.getLsbD_extractLsb' 0 3 s.ac 1
    refine register_satisfies (fun v => ∀ i < 32, v.getLsbD i = _) (run_setDst hu hd _) fun i hi => ?_
    rw [← flag]
    exact getLsbD_alterBit _ _ _ hi
  case extract =>
    refine register_satisfies (fun v => ∀ i < 32, v.getLsbD i = _) (run_setDst hu hd _) fun i hi => ?_
    rw [s.src_of_ne _ hd]
    exact getLsbD_extractField _ _ _ hi
  case modify =>
    refine register_satisfies (fun v => ∀ i < 32, v.getLsbD i = _) (run_setDst hu hd _) fun i hi => ?_
    rw [s.src_of_ne _ hd]
    exact getLsbD_merge _ _ _ hi
  case bswap => exact register_satisfies (fun v => ∀ i < 4, byteLane v i = _) (unary_next _ a d s hd hu) (byteLane_reversed _)

end Sys2Proof.Machine
end

section
/-! scanbit, spanbit, chkbit and scanbyte: the results that AC.cc tells of (42_logical_bit_byte R351, R357, R369, R370,
R372). -/

namespace Sys2Proof.Machine

/-! The scan of a word. -/

theorem topBit_eq_none {w : Word} {k : Nat} (h : ∀ i < k, w.getLsbD i = false) : topBit w k = none := by
  induction k with
  | zero => rfl
  | succ k ih => rw [topBit, if_neg (by rw [h k (by omega)]; decide), ih fun i hi => h i (by omega)]

theorem scan_of_none {w : Word} (h : ∀ i < 32, w.getLsbD i = false) : scan w = (0xFFFFFFFF, 0) := by
  rw [scan, topBit_eq_none h]
  rfl

theorem scan_of_top {w : Word} {n : Nat} (hn : n < 32) (h : w.getLsbD n = true)
    (above : ∀ i < 32, n < i → w.getLsbD i = false) : scan w = (BitVec.ofNat 32 n, 2) := by
  rw [scan, topBit_eq_some hn h above]

/-- An instruction that scans a word whose 1 bits are the bits of src1 that are `bit`. -/
theorem scanInto_result {f : Word → Word} {bit : Bool} (hf : ∀ w, ∀ i < 32, (f w).getLsbD i = (w.getLsbD i == bit))
    (src1 : Operand) {d : RegNum} {s : State} (hu : s.untraced) (hd : d ≠ 2) :
    ∃ t, run 4 (scanInto f src1 d) s = .next t ∧
      ((∀ i < 32, (operandValue src1 Site.src1 s).getLsbD i ≠ bit) → t.slot d = .val 0xFFFFFFFF ∧ s.setsCc t 0) ∧
      (∀ n < 32, (operandValue src1 Site.src1 s).getLsbD n = bit →
        (∀ i < 32, n < i → (operandValue src1 Site.src1 s).getLsbD i ≠ bit) →
        t.slot d = .val (BitVec.ofNat 32 n) ∧ s.setsCc t 2) ∧
      t.ip = s.ip + 4 ∧ s.changesOnly t [d] := by
  obtain ⟨t, e, hslot, hcc, hip, only⟩ := run_setRegCc (fun u => (scan (f (operandValue src1 Site.src1 u))).1)
    (fun u => (scan (f (operandValue src1 Site.src1 u))).2) hu hd
  refine ⟨t, e, fun none => ?none, fun n hn h above => ?top, hip, only⟩
  case none =>
    rw [scan_of_none fun i hi => (hf _ i hi).trans (beq_false_of_ne (none i hi))] at hslot hcc
    exact ⟨hslot, hcc⟩
  case top =>
    rw [scan_of_top hn ((hf _ n hn).trans (beq_iff_eq.mpr h))
      fun i hi hni => (hf _ i hi).trans (beq_false_of_ne (above i hi hni))] at hslot hcc
    exact ⟨hslot, hcc⟩

/-! The tests of `chkbit` and `scanbyte`. -/

theorem and_bitOf_ne_zero (v n : Word) : (v &&& bitOf n != 0) = v.getLsbD (n.toNat % 32) := by
  have bit : bitOf n ≠ 0 := fun h => by
    have selected := getLsbD_bitOf n (n.toNat % 32)
    simp [h] at selected
  rw [bitOf_eq_twoPow, BitVec.and_twoPow, ← bitOf_eq_twoPow]
  cases v.getLsbD (n.toNat % 32) with
  | true => exact bne_iff_ne.mpr bit
  | false => rfl

theorem someByteEqual_eq_any (a b : Word) :
    someByteEqual a b = (List.range 4).any fun i => byteLane a i == byteLane b i := by
  simp [someByteEqual, List.range_succ, Bool.or_assoc]

/-- An instruction of the shape `compareOp` completes with the test of which its function is the condition code. -/
theorem compareOp_truth {f : Word → Word → Bool} {g : Word → Word → Bool} (hfg : ∀ a b, f a b = g a b) (src1 src2 : Operand)
    {s : State} (hu : s.untraced) :
    ∃ t, run 4 (compareOp (fun a b => truthCc (f a b)) src1 src2) s = .next t ∧
      s.setsCc t (if g (operandValue src1 Site.src1 s) (operandValue src2 Site.src2 s) then 2 else 0) ∧
      t.ip = s.ip + 4 ∧ s.changesOnly t [] := by
  rw [← hfg]
  exact ⟨_, compareOp_next _ src1 src2 s hu, s.setsCc_setCc _, rfl,
    State.changesOnly_after (State.changesOnly_withAc s.changesOnly_refl _) 4 false⟩

/-- Settles O11: spanbit is the scan of the complement, and the two tests are condition codes of their truth. -/
theorem searchResults : Obligations.SearchResults := by
  unfold Obligations.SearchResults
  simp only [List.forall_mem_cons, List.not_mem_nil, false_imp_iff, implies_true, and_true]
  refine ⟨⟨?scanbit, ?spanbit⟩, fun a b s hu => ⟨?chkbit, ?scanbyte⟩⟩
  case scanbit => exact fun a d s hu hd => scanInto_result (fun w i _ => (beq_true (w.getLsbD i)).symm) a hu hd
  case spanbit =>
    exact fun a d s hu hd =>
      scanInto_result (fun w i hi => (getLsbD_not_of_lt w hi).trans (beq_false (w.getLsbD i)).symm) a hu hd
  case chkbit => exact compareOp_truth (fun n v => and_bitOf_ne_zero v n) a b hu
  case scanbyte => exact compareOp_truth someByteEqual_eq_any a b hu

end Sys2Proof.Machine
end

section
/-! Comparisons: `cmpo` to `cmpis`, `concmpo` and `concmpi`, `cmpdeco` to `cmpinci` (43_compare_test R400, R405 to R417). -/

namespace Sys2Proof.Machine

/-! The code of a comparison. -/

/-- The code of an order (43_compare_test R400). -/
def orderingCc : Ordering → BitVec 3
  | .lt => 4
  | .eq => 2
  | .gt => 1

theorem compareInt_eq_orderingCc (a b : Int) : compareInt a b = orderingCc (compare a b) := by
  rw [LinearOrder.compare_eq_compareOfLessAndEq, compareOfLessAndEq, apply_ite orderingCc, apply_ite orderingCc]
  rfl

/-- Numbers are in the order of the integers that they are. -/
theorem compare_natCast (a b : Nat) : compare (a : Int) b = compare a b := by
  rw [← cmp_eq_compare, ← cmp_eq_compare, Nat.strictMono_cast.cmp_map_eq]

section
variable (a b : Word)

theorem compareOrdinal_eq_orderingCc (n : Nat) :
    compareOrdinal n a b = orderingCc (compare (a.toNat % 2 ^ n) (b.toNat % 2 ^ n)) := by
  rw [compareOrdinal, compareInt_eq_orderingCc, compare_natCast, BitVec.toNat_setWidth, BitVec.toNat_setWidth]

theorem compareOrdinal_word : compareOrdinal 32 a b = orderingCc (compare a.toNat b.toNat) := by
  rw [compareOrdinal_eq_orderingCc, BitVec.toNat_mod_cancel, BitVec.toNat_mod_cancel]

/-- The low `n` bits of a word, as an integer. -/
theorem toInt_setWidth_eq_bmod {n : Nat} (hn : n ≤ 32) : (a.setWidth n).toInt = a.toInt.bmod (2 ^ n) := by
  rw [← BitVec.signExtend_eq_setWidth_of_le a hn, BitVec.toInt_signExtend_eq_toInt_bmod_of_le a hn]

theorem compareInteger_eq_orderingCc {n : Nat} (hn : n ≤ 32) :
    compareInteger n a b = orderingCc (compare (a.toInt.bmod (2 ^ n)) (b.toInt.bmod (2 ^ n))) := by
  rw [compareInteger, compareInt_eq_orderingCc, toInt_setWidth_eq_bmod a hn, toInt_setWidth_eq_bmod b hn]

theorem compareInteger_word : compareInteger 32 a b = orderingCc (compare a.toInt b.toInt) := by
  rw [compareInteger, compareInt_eq_orderingCc, BitVec.setWidth_eq, BitVec.setWidth_eq]

end

theorem allOnes_eq_ofInt : BitVec.allOnes 32 = BitVec.ofInt 32 (-1) := by decide

theorem one_eq_ofInt : (1 : Word) = BitVec.ofInt 32 1 := rfl

/-! The shapes of comparison. -/

section
variable {s : State} (hu : s.untraced) (src1 src2 : Operand)
include hu

/-- An instruction of the shape `compareOp` sets AC.cc and nothing else. -/
theorem compareOp_setsCc (f : Word → Word → BitVec 3) :
    ∃ t, run 4 (compareOp f src1 src2) s = .next t ∧
      s.setsCc t (f (operandValue src1 Site.src1 s) (operandValue src2 Site.src2 s)) ∧
      t.ip = s.ip + 4 ∧ s.changesOnly t [] :=
  ⟨_, compareOp_next f src1 src2 s hu, s.setsCc_setCc _, rfl,
    State.changesOnly_after (State.changesOnly_withAc s.changesOnly_refl _) 4 false⟩

theorem compareOp_ordering {f : Word → Word → BitVec 3} {g : Word → Word → Ordering}
    (hfg : ∀ a b, f a b = orderingCc (g a b)) :
    ∃ t, run 4 (compareOp f src1 src2) s = .next t ∧
      s.setsCc t (orderingCc (g (operandValue src1 Site.src1 s) (operandValue src2 Site.src2 s))) ∧
      t.ip = s.ip + 4 ∧ s.changesOnly t [] := by
  rw [← hfg]
  exact compareOp_setsCc hu src1 src2 f

/-- A conditional comparison compares where AC.cc[2] is 0, and else leaves AC (43_compare_test R416). -/
theorem compareIf_result (lessEqual : Word → Word → Bool) :
    ∃ t, run 4 (compareIf lessEqual src1 src2) s = .next t ∧
      (s.ac.getLsbD 2 = false →
        s.setsCc t (if lessEqual (operandValue src1 Site.src1 s) (operandValue src2 Site.src2 s) then 2 else 1)) ∧
      (s.ac.getLsbD 2 = true → t.ac = s.ac) ∧ t.ip = s.ip + 4 ∧ s.changesOnly t [] := by
  have gate : s.cc.getLsbD 2 = s.ac.getLsbD 2 := BitVec.getLsbD_extractLsb' 0 3 s.ac 2
  have shape : compareIf lessEqual src1 src2 s =
      (if s.cc.getLsbD 2 then pure {} else compareOp (fun a b => if lessEqual a b then 2 else 1) src1 src2 : M Done) s :=
    M.bind_ok (M.get_run s)
  cases less : s.ac.getLsbD 2 with
  | true =>
    rw [gate, less, if_pos rfl] at shape
    exact ⟨_, run_after shape hu hu.2 rfl rfl rfl, nofun, fun _ => rfl, rfl,
      State.changesOnly_after s.changesOnly_refl 4 false⟩
  | false =>
    rw [gate, less, if_neg nofun] at shape
    obtain ⟨t, e, hcc, rest⟩ := compareOp_setsCc hu src1 src2 fun a b => if lessEqual a b then 2 else 1
    exact ⟨t, (run_congr shape).trans e, fun _ => hcc, nofun, rest⟩

/-- An instruction of the shape `compareStep` compares src1 with src2, and writes src2 stepped by `k`, modulo 2^32. -/
theorem compareStep_ordering {f : Word → Word → BitVec 3} {g : Word → Word → Ordering}
    (hfg : ∀ a b, f a b = orderingCc (g a b)) {step : Word} {k : Int}
    (hk : step = BitVec.ofInt 32 k) {d : RegNum} (hd : d ≠ 2) :
    ∃ t, run 4 (compareStep f step src1 src2 d) s = .next t ∧
      t.slot d = .val (BitVec.ofInt 32 ((operandValue src2 Site.src2 s).toInt + k)) ∧
      s.setsCc t (orderingCc (g (operandValue src1 Site.src1 s) (operandValue src2 Site.src2 s))) ∧
      t.ip = s.ip + 4 ∧ s.changesOnly t [d] := by
  rw [← hfg, BitVec.ofInt_add, BitVec.ofInt_toInt, ← hk]
  exact run_setRegCc (fun u => operandValue src2 Site.src2 u + step)
    (fun u => f (operandValue src1 Site.src1 u) (operandValue src2 Site.src2 u)) hu hd

end

/-- Settles O12: each instruction is of one of the three shapes, and its function is the comparison of the page. -/
theorem compareResults : Obligations.CompareResults := by
  unfold Obligations.CompareResults
  simp only [List.forall_mem_cons, List.not_mem_nil, false_imp_iff, implies_true, and_true]
  refine ⟨⟨⟨?cmpo, ?cmpi, ?cmpob, ?cmpib, ?cmpos, ?cmpis⟩, ?concmpo, ?concmpi⟩, ?cmpdeco, ?cmpdeci, ?cmpinco, ?cmpinci⟩
  case cmpo => exact fun a b s hu => compareOp_ordering hu a b compareOrdinal_word
  case cmpi => exact fun a b s hu => compareOp_ordering hu a b compareInteger_word
  case cmpob => exact fun a b s hu => compareOp_ordering hu a b fun x y => compareOrdinal_eq_orderingCc x y 8
  case cmpib => exact fun a b s hu => compareOp_ordering hu a b fun x y => compareInteger_eq_orderingCc x y (by decide)
  case cmpos => exact fun a b s hu => compareOp_ordering hu a b fun x y => compareOrdinal_eq_orderingCc x y 16
  case cmpis => exact fun a b s hu => compareOp_ordering hu a b fun x y => compareInteger_eq_orderingCc x y (by decide)
  case concmpo => exact fun a b s hu => compareIf_result hu a b _
  case concmpi => exact fun a b s hu => compareIf_result hu a b _
  case cmpdeco => exact fun a b d s hu hd => compareStep_ordering hu a b compareOrdinal_word allOnes_eq_ofInt hd
  case cmpdeci => exact fun a b d s hu hd => compareStep_ordering hu a b compareInteger_word allOnes_eq_ofInt hd
  case cmpinco => exact fun a b d s hu hd => compareStep_ordering hu a b compareOrdinal_word one_eq_ofInt hd
  case cmpinci => exact fun a b d s hu hd => compareStep_ordering hu a b compareInteger_word one_eq_ofInt hd

end Sys2Proof.Machine
end

section
/-! TEST<cc> (43_compare_test R418 to R426). -/

namespace Sys2Proof.Machine

/-- The eight forms differ in their mask alone (43_compare_test R419 to R426). -/
theorem exec_test (dst : RegNum) (s : State) :
    ∀ p ∈ ([(0, Instr.testno), (1, Instr.testg), (2, Instr.teste), (3, Instr.testge), (4, Instr.testl), (5, Instr.testne),
      (6, Instr.testle), (7, Instr.testo)] : List (BitVec 3 × (RegNum → Instr))),
    exec (p.2 dst) s = run 4 (testCond p.1 dst) s := by
  simp only [List.forall_mem_cons, List.not_mem_nil, false_imp_iff, implies_true, and_true]
  exact ⟨rfl, rfl, rfl, rfl, rfl, rfl, rfl, rfl⟩

/-- Settles O13: each form writes the truth of `cond` for its mask, which is the condition of the page. -/
theorem testResults : Obligations.TestResults := by
  unfold Obligations.TestResults
  intro p hp dst s hu hd
  rw [exec_test dst s p hp, ← State.cc, ← if_congr (cond_iff p.1 s) rfl rfl]
  exact register_result (run_setDst hu hd fun u => if cond p.1 u then 1 else 0)

end Sys2Proof.Machine
end

section
/-! `b`, `bx`, `bal`, `balx` and BRANCH<cc> (44_branch R440 to R442, R445 to R448, R451 to R459). -/

namespace Sys2Proof.Machine

/-! The end of an instruction that branched. -/

/-- The state in which an instruction that set the IP to `target` ends its step. -/
def State.branchedTo (s : State) (target : Word) : State := (s.jump target).retire true

theorem State.changesOnly_branchedTo {s t : State} {ds : List RegNum} (h : s.changesOnly t ds) (target : Word) :
    s.changesOnly (t.branchedTo target) ds := h

section
variable {s : State} (hu : s.untraced)
include hu

theorem run_branchedTo {len : Word} {action : M Done} {t : State} {target : Word} (h : action s = .ok branched (t.jump target))
    (ht : t.trace = s.trace) : run len action s = .next (t.branchedTo target) :=
  run_transfer h hu (ht.symm ▸ hu.2) rfl rfl rfl

/-- An instruction that branches and does nothing else. -/
theorem branch_result {len : Word} {action : M Done} {target : Word} (h : action s = .ok branched (s.jump target)) :
    ∃ t, run len action s = .next t ∧ t.ip = target &&& ~~~3 ∧ t.ac = s.ac ∧ s.changesOnly t [] :=
  ⟨_, run_branchedTo hu h rfl, rfl, rfl, State.changesOnly_branchedTo s.changesOnly_refl target⟩

/-- An instruction that writes its link to `d` and branches. -/
theorem link_result {len : Word} {action : M Done} {target link : Word} {d : RegNum}
    (h : action s = .ok branched ((s.setReg d link).jump target)) :
    ∃ t, run len action s = .next t ∧ t.ip = target &&& ~~~3 ∧ t.slot d = .val link ∧ t.ac = s.ac ∧ s.changesOnly t [d] :=
  ⟨_, run_branchedTo hu h (s.setSlot_trace d _), rfl, s.slot_setSlot_self d _, s.setSlot_ac d _,
    State.changesOnly_branchedTo (s.changesOnly_setSlot d _) target⟩

/-! Conditional branches. -/

/-- An instruction that writes AC and then branches where `taken` holds: the target or the next instruction (R441). -/
theorem branchIf_result {n : Nat} {action : M Done} {taken : Bool} {disp : BitVec n} {ac : Word}
    (h : action s = branchIf taken disp (s.withAc ac)) :
    ∃ t, run 4 action s = .next t ∧ t.ip = (if taken then (s.ip + disp.signExtend 32) &&& ~~~3 else s.ip + 4) ∧
      t.ac = ac ∧ s.changesOnly t [] := by
  have only : s.changesOnly (s.withAc ac) [] := State.changesOnly_withAc s.changesOnly_refl ac
  cases taken with
  | true => exact ⟨_, run_branchedTo hu h rfl, rfl, rfl, State.changesOnly_branchedTo only _⟩
  | false => exact ⟨_, run_after h hu hu.2 rfl rfl rfl, rfl, rfl, State.changesOnly_after only 4 true⟩

theorem branchCond_result (mask : BitVec 3) (disp : BitVec 24) :
    ∃ t, run 4 (branchCond mask disp) s = .next t ∧
      t.ip = (if mask &&& s.cc ≠ 0 ∨ mask = s.cc then (s.ip + disp.signExtend 32) &&& ~~~3 else s.ip + 4) ∧
      t.ac = s.ac ∧ s.changesOnly t [] := by
  simp only [← cond_iff]
  exact branchIf_result hu (M.bind_ok (M.get_run s))

end

/-! The instructions. -/

theorem b_ok (disp : BitVec 24) (s : State) :
    (branchBy disp >>= fun _ => (pure branched : M Done)) s = .ok branched (s.jump (s.ip + disp.signExtend 32)) := rfl

theorem bx_ok (m : MemOperand) (s : State) :
    (modify (fun t => t.jump (efa m t)) >>= fun _ => (pure branched : M Done)) s = .ok branched (s.jump (efa m s)) := rfl

theorem balx_ok (m : MemOperand) {dst : RegNum} (s : State) (hd : dst ≠ 2) :
    (checkDst dst >>= fun _ => modify (fun t => (t.setReg dst (t.ip + memLength m)).jump (efa m t)) >>= fun _ =>
      (pure branched : M Done)) s = .ok branched ((s.setReg dst (s.ip + memLength m)).jump (efa m s)) := by
  rw [M.bind_ok (checkDst_ok dst s hd)]
  rfl

/-- The write of the link leaves the IP, from which `bal` then takes its target (R447). -/
theorem bal_ok (disp : BitVec 24) (s : State) :
    (modify (fun t => t.setReg linkReg (t.ip + 4)) >>= fun _ => branchBy disp >>= fun _ => (pure branched : M Done)) s =
      .ok branched ((s.setReg linkReg (s.ip + 4)).jump (s.ip + disp.signExtend 32)) :=
  congrArg (fun ip => EStateM.Result.ok branched ((s.setReg linkReg (s.ip + 4)).jump (ip + disp.signExtend 32)))
    (s.setSlot_ip linkReg _)

/-- The eight forms differ in their mask alone (44_branch R452 to R459). -/
theorem exec_branchCond (disp : BitVec 24) (s : State) :
    ∀ p ∈ ([(0, Instr.bno), (1, Instr.bg), (2, Instr.be), (3, Instr.bge), (4, Instr.bl), (5, Instr.bne), (6, Instr.ble),
      (7, Instr.bo)] : List (BitVec 3 × (BitVec 24 → Instr))),
    exec (p.2 disp) s = run 4 (branchCond p.1 disp) s := by
  simp only [List.forall_mem_cons, List.not_mem_nil, false_imp_iff, implies_true, and_true]
  exact ⟨rfl, rfl, rfl, rfl, rfl, rfl, rfl, rfl⟩

/-- Settles O14: a branch ends at its target, with its link written, and BRANCH<cc> there or at the next instruction. -/
theorem branches : Obligations.Branches := by
  unfold Obligations.Branches
  refine ⟨fun disp m dst s hu hd => ⟨?b, ?bx, ?bal, ?balx⟩, ?branchCond⟩
  case b => exact branch_result hu (b_ok disp s)
  case bx => exact branch_result hu (bx_ok m s)
  case bal => exact link_result hu (bal_ok disp s)
  case balx => exact link_result hu (balx_ok m s hd)
  case branchCond =>
    intro p hp disp s hu
    rw [exec_branchCond disp s p hp]
    exact branchCond_result hu p.1 disp

end Sys2Proof.Machine
end

section
/-! `bbc`, `bbs` and the compare-and-branch instructions (44_branch R440, R441, R449, R450, R460 to R474). -/

namespace Sys2Proof.Machine

section
variable {s : State} (hu : s.untraced)
include hu

/-- An instruction that sets AC.cc to `c` and then branches where `taken` holds. -/
theorem branchIf_setsCc {action : M Done} {taken : Bool} {disp : BitVec 13} {c : BitVec 3}
    (h : action s = branchIf taken disp (s.setCc c)) :
    ∃ t, run 4 action s = .next t ∧ s.setsCc t c ∧
      t.ip = (if taken then (s.ip + disp.signExtend 32) &&& ~~~3 else s.ip + 4) ∧ s.changesOnly t [] := by
  obtain ⟨t, e, hip, hac, only⟩ := branchIf_result hu h
  refine ⟨t, e, ?_, hip, only⟩
  rw [State.setsCc, State.cc, hac]
  exact s.setsCc_setCc c

variable (src1 : Operand) (src2 : RegNum) (disp : BitVec 13)

/-- A bit branch sets AC.cc to the bit of src2 that src1 names, and branches where it is `value`. -/
theorem branchBit_result (value : Bool) :
    ∃ t, run 4 (branchBit value src1 src2 disp) s = .next t ∧
      s.setsCc t (if (operandValue (.reg src2) Site.src2 s).getLsbD ((operandValue src1 Site.src1 s).toNat % 32)
        then 2 else 0) ∧
      t.ip = (if (operandValue (.reg src2) Site.src2 s).getLsbD ((operandValue src1 Site.src1 s).toNat % 32) = value
        then (s.ip + disp.signExtend 32) &&& ~~~3 else s.ip + 4) ∧
      s.changesOnly t [] := by
  rw [← and_bitOf_ne_zero]
  simp only [← beq_iff_eq (b := value)]
  exact branchIf_setsCc hu (M.bind_ok (M.get_run s))

/-- A compare-and-branch sets AC.cc to the code of the comparison, and branches where the mask has a bit of that code. -/
theorem compareBranch_result {f : Word → Word → BitVec 3} {g : Word → Word → Ordering}
    (hfg : ∀ a b, f a b = orderingCc (g a b)) (mask : BitVec 3) :
    ∃ t, run 4 (compareBranch f mask src1 src2 disp) s = .next t ∧
      s.setsCc t (orderingCc (g (operandValue src1 Site.src1 s) (operandValue (.reg src2) Site.src2 s))) ∧
      t.ip = (if mask &&& t.cc ≠ 0 then (s.ip + disp.signExtend 32) &&& ~~~3 else s.ip + 4) ∧ s.changesOnly t [] := by
  obtain ⟨t, e, hcc, hip, only⟩ := branchIf_setsCc hu (M.bind_ok (M.get_run s) : compareBranch f mask src1 src2 disp s = _)
  rw [← hfg]
  refine ⟨t, e, hcc, ?_, only⟩
  rw [hcc.1, hip]
  simp only [bne_iff_ne]

end

section
variable (src1 : Operand) (src2 : RegNum) (disp : BitVec 13) (s : State)

/-- The ordinal forms differ in their mask alone (44_branch R461 to R466). -/
theorem exec_compareBranchOrdinal :
    ∀ p ∈ ([(1, Instr.cmpobg), (2, Instr.cmpobe), (3, Instr.cmpobge), (4, Instr.cmpobl), (5, Instr.cmpobne),
      (6, Instr.cmpoble)] : List (BitVec 3 × (Operand → RegNum → BitVec 13 → Instr))),
    exec (p.2 src1 src2 disp) s = run 4 (compareBranch (compareOrdinal 32) p.1 src1 src2 disp) s := by
  simp only [List.forall_mem_cons, List.not_mem_nil, false_imp_iff, implies_true, and_true]
  exact ⟨rfl, rfl, rfl, rfl, rfl, rfl⟩

/-- The integer forms differ in their mask alone (44_branch R467 to R474). -/
theorem exec_compareBranchInteger :
    ∀ p ∈ ([(0, Instr.cmpibno), (1, Instr.cmpibg), (2, Instr.cmpibe), (3, Instr.cmpibge), (4, Instr.cmpibl),
      (5, Instr.cmpibne), (6, Instr.cmpible), (7, Instr.cmpibo)] : List (BitVec 3 × (Operand → RegNum → BitVec 13 → Instr))),
    exec (p.2 src1 src2 disp) s = run 4 (compareBranch (compareInteger 32) p.1 src1 src2 disp) s := by
  simp only [List.forall_mem_cons, List.not_mem_nil, false_imp_iff, implies_true, and_true]
  exact ⟨rfl, rfl, rfl, rfl, rfl, rfl, rfl, rfl⟩

end

/-- Settles O15: each instruction is a bit branch or a compare-and-branch, by the comparison of the page. -/
theorem compareAndBranch : Obligations.CompareAndBranch := by
  unfold Obligations.CompareAndBranch
  refine ⟨?bits, ?ordinals, ?integers⟩
  case bits =>
    simp only [List.forall_mem_cons, List.not_mem_nil, false_imp_iff, implies_true, and_true]
    exact ⟨fun a b disp s hu => branchBit_result hu a b disp false, fun a b disp s hu => branchBit_result hu a b disp true⟩
  case ordinals =>
    intro p hp a b disp s hu
    rw [exec_compareBranchOrdinal a b disp s p hp]
    exact compareBranch_result hu a b disp compareOrdinal_word p.1
  case integers =>
    intro p hp a b disp s hu
    rw [exec_compareBranchInteger a b disp s p hp]
    exact compareBranch_result hu a b disp compareInteger_word p.1

end Sys2Proof.Machine
end

section
/-! Branches that are not taken (44_branch R441). -/

namespace Sys2Proof.Machine

/-! The orders whose code a mask does not select. -/

section
variable {α : Type} [LinearOrder α] {a b : α}

theorem maskG_unselected (h : a ≤ b) : 1 &&& orderingCc (compare a b) = 0 := by
  obtain h | h := h.lt_or_eq
  · rw [compare_lt_iff_lt.mpr h]; rfl
  · rw [compare_eq_iff_eq.mpr h]; rfl

theorem maskE_unselected (h : a ≠ b) : 2 &&& orderingCc (compare a b) = 0 := by
  obtain h | h := h.lt_or_gt
  · rw [compare_lt_iff_lt.mpr h]; rfl
  · rw [compare_gt_iff_gt.mpr h]; rfl

theorem maskGe_unselected (h : a < b) : 3 &&& orderingCc (compare a b) = 0 := by
  rw [compare_lt_iff_lt.mpr h]; rfl

theorem maskL_unselected (h : b ≤ a) : 4 &&& orderingCc (compare a b) = 0 := by
  obtain h | h := h.lt_or_eq
  · rw [compare_gt_iff_gt.mpr h]; rfl
  · rw [compare_eq_iff_eq.mpr h.symm]; rfl

theorem maskNe_unselected (h : a = b) : 5 &&& orderingCc (compare a b) = 0 := by
  rw [compare_eq_iff_eq.mpr h]; rfl

theorem maskLe_unselected (h : b < a) : 6 &&& orderingCc (compare a b) = 0 := by
  rw [compare_gt_iff_gt.mpr h]; rfl

end

/-- A compare-and-branch whose mask does not select the code of the comparison goes on. -/
theorem compareBranch_notTaken {f : Word → Word → BitVec 3} {g : Word → Word → Ordering}
    (hfg : ∀ a b, f a b = orderingCc (g a b)) {s : State} (hu : s.untraced) {mask : BitVec 3} {src1 : Operand} {src2 : RegNum}
    {disp : BitVec 13}
    (h : mask &&& orderingCc (g (operandValue src1 Site.src1 s) (operandValue (.reg src2) Site.src2 s)) = 0) :
    ∃ t, run 4 (compareBranch f mask src1 src2 disp) s = .next t ∧ t.ip = s.ip + 4 := by
  obtain ⟨t, e, hcc, hip, -⟩ := compareBranch_result hu src1 src2 disp hfg mask
  rw [hcc.1, if_neg (not_not.mpr h)] at hip
  exact ⟨t, e, hip⟩

/-- A bit branch on a bit that is not `value` goes on. -/
theorem branchBit_notTaken {s : State} (hu : s.untraced) {value : Bool} {src1 : Operand} {src2 : RegNum} {disp : BitVec 13}
    (h : (operandValue (.reg src2) Site.src2 s).getLsbD ((operandValue src1 Site.src1 s).toNat % 32) ≠ value) :
    ∃ t, run 4 (branchBit value src1 src2 disp) s = .next t ∧ t.ip = s.ip + 4 := by
  obtain ⟨t, e, -, hip, -⟩ := branchBit_result hu src1 src2 disp value
  exact ⟨t, e, hip.trans (if_neg h)⟩

/-- Settles O16: by the results of the three shapes; the condition of each compare-and-branch is the order that its mask does
not select. -/
theorem notTakenGoesOn : Obligations.NotTakenGoesOn := by
  unfold Obligations.NotTakenGoesOn
  intro src1 src2 disp d s hu
  refine ⟨?conditional, ?bits, ?ordinals, ?integers⟩
  case conditional =>
    intro p hp fails
    obtain ⟨t, e, hip, -⟩ := branches.2 p hp disp s hu
    exact ⟨t, e, hip.trans (if_neg fails)⟩
  case bits =>
    simp only [List.forall_mem_cons, List.not_mem_nil, false_imp_iff, implies_true, and_true]
    exact ⟨fun one => branchBit_notTaken hu (one.trans_ne nofun), fun zero => branchBit_notTaken hu (zero.trans_ne nofun)⟩
  case ordinals =>
    simp only [List.forall_mem_cons, List.not_mem_nil, false_imp_iff, implies_true, and_true, decide_eq_true_iff]
    refine ⟨?g, ?e, ?ge, ?l, ?ne, ?le⟩ <;> refine fun h => compareBranch_notTaken compareOrdinal_word hu ?_
    case g => exact maskG_unselected h
    case e => exact maskE_unselected h
    case ge => exact maskGe_unselected h
    case l => exact maskL_unselected h
    case ne => exact maskNe_unselected h
    case le => exact maskLe_unselected h
  case integers =>
    simp only [List.forall_mem_cons, List.not_mem_nil, false_imp_iff, implies_true, and_true, decide_eq_true_iff]
    refine ⟨?no, ?g, ?e, ?ge, ?l, ?ne, ?le⟩ <;> refine fun h => compareBranch_notTaken compareInteger_word hu ?_
    case no => exact BitVec.zero_and
    case g => exact maskG_unselected h
    case e => exact maskE_unselected h
    case ge => exact maskGe_unselected h
    case l => exact maskL_unselected h
    case ne => exact maskNe_unselected h
    case le => exact maskLe_unselected h

end Sys2Proof.Machine
end

section
/-! The call operation, by what the push into the register cache stores (45_call_return R503 to R505), and what memory
holds after a set is spilled to its save area. -/

namespace Sys2Proof.Machine

/-! A changed register cache. -/

/-- `u` is `s` with another register cache and perhaps with stores made: what a spill and a push leave. -/
structure State.Recached (s u : State) (cache : List CachedFrame) : Prop where
  stores : s.StoreFrame (u.withFrames s.frames)
  frames : u.frames = { s.frames with cache := cache }

/-- `s` with the set `x` in its save area and another register cache (45_call_return R505). -/
def State.stowed (s : State) (x : CachedFrame) (cache : List CachedFrame) : State :=
  (s.pokeWords x.save x.regs.toList).withFrames { s.frames with cache := cache }

theorem State.recached_withFrames (s : State) (cache : List CachedFrame) :
    s.Recached (s.withFrames { s.frames with cache := cache }) cache := ⟨.refl s, rfl⟩

theorem State.recached_stowed (s : State) (x : CachedFrame) (cache : List CachedFrame) :
    s.Recached (s.stowed x cache) cache :=
  ⟨{ s.pokeWords_frame x.save x.regs.toList with frames := rfl }, rfl⟩

section
variable {s u v : State} {cache later : List CachedFrame}

theorem State.Recached.trans (h : s.Recached u cache) (k : u.Recached v later) : s.Recached v later := by
  have later : (u.withFrames s.frames).StoreFrame (v.withFrames s.frames) := { k.stores with frames := rfl }
  exact ⟨h.stores.trans later, by rw [k.frames, h.frames]⟩

theorem State.Recached.sameFrames (h : s.Recached u cache) : u.frames.cache = cache ∧
    u.frames.reserved = s.frames.reserved ∧ u.frames.current = s.frames.current ∧
    u.frames.unsetPfp = s.frames.unsetPfp := by
  rw [h.frames]; exact ⟨rfl, rfl, rfl, rfl⟩

theorem State.Recached.slot (h : s.Recached u cache) (n : RegNum) : u.slot n = s.slot n := by
  have locals : u.locals = s.locals := h.stores.locals
  have globals : u.globals = s.globals := h.stores.globals
  simp only [State.slot, locals, globals]

theorem State.Recached.sameSpecial (h : s.Recached u cache) : s.sameSpecial u := by
  obtain ⟨-, special, -⟩ := h.stores.keeps
  exact special

theorem State.Recached.bigEndian (h : s.Recached u cache) : u.bigEndian = s.bigEndian :=
  State.StoreFrame.bigEndian (u := u.withFrames s.frames) h.stores

theorem State.Recached.kindAt (h : s.Recached u cache) (a : Word) : u.kindAt a = s.kindAt a :=
  State.kindAt_of_plat (t := u) h.stores.plat a

theorem State.Recached.wordsWritable (h : s.Recached u cache) {a : Word} {n : Nat} (hw : s.wordsWritable a n) :
    u.wordsWritable a n := fun i hi => by
  obtain ⟨mmr, region, ram⟩ := hw i hi
  exact ⟨mmr, region, fun j hj => (h.kindAt _).trans (ram j hj)⟩

end

/-- Protection depends on the configuration alone (20_memory R87). -/
theorem State.protectedIn_congr {s t : State} (h : t.config = s.config) (em : Bool) (a : Word) (n : Nat) :
    t.protectedIn em a n = s.protectedIn em a n := by
  have byte : ∀ b, t.protectedByte em b = s.protectedByte em b := fun b => by simp only [State.protectedByte, h]
  rw [Bool.eq_iff_iff, State.protectedIn_iff, State.protectedIn_iff]
  simp only [byte]

/-! What memory holds after a spill. -/

/-- The words of a range of RAM have each of their bytes stored. -/
theorem State.stores_of_wordsWritable {s : State} {a : Word} {n : Nat} (hw : s.wordsWritable a n) :
    ∀ i < 4 * n, s.stores (a + BitVec.ofNat 32 i) := fun i hi => by
  have word := State.stores_of_writable (hw (i / 4) (by omega)) (by decide) (Nat.mod_lt i (by decide))
  rwa [word_add_ofNat, Nat.div_add_mod] at word

theorem State.byteAt_stowed_ne (s : State) (x : CachedFrame) (cache : List CachedFrame) {b : Word}
    (h : ∀ i < 64, b ≠ x.save + BitVec.ofNat 32 i) : (s.stowed x cache).byteAt b = s.byteAt b :=
  s.byteAt_pokeWords_ne x.save b x.regs.toList fun i hi => h i (by simpa using hi)

/-- A spilled set stands in its save area, r0 at the lowest address (45_call_return R505). -/
theorem State.holdsWord_stowed (s : State) (x : CachedFrame) (cache : List CachedFrame) (hm : s.mem.wf = true)
    (hw : s.wordsWritable x.save 16) : ∀ i < 16,
      (s.stowed x cache).holdsWord (x.save + BitVec.ofNat 32 (4 * i)) ((x.regs.toList)[i]?.getD (.val 0)) := by
  intro i hi
  have len : x.regs.toList.length = 16 := by simp
  have get : (x.regs.toList)[i]? = some ((x.regs.toList)[i]?.getD (.val 0)) := by simp [len, hi]
  exact s.holdsWord_pokeWords x.save x.regs.toList hm (by rw [len]; exact State.stores_of_wordsWritable hw)
    (by rw [len]; decide) get

theorem State.stowed_wf (s : State) (x : CachedFrame) (cache : List CachedFrame) (h : s.mem.wf = true) :
    (s.stowed x cache).mem.wf = true := s.pokeWords_wf x.save x.regs.toList h

/-- A word is still held where none of the bytes of its area has changed. -/
theorem State.holdsWord_of_sameArea {t u : State} {a : Word} {i : Nat} {v : Slot} (hb : u.bigEndian = t.bigEndian)
    (same : ∀ j < 64, u.byteAt (a + BitVec.ofNat 32 j) = t.byteAt (a + BitVec.ofNat 32 j)) (hi : i < 16)
    (h : t.holdsWord (a + BitVec.ofNat 32 (4 * i)) v) : u.holdsWord (a + BitVec.ofNat 32 (4 * i)) v :=
  State.holdsWord_congr hb (fun j hj => by rw [word_add_ofNat]; exact same _ (by omega)) h

/-! Spills and pushes. -/

/-- A spill to write-protected internal RAM raises TYPE.MISMATCH and stores nothing (20_memory R87,
notes/assumptions/65.md). -/
theorem spillSet_raises (x : CachedFrame) (s : State) (hp : s.protectedIn s.supervisor x.save 64 = true) :
    spillSet x s = .error (.raise .mismatch) s := by
  simp [spillSet, M.bind_run, hp]

/-- A push into a full cache spills the first of the cached sets and the new one, which is the new one itself where the
cache is empty (45_call_return R505). -/
theorem pushFrame_full {s : State} {f x : CachedFrame} {rest : List CachedFrame} (hp : s.pushSpills = true)
    (hi : s.chainIntact = true) (hx : s.frames.cache ++ [f] = x :: rest) :
    pushFrame f s = (spillSet x >>= fun _ => modify fun t => t.withFrames { t.frames with cache := rest }) s := by
  cases hc : s.frames.cache with
  | cons old others =>
    obtain ⟨rfl, rfl⟩ : old = x ∧ others ++ [f] = rest := by simpa [hc] using hx
    simp [pushFrame, M.bind_run, hp, hc, hi]
  | nil =>
    obtain ⟨rfl, rfl⟩ : f = x ∧ [] = rest := by simpa [hc] using hx
    obtain h | ⟨e, h, -⟩ := spillSet_cases f s
    · have same : { (s.pokeWords f.save f.regs.toList).frames with cache := [] } =
          (s.pokeWords f.save f.regs.toList).frames := by rw [(s.pokeWords_frame _ _).frames, ← hc]
      simp only [pushFrame, M.bind_run, M.get_run, hp, hc, h, M.modify_run, same, if_true]
      rfl
    · simp [pushFrame, M.bind_run, hp, hc, h]

/-- The first of the cached sets and the new one is the oldest, if there is one. -/
theorem State.pushed_cons {s : State} {old : CachedFrame} {rest : List CachedFrame} (hc : s.frames.cache = old :: rest)
    (rip : Slot) : s.frames.cache ++ [s.suspended rip] = old :: (rest ++ [s.suspended rip]) := by
  rw [hc, List.cons_append]

/-! The call operation. -/

/-- What a call of return type `rt` writes to the low bits of PFP: the prereturn flag and the type (R503, R504). -/
def State.linkFlags (s : State) (rt : BitVec 3) : Word := (if s.callTraced then 8 else 0) ||| rt.zeroExtend 32

/-- No prereturn flag is left where no call is traced. -/
theorem State.linkFlags_untraced {s : State} (h : s.untraced) (rt : BitVec 3) : s.linkFlags rt = rt.zeroExtend 32 := by
  simp [State.linkFlags, State.callTraced, h.1]

/-- `t` is `s` in the new frame of a call, and of `s` the call has changed only the frame and memory: the cache of `t` is
`cache`. -/
structure State.CallMade (s t : State) (target base flags : Word) (cache : List CachedFrame) : Prop where
  ip : t.ip = target &&& 0xFFFFFFFC
  enters : s.entersFrame t base flags
  cached : t.frames.cache = cache
  ac : t.ac = s.ac
  special : s.sameSpecial t
  trace : t.trace = s.trace

/-- A new frame entered from a state whose cache alone is another (45_call_return R503). -/
theorem State.Recached.callMade {s u : State} {cache : List CachedFrame} (h : s.Recached u cache) (target base : Word)
    (rt : BitVec 3) :
    s.CallMade (u.enterFrame (s.linkWord rt) (roundUp16 base) target) target base (s.linkFlags rt) cache := by
  have special := u.sameSpecial_enterFrame (s.linkWord rt) (roundUp16 base) target
  have same := h.sameSpecial
  refine ⟨rfl, ⟨u.enterFrame_fp _ _ _, u.enterFrame_sp _ _ _, ?pfp, ?globals, rfl, rfl, ?reserved, ?unset⟩, ?cached,
    (u.enterFrame_ac _ _ _).trans h.stores.ac, ?special, (u.enterFrame_trace _ _ _).trans h.stores.trace⟩
  case pfp => rw [u.enterFrame_pfp, State.linkWord, BitVec.or_assoc]; rfl
  case globals => exact fun n hn h31 => (u.enterFrame_global _ _ _ n hn h31).trans (h.slot n)
  case reserved => rw [State.enterFrame_frames, h.frames]
  case unset => rw [State.enterFrame_frames, h.frames]; rfl
  case cached => rw [State.enterFrame_frames, h.frames]
  case special => simp_all [State.sameSpecial]

/-- A cache that ends with the set of `s` is the older sets and that one (45_call_return R503, R505). -/
theorem State.CallMade.suspendsOnto {s t : State} {target base flags : Word} {old : List CachedFrame} {rip : Slot}
    (h : s.CallMade t target base flags (old ++ [s.suspended rip])) : s.suspendsOnto t old rip := by
  rw [State.suspendsOnto, h.cached]
  exact ⟨List.dropLast_concat, _, List.getLast?_concat, s.suspendedAs_suspended rip⟩

/-- A new frame stores its save area alone (10_state R26). -/
theorem State.byteAt_enterFrame_ne (u : State) (pfp fp target : Word) {b : Word}
    (h : ∀ i < 64, b ≠ fp + BitVec.ofNat 32 i) : (u.enterFrame pfp fp target).byteAt b = u.byteAt b := by
  rw [u.byteAt_enterFrame]
  exact u.byteAt_pokeWords_ne fp b _ fun i hi => h i (by simpa [newSaveArea] using hi)

/-- `t` is `s` with the set `x` in its save area and a new frame at `fp`: the area holds the set unless the two overlap,
and every other byte of memory outside the new save area is as before (10_state R26, 45_call_return R505). -/
def State.spillsTo (s t : State) (x : CachedFrame) (fp : Word) : Prop :=
  ((∀ i < 64, ∀ j < 64, x.save + BitVec.ofNat 32 i ≠ fp + BitVec.ofNat 32 j) → ∀ i < 16,
    t.holdsWord (x.save + BitVec.ofNat 32 (4 * i)) ((x.regs.toList)[i]?.getD (.val 0))) ∧
  (∀ b : Word, (∀ i < 64, b ≠ x.save + BitVec.ofNat 32 i ∧ b ≠ fp + BitVec.ofNat 32 i) → t.byteAt b = s.byteAt b)

theorem State.spillsTo_enterFrame (s : State) (x : CachedFrame) (cache : List CachedFrame) (pfp fp target : Word)
    (hm : s.mem.wf = true) (hw : s.wordsWritable x.save 16) :
    s.spillsTo ((s.stowed x cache).enterFrame pfp fp target) x fp := by
  refine ⟨fun apart i hi => ?_, fun b hb => ?_⟩
  · obtain ⟨-, -, -, -, config, -⟩ := (s.stowed x cache).sameSpecial_enterFrame pfp fp target
    refine State.holdsWord_of_sameArea ?_ (fun j hj => State.byteAt_enterFrame_ne _ _ _ _ (apart j hj)) hi
      (s.holdsWord_stowed x cache hm hw i hi)
    simp only [State.bigEndian, config]
  · rw [State.byteAt_enterFrame_ne _ _ _ _ fun i hi => (hb i hi).2]
    exact s.byteAt_stowed_ne x cache fun i hi => (hb i hi).1

section
variable {s : State} {rip : Slot} (target : Word) (rt : BitVec 3) (base : Word)

/-- A call that the cache has room for suspends the set of the caller (45_call_return R503, R505). -/
theorem doCall_room (hp : s.pushSpills = false) : ∃ t, doCall rip target rt base s = .ok () t ∧
    s.CallMade t target base (s.linkFlags rt) (s.frames.cache ++ [s.suspended rip]) ∧
    s.sameBytesBut t (frameAt base) 64 := by
  refine ⟨_, ?run, (s.recached_withFrames _).callMade target base rt, fun b hb => State.byteAt_enterFrame_ne _ _ _ _ hb⟩
  simp [doCall, pushFrame, M.bind_run, hp]

variable {x : CachedFrame} {rest : List CachedFrame} (hp : s.pushSpills = true) (hi : s.chainIntact = true)
  (hx : s.frames.cache ++ [s.suspended rip] = x :: rest)
include hp hi hx

/-- A call into a full cache raises TYPE.MISMATCH where the first set cannot be spilled (20_memory R87,
notes/assumptions/65.md). -/
theorem doCall_raises (hprot : s.protectedIn s.supervisor x.save 64 = true) :
    doCall rip target rt base s = .error (.raise .mismatch) s := by
  simp only [doCall, M.bind_run, M.get_run, pushFrame_full hp hi hx, spillSet_raises x s hprot]

/-- A call into a full cache spills the first set to RAM that is not protected, and goes on (45_call_return R505). -/
theorem doCall_full (hm : s.mem.wf = true) (hw : s.wordsWritable x.save 16)
    (hprot : s.protectedIn s.supervisor x.save 64 = false) : ∃ t, doCall rip target rt base s = .ok () t ∧
      s.CallMade t target base (s.linkFlags rt) rest ∧ s.spillsTo t x (frameAt base) := by
  refine ⟨_, ?run, (s.recached_stowed x rest).callMade target base rt, s.spillsTo_enterFrame x rest _ _ target hm hw⟩
  simp only [doCall, M.bind_run, M.get_run, pushFrame_full hp hi hx, spillSet_ok x s hw hprot, M.modify_run,
    (s.pokeWords_frame _ _).frames, State.stowed]

end

end Sys2Proof.Machine
end

section
/-! `call` and `callx` into a full register cache, and `flushreg` (45_call_return R505, R520, R521, R524). -/

namespace Sys2Proof.Machine

/-! Local calls. -/

theorem localCall_eq (rip target : Word) (s : State) : localCall rip target s =
    (doCall (.val rip) target 0 (s.reg 1) >>= fun _ => (pure (transferred evCall) : M Done)) s :=
  M.bind_ok (M.get_run s)

/-- The end of the instruction changes nothing that is said of a call. -/
theorem State.CallMade.retire {s t : State} {target base flags : Word} {cache : List CachedFrame}
    (h : s.CallMade t target base flags cache) : s.CallMade (t.retire true) target base flags cache :=
  ⟨h.ip, h.enters, h.cached, h.ac, h.special, h.trace⟩

theorem State.spillsTo.retire {s t : State} {x : CachedFrame} {fp : Word} (h : s.spillsTo t x fp) :
    s.spillsTo (t.retire true) x fp := h

section
variable {s : State} {len target : Word} {x : CachedFrame} {rest : List CachedFrame} (hp : s.pushSpills = true)
  (hi : s.chainIntact = true) (hx : s.frames.cache ++ [s.suspended (.val (s.ip + len))] = x :: rest)
include hp hi hx

theorem run_localCall_raises (hprot : s.protectedIn s.supervisor x.save 64 = true) :
    run len (localCall (s.ip + len) target) s = s.raised len .mismatch := by
  refine run_raise len _ s s .mismatch ?_
  rw [localCall_eq]
  exact M.bind_error (doCall_raises target 0 (s.reg 1) hp hi hx hprot)

theorem run_localCall_full (hu : s.untraced) (hm : s.mem.wf = true) (hw : s.wordsWritable x.save 16)
    (hprot : s.protectedIn s.supervisor x.save 64 = false) :
    ∃ t, run len (localCall (s.ip + len) target) s = .next t ∧ s.CallMade t target (s.reg 1) 0 rest ∧
      s.spillsTo t x (frameAt (s.reg 1)) := by
  obtain ⟨t, run, called, spills⟩ := doCall_full target 0 (s.reg 1) hp hi hx hm hw hprot
  have action : localCall (s.ip + len) target s = .ok (transferred evCall) t := by
    rw [localCall_eq]; exact M.bind_ok run
  rw [s.linkFlags_untraced hu] at called
  exact ⟨_, run_transfer action hu (by rw [called.trace]; exact hu.2) rfl rfl rfl, called.retire, spills.retire⟩

end

/-- The registers of a suspended set (45_call_return R503). -/
theorem State.suspended_regs_get (s : State) (rip : Slot) {i : Nat} (hi : i < 16) :
    ((s.suspended rip).regs.toList)[i]?.getD (.val 0) = if i = 2 then rip else s.slot (BitVec.ofNat 5 i) := by
  have small : i % 32 = i := Nat.mod_eq_of_lt (by omega)
  have list : ((s.suspended rip).regs.toList)[i]?.getD (.val 0) = (s.locals.set 2 rip)[i] := by
    simp [State.suspended, hi]
  simp only [list, Vector.getElem_set, State.slot, BitVec.toNat_ofNat, small, dif_pos hi, eq_comm (a := 2)]

/-- Where FP names the current frame, that is the save area (45_call_return R506). -/
theorem State.suspended_save (s : State) (rip : Slot) (h : s.fpAddress = s.frames.current) :
    (s.suspended rip).save = s.frames.current := by
  simp [State.suspended, h]

/-- An empty cache is an intact chain (45_call_return R509 b). -/
theorem State.chainIntact_nil {s : State} (h : s.frames.cache = []) : s.chainIntact = true := by
  simp [State.chainIntact, h]

/-- Settles O29: a call into a full cache spills the first of the cached sets and its own. -/
theorem callSpillsOldest : Obligations.CallSpillsOldest := by
  unfold Obligations.CallSpillsOldest
  intro disp m s hu hp p hmem
  have call : exec p.1 s = run p.2.2 (localCall (s.ip + p.2.2) p.2.1) s := by
    revert p
    simp only [List.forall_mem_cons, List.not_mem_nil, false_imp_iff, implies_true, and_true]
    exact ⟨exec_call_eq disp s, exec_callx_eq m s⟩
  rw [call]
  refine ⟨fun old rest hc hi => ?oldest, fun hc save hsave hfp => ?own⟩
  case oldest =>
    have hx := s.pushed_cons hc (.val (s.ip + p.2.2))
    refine ⟨run_localCall_raises hp hi hx, fun hm hw hprot => ?_⟩
    obtain ⟨t, next, called, holds, others⟩ := run_localCall_full (target := p.2.1) hp hi hx hu hm hw hprot
    exact ⟨t, next, called.ip, called.enters, called.suspendsOnto, called.ac, called.special, holds, others⟩
  case own =>
    have hx : s.frames.cache ++ [s.suspended (.val (s.ip + p.2.2))] = [s.suspended (.val (s.ip + p.2.2))] := by
      rw [hc, List.nil_append]
    have hi := s.chainIntact_nil hc
    have area : (s.suspended (.val (s.ip + p.2.2))).save = save :=
      (s.suspended_save _ (hfp.trans hsave)).trans hsave.symm
    have raises := run_localCall_raises (target := p.2.1) hp hi hx
    have full := run_localCall_full (target := p.2.1) hp hi hx hu
    rw [area] at raises full
    refine ⟨raises, fun hm hw hprot => ?_⟩
    obtain ⟨t, next, called, holds, others⟩ := full hm hw hprot
    rw [area] at holds others
    refine ⟨t, next, called.ip, called.enters, called.cached, called.ac, called.special, fun apart i hi => ?_, others⟩
    have word := holds apart i hi
    rwa [s.suspended_regs_get _ hi] at word

/-! `flushreg`. -/

section
variable {s : State} {x : CachedFrame} {rest : List CachedFrame} (hc : s.frames.cache = x :: rest)
  (hi : s.chainIntact = true)
include hc hi

theorem spillOldest_raises (hprot : s.protectedIn s.supervisor x.save 64 = true) :
    spillOldest s = .error (.raise .mismatch) s := by
  simp [spillOldest, M.bind_run, hc, hi, spillSet_raises x s hprot]

theorem spillOldest_ok (hw : s.wordsWritable x.save 16) (hprot : s.protectedIn s.supervisor x.save 64 = false) :
    spillOldest s = .ok () (s.stowed x rest) := by
  simp [spillOldest, M.bind_run, hc, hi, spillSet_ok x s hw hprot, State.stowed, (s.pokeWords_frame _ _).frames]

/-- A spill of the first set leaves the last one last (45_call_return R509 b). -/
theorem State.chainIntact_stowed : (s.stowed x rest).chainIntact = true := by
  have pfp : (s.stowed x rest).pfpAddress = s.pfpAddress :=
    congrArg (fun v : Slot => v.get &&& 0xFFFFFFF0) ((s.recached_stowed x rest).slot 0)
  cases rest with
  | nil => rfl
  | cons y others =>
    have cache : (s.stowed x (y :: others)).frames.cache = y :: others := rfl
    simpa only [State.chainIntact, pfp, cache, hc, List.getLast?_cons_cons] using hi

end

/-- `t` is `s` with the suspended sets `sets` in their save areas, and its cache empty (45_call_return R524). -/
structure State.Flushed (s t : State) (sets : List CachedFrame) : Prop where
  recached : s.Recached t []
  holds : sets.Pairwise (fun f g => f.save.toNat + 64 ≤ g.save.toNat ∨ g.save.toNat + 64 ≤ f.save.toNat) →
    ∀ f ∈ sets, ∀ i < 16, t.holdsWord (f.save + BitVec.ofNat 32 (4 * i)) ((f.regs.toList)[i]?.getD (.val 0))
  others : ∀ b : Word, (∀ f ∈ sets, ∀ i < 64, b ≠ f.save + BitVec.ofNat 32 i) → t.byteAt b = s.byteAt b

/-- The bytes of a save area of RAM do not wrap around, MMR space being above it (20_memory R97). -/
theorem State.toNat_saveArea {s : State} {a : Word} (hw : s.wordsWritable a 16) {i : Nat} (hi : i < 64) :
    (a + BitVec.ofNat 32 i).toNat = a.toNat + i := by
  have base := (hw 0 (by decide)).1
  rw [Nat.mul_zero, word_add_zero] at base
  exact toNat_add_of_ne_mmr base (by omega)

/-- Save areas that are apart as ranges have no byte in common. -/
theorem State.saveAreas_apart {s : State} {a b : Word} (ha : s.wordsWritable a 16) (hb : s.wordsWritable b 16)
    (h : a.toNat + 64 ≤ b.toNat ∨ b.toNat + 64 ≤ a.toNat) :
    ∀ i < 64, ∀ j < 64, a + BitVec.ofNat 32 i ≠ b + BitVec.ofNat 32 j := by
  intro i hi j hj e
  have same := congrArg BitVec.toNat e
  rw [State.toNat_saveArea ha hi, State.toNat_saveArea hb hj] at same
  omega

/-- One set is spilled and then the others. -/
theorem State.Flushed.cons {s t : State} {x : CachedFrame} {rest : List CachedFrame} (hm : s.mem.wf = true)
    (hw : ∀ f ∈ x :: rest, s.wordsWritable f.save 16) (h : (s.stowed x rest).Flushed t rest) :
    s.Flushed t (x :: rest) := by
  have hx : s.wordsWritable x.save 16 := hw x List.mem_cons_self
  refine ⟨(s.recached_stowed x rest).trans h.recached, fun apart f hf i hi => ?_, fun b hb => ?_⟩
  · obtain ⟨first, later⟩ := List.pairwise_cons.mp apart
    obtain rfl | hf := List.mem_cons.mp hf
    · refine State.holdsWord_of_sameArea h.recached.bigEndian (fun j hj => h.others _ fun g hg k hk => ?_) hi
        (s.holdsWord_stowed f rest hm hx i hi)
      exact State.saveAreas_apart hx (hw g (List.mem_cons_of_mem _ hg)) (first g hg) j hj k hk
    · exact h.holds later f hf i hi
  · rw [h.others b fun f hf => hb f (List.mem_cons_of_mem _ hf)]
    exact s.byteAt_stowed_ne x rest (hb x List.mem_cons_self)

/-- All the suspended sets are spilled, oldest first, where each save area is RAM that is not protected
(45_call_return R524). -/
theorem spillAll_ok {s : State} {sets : List CachedFrame} (hc : s.frames.cache = sets) (hi : s.chainIntact = true)
    (hm : s.mem.wf = true) (hw : ∀ f ∈ sets, s.wordsWritable f.save 16)
    (hprot : ∀ f ∈ sets, s.protectedIn s.supervisor f.save 64 = false) :
    ∃ t, spillAll sets.length s = .ok () t ∧ s.Flushed t sets := by
  induction sets generalizing s with
  | nil =>
    have same : s.withFrames { s.frames with cache := [] } = s := by rw [← hc]; rfl
    exact ⟨s, rfl, same ▸ s.recached_withFrames [], fun _ _ hf => (nomatch hf), fun _ _ => rfl⟩
  | cons x rest ih =>
    have recached := s.recached_stowed x rest
    have protected_ : ∀ f ∈ rest, (s.stowed x rest).protectedIn (s.stowed x rest).supervisor f.save 64 = false := by
      intro f hf
      have mode : (s.stowed x rest).supervisor = s.supervisor := congrArg pcSupervisor recached.stores.pc
      rw [mode, State.protectedIn_congr (t := s.stowed x rest) recached.stores.config]
      exact hprot f (List.mem_cons_of_mem _ hf)
    obtain ⟨t, run, flushed⟩ := ih (s := s.stowed x rest) rfl (State.chainIntact_stowed hc hi)
      (s.stowed_wf x rest hm) (fun f hf => recached.wordsWritable (hw f (List.mem_cons_of_mem _ hf))) protected_
    refine ⟨t, ?_, flushed.cons hm hw⟩
    have first := spillOldest_ok hc hi (hw x List.mem_cons_self) (hprot x List.mem_cons_self)
    simp only [List.length_cons, spillAll, M.bind_run, M.get_run, hc, first, run]

/-- The action of `flushreg` (45_call_return R524). -/
def flushAction (n : Nat) : M Done := do
  spillAll n
  modify (fun u => u.withFrames { u.frames with pfpDirty := false })
  pure {}

theorem exec_flushreg_eq (s : State) : exec .flushreg s = run 4 (flushAction s.frames.cache.length) s := by
  unfold exec execFlushreg
  exact run_congr (M.bind_ok (M.get_run s))

/-- Settles O30: the sets are spilled one by one, by induction on the cache. -/
theorem flushregEmptiesCache : Obligations.FlushregEmptiesCache := by
  unfold Obligations.FlushregEmptiesCache
  refine ⟨fun s f rest hc hi hprot => ?raises, fun s hu hi hm hsets => ?flushes⟩
  case raises =>
    rw [exec_flushreg_eq]
    refine run_raise 4 _ s s .mismatch (M.bind_error ?_)
    simp only [hc, List.length_cons, spillAll, M.bind_run, M.get_run, spillOldest_raises hc hi hprot]
  case flushes =>
    obtain ⟨t, run, recached, holds, others⟩ := spillAll_ok rfl hi hm
      (fun f hf => (hsets f hf).1) fun f hf => (hsets f hf).2
    have action : flushAction s.frames.cache.length s = .ok {} (t.withFrames { t.frames with pfpDirty := false }) :=
      M.bind_ok run
    obtain ⟨cache, reserved, current, unset⟩ := recached.sameFrames
    have window : t.trace.teWindow = 0 := (congrArg TraceDelay.teWindow recached.stores.trace).trans hu.2
    refine ⟨_, (exec_flushreg_eq s).trans (run_after action hu window rfl rfl rfl), cache, rfl, reserved,
      current, unset, holds, others, recached.slot, recached.stores.ac, ?_, recached.sameSpecial⟩
    exact congrArg (· + 4) recached.stores.ip

end Sys2Proof.Machine
end

section
/-! `calls`: the system procedure table, the change to supervisor mode, and the calls themselves (45_call_return R505,
R511 to R515, R522). -/

namespace Sys2Proof.Machine

/-! Changes of the mode and of the trace enable in PC (10_state R42). -/

/-- The lowest bit of a word as a word. -/
theorem and_one_eq (w : Word) : w &&& 1 = if w.getLsbD 0 then 1 else 0 := BitVec.and_twoPow w 0

theorem pcSetSupervisor_true (pc : Word) : pcSetSupervisor pc true = pc ||| 2 := by
  refine BitVec.eq_of_getLsbD_eq fun i hi => ?_
  rw [pcSetSupervisor, getLsbD_merge _ _ _ hi, if_pos rfl, BitVec.getLsbD_or]
  cases (2 : Word).getLsbD i <;> simp

theorem pcSetSupervisor_false (pc : Word) : pcSetSupervisor pc false = pc &&& ~~~2 := BitVec.zero_or

theorem pcSetTe_eq (pc : Word) (te : Bool) : pcSetTe pc te = (pc &&& ~~~1) ||| (if te then 1 else 0) := by
  rw [pcSetTe, merge, BitVec.or_comm]; cases te <;> rfl

/-- PC after a change to supervisor mode that loads `te` (45_call_return R522). -/
def supervisorPc (pc : Word) (te : Bool) : Word := (pc &&& ~~~1) ||| 2 ||| if te then 1 else 0

theorem pcSetTe_supervisor (pc : Word) (te : Bool) : pcSetTe (pcSetSupervisor pc true) te = supervisorPc pc te := by
  rw [pcSetTe_eq, pcSetSupervisor_true, BitVec.and_or_distrib_right]; rfl

/-- PC after a change to user mode that sets `te` (45_call_return R523). -/
theorem pcSetSupervisor_setTe (pc : Word) (te : Bool) :
    pcSetSupervisor (pcSetTe pc te) false = (pc &&& ~~~3) ||| if te then 1 else 0 := by
  rw [pcSetTe_eq, pcSetSupervisor_false, BitVec.and_or_distrib_right, BitVec.and_assoc]; cases te <;> rfl

/-- PC with its `te` cleared, where it is clear. -/
theorem clearTe_of_clear {pc : Word} (h : pcTe pc = false) : pc &&& ~~~1 = pc := by
  have all : ~~~(1 : Word) ||| 1 = BitVec.allOnes 32 := rfl
  have bit : pc &&& 1 = 0 := by rw [and_one_eq, show pc.getLsbD 0 = false from h]; rfl
  calc pc &&& ~~~1 = pc &&& ~~~1 ||| pc &&& 1 := by rw [bit]; exact BitVec.or_zero.symm
    _ = pc := by rw [← BitVec.and_or_distrib_left, all, BitVec.and_allOnes]

section
variable (pc : Word) (te : Bool)

theorem pcTe_supervisorPc : pcTe (supervisorPc pc te) = te := by cases te <;> simp [pcTe, supervisorPc]

theorem pcSupervisor_supervisorPc : pcSupervisor (supervisorPc pc te) = true := by
  cases te <;> simp [pcSupervisor, supervisorPc]

theorem pcInterrupted_supervisorPc : pcInterrupted (supervisorPc pc te) = pcInterrupted pc := by
  cases te <;> simp [pcInterrupted, supervisorPc]

theorem pcPriority_supervisorPc : pcPriority (supervisorPc pc te) = pcPriority pc := by
  have all : (~~~(1 : Word)).extractLsb' 16 5 = BitVec.allOnes 5 := rfl
  have top : ((2 : Word) ||| if te then 1 else 0).extractLsb' 16 5 = 0 := by cases te <;> rfl
  rw [pcPriority, supervisorPc, BitVec.or_assoc, BitVec.extractLsb'_or, top, BitVec.extractLsb'_and, all,
    BitVec.and_allOnes]
  exact BitVec.or_zero

end

/-! Trace modes (10_state R49). -/

/-- The mode of the event of bit `i`. -/
theorem tcMode_twoPow (tc : Word) {i : Nat} (hi : i < 8) :
    tcMode tc (BitVec.twoPow 8 i) = (tc.setWidth 8).getLsbD i := by
  have bit : ∀ i < 8, BitVec.twoPow 8 i ≠ 0 := by decide
  rw [tcMode, BitVec.and_twoPow]
  cases (tc.setWidth 8).getLsbD i with
  | false => rfl
  | true => exact bne_iff_ne.mpr (bit i hi)

theorem tcMode_call (tc : Word) : tcMode tc evCall = (tc.setWidth 8).getLsbD 3 := tcMode_twoPow tc (i := 3) (by decide)

/-! The state in which a call makes its frame after a change to supervisor mode. -/

/-- `s` with PC as a call to an entry of type 10 in user mode sets it (45_call_return R522). -/
def State.inSupervisor (s : State) : State := s.withPc (supervisorPc s.pc (s.tables.ssp.getLsbD 0))

/-- The change of PC ends no window of `modpc` where none is open. -/
theorem State.setPcNow_of_noWindow {s : State} (h : s.trace.teWindow = 0) (pc : Word) : s.setPcNow pc = s.withPc pc := by
  rw [State.setPcNow, ← h]; rfl

section
variable (s : State)

theorem State.inSupervisor_pc : s.inSupervisor.pc = (s.pc &&& ~~~1) ||| 2 ||| (s.tables.ssp &&& 1) := by
  rw [and_one_eq]; rfl

/-- The room in the cache does not depend on the mode (45_call_return R505). -/
theorem State.pushSpills_inSupervisor : s.inSupervisor.pushSpills = s.pushSpills := by
  have priority : pcPriority s.inSupervisor.pc = pcPriority s.pc := pcPriority_supervisorPc _ _
  have interrupted : pcInterrupted s.inSupervisor.pc = pcInterrupted s.pc := pcInterrupted_supervisorPc _ _
  simp only [State.pushSpills, priority, interrupted]
  rfl

theorem State.protectedIn_inSupervisor (a : Word) (n : Nat) :
    s.inSupervisor.protectedIn s.inSupervisor.supervisor a n = s.protectedIn true a n := by
  have mode : s.inSupervisor.supervisor = true := pcSupervisor_supervisorPc _ _
  have config : s.inSupervisor.config = s.config := rfl
  rw [mode, State.protectedIn_congr config]

/-- The prereturn flag goes by the new `te` (45_call_return R504, notes/assumptions/33.md). -/
theorem State.linkFlags_inSupervisor (rt : BitVec 3) : s.inSupervisor.linkFlags rt =
    (if s.tables.ssp.getLsbD 0 && (s.tc.setWidth 8).getLsbD 3 then 8 else 0) ||| rt.zeroExtend 32 := by
  rw [State.linkFlags, State.callTraced, tcMode_call, State.inSupervisor, State.withPc_pc, pcTe_supervisorPc]
  rfl

/-- The low bits of PFP after a call of return type 2 to supervisor mode: the type, the prereturn flag by the new PC. -/
theorem State.linkFlags_switch :
    s.inSupervisor.linkFlags 2 = if s.tables.ssp.getLsbD 0 && s.tc.getLsbD 3 then 10 else 2 := by
  have mode : (s.tc.setWidth 8).getLsbD 3 = s.tc.getLsbD 3 := by simp
  rw [s.linkFlags_inSupervisor, mode]
  cases s.tables.ssp.getLsbD 0 && s.tc.getLsbD 3 <;> rfl

end

/-- What a call in the changed state does, said of the state before. -/
theorem State.CallMade.ofInSupervisor {s t : State} {target base flags : Word} {cache : List CachedFrame}
    (h : s.inSupervisor.CallMade t target base flags cache) : t.ip = target &&& 0xFFFFFFFC ∧
      s.entersFrame t base flags ∧ t.ac = s.ac ∧ t.pc = s.inSupervisor.pc ∧ s.sameSpecial (t.withPc s.pc) := by
  obtain ⟨pc, others⟩ := h.special
  exact ⟨h.ip, h.enters, h.ac, pc, rfl, others⟩

/-! The entries of the system procedure table. -/

/-- The type of an entry by its two bits (45_call_return R512). -/
theorem entryType_eq (w : Word) : w.extractLsb' 0 2 = BitVec.ofBool (w.getLsbD 1) ++ BitVec.ofBool (w.getLsbD 0) := by
  have bits : ∀ v : BitVec 2, v = BitVec.ofBool (v.getLsbD 1) ++ BitVec.ofBool (v.getLsbD 0) := by decide
  rw [bits (w.extractLsb' 0 2), BitVec.getLsbD_extractLsb', BitVec.getLsbD_extractLsb']
  rfl

theorem systemCall_reserved {w : Word} (h : w.getLsbD 0 = true) (s : State) :
    systemCall w s = .error (.refuse .reservedSptEntry) s := by
  rw [systemCall, entryType_eq, h]
  cases w.getLsbD 1 <;> rfl

/-- An entry of type 00 is called as by `call`. -/
theorem systemCall_local {w : Word} (h : w.extractLsb' 0 2 = 0#2) (s : State) : systemCall w s =
    (doCall (.val (s.ip + 4)) w 0 (s.reg 1) >>= fun _ => (pure (transferred evCall) : M Done)) s := by
  rw [systemCall, h]; rfl

/-- An entry of type 10 is called in the same way in supervisor mode, and signals the supervisor event. -/
theorem systemCall_supervisor {w : Word} (h : w.extractLsb' 0 2 = 2#2) {s : State} (hs : s.supervisor = true) :
    systemCall w s = (doCall (.val (s.ip + 4)) w 0 (s.reg 1) >>= fun _ =>
      (pure (transferred (evCall ||| evSupervisor)) : M Done)) s := by
  rw [systemCall, h, M.bind_ok (M.get_run s), hs]; rfl

/-- An entry of type 10 changes user mode to supervisor mode and calls on the supervisor stack. -/
theorem systemCall_switches {w : Word} (h : w.extractLsb' 0 2 = 2#2) {s : State} (hs : s.supervisor = false)
    (window : s.trace.teWindow = 0) : systemCall w s =
      (doCall (.val (s.ip + 4)) w (if pcTe s.pc then 3 else 2) (s.tables.ssp &&& 0xFFFFFFFC) >>= fun _ =>
        (pure (transferred (evCall ||| evSupervisor)) : M Done)) s.inSupervisor := by
  rw [systemCall, h, M.bind_ok (M.get_run s), hs]
  show (switchCall _ _ _ _ _ >>= _) s = _
  rw [M.bind_run, switchCall_run, State.setPcNow_of_noWindow window, pcSetTe_supervisor, ← State.inSupervisor,
    ← M.bind_run]

/-! `calls` by its operand. -/

/-- The entry of the system procedure table that `calls` names (45_call_return R511, R522). -/
def State.procedureEntry (s : State) (src1 : Operand) : Word := s.tables.spt + 48 + 4 * operandValue src1 Site.src1 s

section
variable {src1 : Operand} {s : State}

theorem exec_calls_length (hn : 259 < (operandValue src1 Site.src1 s).toNat) :
    exec (.calls src1) s = s.raised 4 .length := by
  unfold exec execCalls
  refine run_raise 4 _ s s .length ?_
  rw [M.bind_ok (M.get_run s), if_pos hn]
  rfl

variable (hn : (operandValue src1 Site.src1 s).toNat ≤ 259) (hset : s.settled (s.procedureEntry src1) 4)
include hn hset

theorem exec_calls_eq : exec (.calls src1) s = run 4 (systemCall (s.wordAt (s.procedureEntry src1))) s := by
  unfold exec execCalls
  refine run_congr ?_
  rw [M.bind_ok (M.get_run s), if_neg (Nat.not_lt.mpr hn)]
  exact M.bind_ok (readImplicit_ok true _ s hset)

end

/-- The end of an untraced instruction whose action is a call, made in `u`. -/
theorem run_doCall {s u t : State} {len target base : Word} {rip : Slot} {rt : BitVec 3} {ev : BitVec 8} {action : M Done}
    (h : action s = (doCall rip target rt base >>= fun _ => (pure (transferred ev) : M Done)) u)
    (ok : doCall rip target rt base u = .ok () t) (hu : s.untraced) (window : t.trace.teWindow = 0) :
    run len action s = .next (t.retire true) :=
  run_transfer (h.trans (M.bind_ok ok)) hu window rfl rfl rfl

section
variable {w : Word} {s : State} (hu : s.untraced)
include hu

/-- A system call that keeps the mode, with room in the cache. -/
theorem run_systemCall_stays (hp : s.pushSpills = false)
    (hw : w.extractLsb' 0 2 = 0#2 ∨ w.extractLsb' 0 2 = 2#2 ∧ s.supervisor = true) :
    ∃ t, run 4 (systemCall w) s = .next t ∧
      s.CallMade t w (s.reg 1) 0 (s.frames.cache ++ [s.suspended (.val (s.ip + 4))]) ∧
      s.sameBytesBut t (frameAt (s.reg 1)) 64 := by
  obtain ⟨t, ok, called, bytes⟩ := doCall_room (rip := .val (s.ip + 4)) w 0 (s.reg 1) hp
  have window : t.trace.teWindow = 0 := called.trace ▸ hu.2
  rw [s.linkFlags_untraced hu] at called
  obtain hw | ⟨hw, hs⟩ := hw
  · exact ⟨_, run_doCall (systemCall_local hw s) ok hu window, called.retire, bytes.retire _⟩
  · exact ⟨_, run_doCall (systemCall_supervisor hw hs) ok hu window, called.retire, bytes.retire _⟩

theorem systemCall_switches_untraced (hw : w.extractLsb' 0 2 = 2#2) (hs : s.supervisor = false) : systemCall w s =
    (doCall (.val (s.ip + 4)) w 2 (s.tables.ssp &&& 0xFFFFFFFC) >>= fun _ =>
      (pure (transferred (evCall ||| evSupervisor)) : M Done)) s.inSupervisor := by
  have switches := systemCall_switches hw hs hu.2
  rwa [hu.1] at switches

/-- PC after an untraced call to supervisor mode. -/
theorem State.inSupervisor_pc_untraced : s.inSupervisor.pc = s.pc ||| 2 ||| (s.tables.ssp &&& 1) := by
  rw [s.inSupervisor_pc, clearTe_of_clear hu.1]

variable (hw : w.extractLsb' 0 2 = 2#2) (hs : s.supervisor = false)
include hw hs

/-- A system call that changes the mode, with room in the cache. -/
theorem run_systemCall_switches (hp : s.pushSpills = false) :
    ∃ t, run 4 (systemCall w) s = .next t ∧
      s.inSupervisor.CallMade t w (s.tables.ssp &&& 0xFFFFFFFC)
        (if s.tables.ssp.getLsbD 0 && s.tc.getLsbD 3 then 10 else 2)
        (s.frames.cache ++ [s.suspended (.val (s.ip + 4))]) ∧
      s.sameBytesBut t (frameAt (s.tables.ssp &&& 0xFFFFFFFC)) 64 := by
  obtain ⟨t, ok, called, bytes⟩ := doCall_room (s := s.inSupervisor) (rip := .val (s.ip + 4)) w 2
    (s.tables.ssp &&& 0xFFFFFFFC) (s.pushSpills_inSupervisor.trans hp)
  have window : t.trace.teWindow = 0 := called.trace ▸ hu.2
  rw [State.linkFlags_switch] at called
  exact ⟨_, run_doCall (systemCall_switches_untraced hu hw hs) ok hu window, called.retire, bytes.retire _⟩

variable {x : CachedFrame} {rest : List CachedFrame} (hp : s.pushSpills = true) (hi : s.chainIntact = true)
  (hx : s.frames.cache ++ [s.suspended (.val (s.ip + 4))] = x :: rest)
include hp hi hx

/-- A system call that changes the mode and cannot spill faults with the mode changed (60_exceptions R640,
notes/assumptions/65.md). -/
theorem run_systemCall_raises (hprot : s.protectedIn true x.save 64 = true) :
    run 4 (systemCall w) s = s.inSupervisor.raised 4 .mismatch := by
  rw [← s.protectedIn_inSupervisor] at hprot
  refine run_raise 4 _ s s.inSupervisor _ ((systemCall_switches_untraced hu hw hs).trans (M.bind_error ?_))
  exact doCall_raises w 2 _ (s.pushSpills_inSupervisor.trans hp) hi hx hprot

/-- A system call that changes the mode spills in the new mode (20_memory R87). -/
theorem run_systemCall_spills (hm : s.mem.wf = true) (hwords : s.wordsWritable x.save 16)
    (hprot : s.protectedIn true x.save 64 = false) :
    ∃ t, run 4 (systemCall w) s = .next t ∧
      s.inSupervisor.CallMade t w (s.tables.ssp &&& 0xFFFFFFFC)
        (if s.tables.ssp.getLsbD 0 && s.tc.getLsbD 3 then 10 else 2) rest ∧
      s.spillsTo t x (frameAt (s.tables.ssp &&& 0xFFFFFFFC)) := by
  rw [← s.protectedIn_inSupervisor] at hprot
  obtain ⟨t, ok, called, spills⟩ := doCall_full w 2 (s.tables.ssp &&& 0xFFFFFFFC)
    (s.pushSpills_inSupervisor.trans hp) hi hx hm hwords hprot
  have window : t.trace.teWindow = 0 := called.trace ▸ hu.2
  rw [State.linkFlags_switch] at called
  exact ⟨_, run_doCall (systemCall_switches_untraced hu hw hs) ok hu window, called.retire, spills.retire⟩

end

/-- Settles O31: an entry is called in the state before or, where the mode changes, in `State.inSupervisor`. -/
theorem systemCalls : Obligations.SystemCalls := by
  unfold Obligations.SystemCalls
  intro src1 s
  refine ⟨exec_calls_length, fun hn hset => ?_⟩
  rw [exec_calls_eq hn hset]
  generalize hw : s.wordAt (s.tables.spt + 48 + 4 * operandValue src1 Site.src1 s) = w
  have entry : s.wordAt (s.procedureEntry src1) = w := hw
  rw [entry]
  refine ⟨fun h0 => run_refuse 4 _ s s _ (systemCall_reserved h0 s),
    fun h0 hu hp => ⟨fun hstays => ?stays, fun h1 hs => ?switches⟩, fun h2 hu hs hp hi old rest hc => ?spills⟩
  case stays =>
    have kind : w.extractLsb' 0 2 = 0#2 ∨ w.extractLsb' 0 2 = 2#2 ∧ s.supervisor = true := by
      rw [entryType_eq, h0]
      cases h1 : w.getLsbD 1 with
      | false => exact .inl rfl
      | true => exact .inr ⟨rfl, hstays.resolve_left (by simp [h1])⟩
    obtain ⟨t, next, called, bytes⟩ := run_systemCall_stays hu hp kind
    exact ⟨t, next, called.ip, called.enters, called.suspendsOnto, called.ac, called.special, bytes⟩
  case switches =>
    have h2 : w.extractLsb' 0 2 = 2#2 := by rw [entryType_eq, h0, h1]; rfl
    obtain ⟨t, next, called, bytes⟩ := run_systemCall_switches hu h2 hs hp
    obtain ⟨ip, enters, ac, pc, special⟩ := called.ofInSupervisor
    exact ⟨t, next, ip, enters, called.suspendsOnto, ac, pc.trans (State.inSupervisor_pc_untraced hu), special, bytes⟩
  case spills =>
    rintro _ rfl _ rfl
    have hx := s.pushed_cons hc (.val (s.ip + 4))
    have pcAfter := State.inSupervisor_pc_untraced hu
    refine ⟨fun hprot => ?_, fun hm hwords hprot => ?_⟩
    · rw [run_systemCall_raises hu h2 hs hp hi hx hprot, ← pcAfter]
      rfl
    · obtain ⟨t, next, called, holds, others⟩ := run_systemCall_spills hu h2 hs hp hi hx hm hwords hprot
      obtain ⟨ip, enters, ac, pc, special⟩ := called.ofInSupervisor
      exact ⟨t, next, ip, enters, called.suspendsOnto, ac, pc.trans pcAfter, special, holds, others⟩

end Sys2Proof.Machine
end

section
/-! `ret` from local calls and from supervisor calls, and where it is refused (45_call_return R504, R507, R509, R523;
70_reset R730). -/

namespace Sys2Proof.Machine

/-! The return to the frame that PFP names. -/

/-- `s` back in the frame that PFP names. Irreducible, so that a comparison of two states stops at it and uses the lemmas
below. -/
@[irreducible] def State.returned (s : State) : State := s.backIn s.popped

section
variable (s : State)

theorem returnToFrame_returned {s : State} (h : s.canReturn) : returnToFrame s = .ok () s.returned := by
  rw [State.returned, returnToFrame_ok s h]

theorem State.returned_ac : s.returned.ac = s.ac := by rw [State.returned]; rfl
theorem State.returned_trace : s.returned.trace = s.trace := by rw [State.returned]; rfl
theorem State.returnsTo_returned : s.returnsTo s.returned := by rw [State.returned]; exact s.returnsTo_backIn
theorem State.sameSpecial_returned : s.sameSpecial s.returned := by rw [State.returned]; exact s.sameSpecial_backIn
theorem State.sameBytes_returned : s.sameBytes s.returned := by rw [State.returned]; exact s.sameBytes_backIn

end

/-! The same, seen from a state with another PC. -/

section
variable {s t : State} {pc : Word}

theorem State.canReturn.withPc (h : s.canReturn) : (s.withPc pc).canReturn := h
theorem State.returnsTo.ofWithPc (h : (s.withPc pc).returnsTo t) : s.returnsTo t := h
theorem State.sameSpecial.ofWithPc (h : (s.withPc pc).sameSpecial t) : t.pc = pc ∧ s.sameSpecial (t.withPc s.pc) := by
  obtain ⟨hpc, others⟩ := h
  exact ⟨hpc, rfl, others⟩
theorem State.sameBytes.ofWithPc (h : (s.withPc pc).sameBytes t) : s.sameBytes t := h

end

/-! The return actions. -/

/-- A frame chain that does not lead to the frame of PFP is refused (45_call_return R509 b). -/
theorem returnToFrame_broken {s : State} {f : CachedFrame} (hc : s.frames.cache.getLast? = some f)
    (hf : f.link ≠ s.pfpAddress) : returnToFrame s = .error (.refuse .frameChain) s := by
  simp [returnToFrame, popFrame, M.bind_run, hc, hf]

section
variable (te : Bool) {s : State}

/-- The return types 2 and 3 are local in user mode (45_call_return R504). -/
theorem supervisorReturn_user (hs : s.supervisor = false) : supervisorReturn te s = returnToFrame s := by
  simp [supervisorReturn, M.bind_run, hs]

/-- `s` with PC as a supervisor return in supervisor mode sets it (45_call_return R523). -/
def State.inUser (s : State) (te : Bool) : State := s.withPc ((s.pc &&& ~~~3) ||| if te then 1 else 0)

theorem supervisorReturn_supervisor (hs : s.supervisor = true) (window : s.trace.teWindow = 0) :
    supervisorReturn te s = returnToFrame (s.inUser te) := by
  simp [supervisorReturn, M.bind_run, hs, State.setPcNow_of_noWindow window, pcSetSupervisor_setTe, State.inUser]

end

/-- The action of the return types 0, 2 and 3 is the return to the frame of PFP, made in `u` (45_call_return R504). -/
theorem returnBy_frame {s u : State} {rt : BitVec 3} (hr : u.canReturn)
    (h : returnBy rt s = (returnToFrame >>= fun _ => (pure (transferred evReturn) : M Done)) u) :
    returnBy rt s = .ok (transferred evReturn) u.returned :=
  h.trans (M.bind_ok (returnToFrame_returned hr))

theorem returnBy_local (s : State) :
    returnBy 0#3 s = (returnToFrame >>= fun _ => (pure (transferred evReturn) : M Done)) s := rfl

theorem returnBy_supervisor {s u : State} (te : Bool) (h : supervisorReturn te s = returnToFrame u) :
    returnBy (if te then 3#3 else 2#3) s = (returnToFrame >>= fun _ => (pure (transferred evReturn) : M Done)) u := by
  have action : returnBy (if te then 3#3 else 2#3) s =
      (supervisorReturn te >>= fun _ => (pure (transferred evReturn) : M Done)) s := by cases te <;> rfl
  rw [action, M.bind_run, h, ← M.bind_run]

/-- The reserved return types raise OPERATION.UNIMPLEMENTED (93 U27, notes/assumptions/38.md). -/
theorem returnBy_reserved {rt : BitVec 3} (h : rt ∈ [4#3, 5#3, 6#3]) (s : State) :
    returnBy rt s = .error (.raise .unimplemented) s := by
  revert rt
  simp only [List.forall_mem_cons, List.not_mem_nil, false_imp_iff, implies_true, and_true]
  exact ⟨rfl, rfl, rfl⟩

/-! `ret`. -/

section
variable {s : State} (hu : s.untraced) (hp : s.pfpSound)
include hu hp

/-- The end of an untraced return to the frame of PFP, made in `u`. -/
theorem ret_frame_next {u : State} (hr : u.canReturn) (window : u.trace.teWindow = 0)
    (h : returnBy ((s.reg 0).extractLsb' 0 3) s = (returnToFrame >>= fun _ => (pure (transferred evReturn) : M Done)) u) :
    exec .ret s = .next (u.returned.retire true) := by
  rw [exec_ret_eq s hu hp]
  exact run_transfer (returnBy_frame hr h) hu (u.returned_trace ▸ window) rfl rfl rfl

/-- A return that leaves PC alone (45_call_return R523). -/
theorem ret_local_result (hr : s.canReturn)
    (h : returnBy ((s.reg 0).extractLsb' 0 3) s = (returnToFrame >>= fun _ => (pure (transferred evReturn) : M Done)) s) :
    ∃ t, exec .ret s = .next t ∧ s.returnsTo t ∧ t.ac = s.ac ∧ s.sameSpecial t ∧ s.sameBytes t :=
  ⟨_, ret_frame_next hu hp hr hu.2 h, s.returnsTo_returned, s.returned_ac, s.sameSpecial_returned, s.sameBytes_returned⟩

/-- A return to user mode (45_call_return R523). -/
theorem ret_toUser_result (hr : s.canReturn) (hs : s.supervisor = true) (te : Bool)
    (hrt : (s.reg 0).extractLsb' 0 3 = if te then 3#3 else 2#3) :
    ∃ t, exec .ret s = .next t ∧ s.returnsTo t ∧ t.ac = s.ac ∧ t.pc = ((s.pc &&& ~~~3) ||| if te then 1 else 0) ∧
      s.sameSpecial (t.withPc s.pc) ∧ s.sameBytes t := by
  have action := returnBy_supervisor te (supervisorReturn_supervisor te hs hu.2)
  rw [← hrt] at action
  have hr' : (s.inUser te).canReturn := hr.withPc
  obtain ⟨pc, special⟩ := (s.inUser te).sameSpecial_returned.ofWithPc
  exact ⟨_, ret_frame_next hu hp hr' hu.2 action, (s.inUser te).returnsTo_returned.ofWithPc,
    (s.inUser te).returned_ac, pc, special, (s.inUser te).sameBytes_returned.ofWithPc⟩

end

theorem exec_ret_pfpDirty {s : State} (h : s.frames.pfpDirty = true) : exec .ret s = .refused .pfpDirty := by
  unfold exec execRet
  refine run_refuse 4 _ s s _ ?_
  rw [M.bind_ok (M.get_run s), if_pos h]
  rfl

theorem exec_ret_initialFrame {s : State} (hd : s.frames.pfpDirty = false)
    (h : s.frames.unsetPfp = some s.frames.current) : exec .ret s = .refused .initialFrame := by
  unfold exec execRet
  refine run_refuse 4 _ s s _ ?_
  rw [M.bind_ok (M.get_run s), hd, if_neg Bool.false_ne_true, if_pos h]
  rfl

/-- Settles O32: every completing return is the return to the frame of PFP, made in the state before or, where it leaves
supervisor mode, in `State.inUser`. -/
theorem returnsFromCalls : Obligations.ReturnsFromCalls := by
  unfold Obligations.ReturnsFromCalls
  intro s
  refine ⟨fun hu hp hr => ⟨?same, ?toUser⟩, fun hu hp rt hmem hrt => ?reserved, exec_ret_pfpDirty,
    exec_ret_initialFrame, fun hu hp hrt f hc hf => ?broken⟩
  case same =>
    have user (te : Bool) (hs : s.supervisor = false) := returnBy_supervisor te (supervisorReturn_user te hs)
    rintro (hrt | ⟨hs, hrt | hrt⟩) <;> refine ret_local_result hu hp hr ?_ <;> rw [hrt]
    · exact returnBy_local s
    · exact user false hs
    · exact user true hs
  case toUser =>
    intro hs
    simp only [List.forall_mem_cons, List.not_mem_nil, false_imp_iff, implies_true, and_true]
    exact ⟨ret_toUser_result hu hp hr hs false, ret_toUser_result hu hp hr hs true⟩
  case reserved =>
    rw [exec_ret_eq s hu hp, hrt]
    exact run_raise 4 _ s s _ (returnBy_reserved hmem s)
  case broken =>
    rw [exec_ret_eq s hu hp, hrt]
    exact run_refuse 4 _ s s _ (M.bind_error (returnToFrame_broken hc hf))

end Sys2Proof.Machine
end

section
/-! Trace events: the end of a traced instruction, and the events of branches, calls and returns (60_exceptions R700, R701;
45_call_return R504, R523). -/

namespace Sys2Proof.Machine

/-! The end of a traced instruction. -/

/-- What decides whether and how an instruction that leads from `s` to `t` is traced is in `t` as it was in `s`. -/
def State.sameTracing (s t : State) : Prop := t.tc = s.tc ∧ t.bp = s.bp ∧ t.trace = s.trace

/-- A report with no effect on the end of the step but its events, which are flags of TC. -/
def Done.plain (d : Done) : Prop :=
  d.forceMark = false ∧ d.pendingTrace = false ∧ d.poll = false ∧ d.events &&& 0xFE = d.events

/-- TC has a flag for each event of bits 7:1 (10_state R50). -/
theorem tcSetEvents_eq (tc : Word) {e : BitVec 8} (h : e &&& 0xFE = e) :
    tcSetEvents tc e = tc ||| (e.zeroExtend 32 <<< 16) := by
  have flags : e.zeroExtend 32 <<< 16 &&& tcMask = e.zeroExtend 32 <<< 16 := by
    rw [← h, BitVec.zeroExtend, BitVec.setWidth_and, BitVec.shiftLeft_and_distrib, BitVec.and_assoc]
    rfl
  rw [tcSetEvents, flags]

/-- The events that a completed instruction signals are flags of TC. -/
theorem signalled_flags {d : Done} (hd : d.plain) (modes : BitVec 8) :
    ((d.events ||| 0x02) &&& modes) &&& 0xFE = (d.events ||| 0x02) &&& modes := by
  obtain ⟨-, -, -, flags⟩ := hd
  rw [BitVec.and_assoc, BitVec.and_comm modes, ← BitVec.and_assoc, BitVec.and_or_distrib_right, flags]
  rfl

section
variable {s t : State} (hs : s.traced) (h : s.sameTracing t)
include hs h

/-- The modes and `te` of the trace are those of `s`, and no breakpoint matches (60_exceptions R700, R702). -/
theorem State.traceEvents_traced (events : BitVec 8) :
    t.traceEvents true events false = (events ||| 0x02) &&& s.tc.setWidth 8 := by
  obtain ⟨-, -, modes, breakpoints⟩ := hs
  obtain ⟨htc, hbp, htrace⟩ := h
  simp [State.traceEvents, State.breakpointMatch, State.traceModes, htc, hbp, htrace, modes, breakpoints, evInstruction]

theorem State.tracedUntil_traced : s.tracedUntil t = true := by
  obtain ⟨te, window, -⟩ := hs
  obtain ⟨-, -, htrace⟩ := h
  simp [State.tracedUntil, State.traceOn, htrace, te, window]

/-- An action that completes traced ends the step there, and the TRACE fault is taken if an event of an enabled mode is
signalled (60_exceptions R701). -/
theorem run_traced {len : Word} {action : M Done} {d : Done} (ok : action s = .ok d t) (hd : d.plain) :
    run len action s = ((if d.transfer then t else t.withIp (t.ip + len)).retire d.branch).tracedOutcome s.ip
      ((d.events ||| 0x02) &&& s.tc.setWidth 8) := by
  have flags := signalled_flags hd (s.tc.setWidth 8)
  obtain ⟨mark, pending, poll, -⟩ := hd
  have same : s.sameTracing (if d.transfer then t else t.withIp (t.ip + len)) := by cases d.transfer <;> exact h
  have events := State.traceEvents_traced hs same d.events
  generalize ended : (if d.transfer then t else t.withIp (t.ip + len)) = u at events
  generalize (d.events ||| 0x02) &&& s.tc.setWidth 8 = e at events flags
  have complete_eq : complete s.ip len true d t =
      (if e = 0 then pure () else modify (fun v => v.signal e) >>= fun _ => faultCall 1 e (.val u.ip) (.val s.ip) false :
        M Unit) (u.retire d.branch) := by
    by_cases he : e = 0 <;>
      simp [complete, M.bind_run, ended, mark, pending, poll, events, he]
  rw [run, ok]
  show toOutcome (complete s.ip len (s.tracedUntil t) d) t = _
  rw [State.tracedUntil_traced hs h, toOutcome, complete_eq, State.tracedOutcome]
  by_cases he : e = 0
  · rw [if_pos he, if_pos he]; rfl
  · rw [if_neg he, if_neg he, M.bind_ok (M.modify_run _ _), State.signal, tcSetEvents_eq _ flags]; rfl

/-- `run_traced` for an instruction that set the IP. -/
theorem run_traced_transfer {len : Word} {action : M Done} {d : Done} (ok : action s = .ok d t) (hd : d.plain)
    (ht : d.transfer = true) :
    run len action s = (t.retire d.branch).tracedOutcome s.ip ((d.events ||| 0x02) &&& s.tc.setWidth 8) := by
  rw [run_traced hs h ok hd, if_pos ht]

/-- `run_traced` for an instruction that goes on to the next one. -/
theorem run_traced_after {len : Word} {action : M Done} {d : Done} (ok : action s = .ok d t) (hd : d.plain)
    (ht : d.transfer = false) :
    run len action s = (t.after len d.branch).tracedOutcome s.ip ((d.events ||| 0x02) &&& s.tc.setWidth 8) := by
  rw [run_traced hs h ok hd, ht, if_neg Bool.false_ne_true]; rfl

end

/-! Instructions that are no calls or returns. -/

theorem State.sameTracing_refl (s : State) : s.sameTracing s := ⟨rfl, rfl, rfl⟩

theorem State.sameTracing.jump {s t : State} (h : s.sameTracing t) (target : Word) : s.sameTracing (t.jump target) := h

theorem State.sameTracing_setReg (s : State) (d : RegNum) (v : Word) : s.sameTracing (s.setReg d v) :=
  ⟨s.setSlot_tc d _, s.setSlot_bp d _, s.setSlot_trace d _⟩

/-- The reports of an instruction that signals no event of its own, and of branches, calls and returns. -/
theorem Done.plain_default : ({} : Done).plain := ⟨rfl, rfl, rfl, rfl⟩
theorem branched_plain : branched.plain := ⟨rfl, rfl, rfl, rfl⟩
theorem notTaken_plain : notTaken.plain := ⟨rfl, rfl, rfl, rfl⟩
theorem transferred_plain {events : BitVec 8} (h : events &&& 0xFE = events) : (transferred events).plain :=
  ⟨rfl, rfl, rfl, h⟩

/-- The condition of `be` is bit 1 of the condition code (44_branch R454). -/
theorem cond_equal (s : State) : cond 2 s = s.ac.getLsbD 1 := by
  have bits : ∀ c : BitVec 3, ((2#3 &&& c) != 0#3 || 2#3 == c) = c.getLsbD 1 := by decide
  show ((2#3 &&& s.cc) != 0#3 || 2#3 == s.cc) = _
  rw [bits, State.cc, BitVec.getLsbD_extractLsb']
  rfl

section
variable {s : State} (hs : s.traced)
include hs

theorem addo_traced (src1 src2 : Operand) {dst : RegNum} (hd : dst ≠ 2) :
    ∃ t, exec (.addo src1 src2 dst) s = t.tracedOutcome s.ip (0x02 &&& s.tc.setWidth 8) ∧
      t.slot dst = .val (operandValue src2 Site.src2 s + operandValue src1 Site.src1 s) ∧ t.ac = s.ac ∧
      t.ip = s.ip + 4 ∧ s.changesOnly t [dst] := by
  have only := s.changesOnly_setSlot dst (.val (operandValue src2 Site.src2 s + operandValue src1 Site.src1 s))
  have action := binary_ok (fun a b => b + a) src1 src2 dst s hd
  exact ⟨_, run_traced_after hs (s.sameTracing_setReg dst _) action Done.plain_default rfl,
    s.slot_setSlot_self dst _, s.setSlot_ac dst _, congrArg (· + 4) (s.setSlot_ip dst _),
    State.changesOnly_after only 4 false⟩

/-- An instruction that branches and does nothing else. -/
theorem branch_traced {len : Word} {action : M Done} {target : Word} (h : action s = .ok branched (s.jump target)) :
    ∃ t, run len action s = t.tracedOutcome s.ip (0x06 &&& s.tc.setWidth 8) ∧ t.ip = target &&& ~~~3 ∧ t.ac = s.ac ∧
      s.changesOnly t [] :=
  ⟨s.branchedTo target, run_traced_transfer hs (s.sameTracing_refl.jump target) h branched_plain rfl, rfl, rfl,
    State.changesOnly_branchedTo s.changesOnly_refl target⟩

theorem bal_traced (disp : BitVec 24) :
    ∃ t, exec (.bal disp) s = t.tracedOutcome s.ip (0x06 &&& s.tc.setWidth 8) ∧
      t.ip = (s.ip + disp.signExtend 32) &&& ~~~3 ∧ t.slot 30 = .val (s.ip + 4) ∧ t.ac = s.ac ∧ s.changesOnly t [30] :=
  ⟨(s.setReg linkReg (s.ip + 4)).branchedTo (s.ip + disp.signExtend 32),
    run_traced_transfer hs ((s.sameTracing_setReg linkReg _).jump _) (bal_ok disp s) branched_plain rfl, rfl,
    s.slot_setSlot_self linkReg _, s.setSlot_ac linkReg (.val (s.ip + 4)),
    State.changesOnly_branchedTo (s.changesOnly_setSlot linkReg (.val (s.ip + 4))) _⟩

theorem be_traced (disp : BitVec 24) :
    ∃ t, exec (.be disp) s = t.tracedOutcome s.ip ((if s.ac.getLsbD 1 then 0x06 else 0x02) &&& s.tc.setWidth 8) ∧
      t.ip = (if s.ac.getLsbD 1 then (s.ip + disp.signExtend 32) &&& ~~~3 else s.ip + 4) ∧ t.ac = s.ac ∧
      s.changesOnly t [] := by
  have action : exec (.be disp) s = run 4 (branchIf (s.ac.getLsbD 1) disp) s :=
    run_congr ((M.bind_ok (M.get_run s)).trans (by rw [cond_equal]))
  rw [action]
  cases s.ac.getLsbD 1 with
  | true => exact branch_traced hs (b_ok disp s)
  | false =>
    exact ⟨s.after 4 true, run_traced_after hs s.sameTracing_refl (M.pure_run notTaken s) notTaken_plain rfl, rfl, rfl,
      State.changesOnly_after s.changesOnly_refl 4 true⟩

end

/-! Calls. -/

theorem State.CallMade.sameTracing {s t : State} {target base flags : Word} {cache : List CachedFrame}
    (h : s.CallMade t target base flags cache) : s.sameTracing t := by
  obtain ⟨-, tc, -, -, -, bp, -⟩ := h.special
  exact ⟨tc, bp, h.trace⟩

/-- The prereturn flag is the mode of the call event, at its own bit (45_call_return R504). -/
theorem callMode_eq (modes : BitVec 8) : (if modes.getLsbD 3 then (8 : Word) else 0) = (modes &&& 0x08).zeroExtend 32 := by
  rw [show modes &&& 0x08 = _ from BitVec.and_twoPow modes 3]
  cases modes.getLsbD 3 <;> rfl

theorem State.linkFlags_traced {s : State} (hs : s.traced) :
    s.linkFlags 0 = (s.tc.setWidth 8 &&& 0x08).zeroExtend 32 := by
  rw [State.linkFlags, State.callTraced, hs.1, tcMode_call, Bool.true_and, callMode_eq]
  exact BitVec.or_zero

/-- The end of a traced instruction whose action is a call, made in `u`. -/
theorem run_doCall_traced {s u t : State} {len target base : Word} {rip : Slot} {rt : BitVec 3} {ev : BitVec 8}
    {action : M Done} (hs : s.traced)
    (h : action s = (doCall rip target rt base >>= fun _ => (pure (transferred ev) : M Done)) u)
    (ok : doCall rip target rt base u = .ok () t) (same : s.sameTracing t) (hev : ev &&& 0xFE = ev) :
    run len action s = (t.retire true).tracedOutcome s.ip ((ev ||| 0x02) &&& s.tc.setWidth 8) :=
  run_traced_transfer hs same (h.trans (M.bind_ok ok)) (transferred_plain hev) rfl

section
variable {s : State} (hs : s.traced) (hp : s.pushSpills = false)
include hs hp

theorem call_traced (disp : BitVec 24) :
    ∃ t, exec (.call disp) s = t.tracedOutcome s.ip (0x0A &&& s.tc.setWidth 8) ∧
      t.ip = (s.ip + disp.signExtend 32) &&& ~~~3 ∧
      s.entersFrame t (s.reg 1) ((s.tc.setWidth 8 &&& 0x08).zeroExtend 32) ∧
      s.suspendsOnto t s.frames.cache (.val (s.ip + 4)) ∧ t.ac = s.ac ∧ s.sameSpecial t ∧
      s.sameBytesBut t (frameAt (s.reg 1)) 64 := by
  obtain ⟨t, ok, called, bytes⟩ := doCall_room (rip := .val (s.ip + 4)) (s.ip + disp.signExtend 32) 0 (s.reg 1) hp
  have done := run_doCall_traced (len := 4) hs (localCall_eq _ _ s) ok called.sameTracing rfl
  rw [State.linkFlags_traced hs] at called
  exact ⟨t.retire true, (exec_call_eq disp s).trans done, called.ip, called.enters, called.suspendsOnto, called.ac,
    called.special, bytes.retire _⟩

variable {w : Word} (hw : w.extractLsb' 0 2 = 2#2)
include hw

theorem systemCall_traced_supervisor (hsup : s.supervisor = true) :
    ∃ t, run 4 (systemCall w) s = t.tracedOutcome s.ip (0x4A &&& s.tc.setWidth 8) ∧ t.ip = w &&& 0xFFFFFFFC ∧
      s.entersFrame t (s.reg 1) ((s.tc.setWidth 8 &&& 0x08).zeroExtend 32) ∧ s.sameSpecial t := by
  obtain ⟨t, ok, called, -⟩ := doCall_room (rip := .val (s.ip + 4)) w 0 (s.reg 1) hp
  have done := run_doCall_traced (len := 4) hs (systemCall_supervisor hw hsup) ok called.sameTracing rfl
  rw [State.linkFlags_traced hs] at called
  exact ⟨t.retire true, done, called.ip, called.enters, called.special⟩

theorem systemCall_traced_user (hsup : s.supervisor = false) :
    ∃ t, run 4 (systemCall w) s = t.tracedOutcome s.ip (0x4A &&& s.tc.setWidth 8) ∧ t.ip = w &&& 0xFFFFFFFC ∧
      t.pc = (s.pc &&& ~~~1) ||| 2 ||| (s.tables.ssp &&& 1) ∧
      s.entersFrame t (s.tables.ssp &&& 0xFFFFFFFC)
        (3 ||| if s.tables.ssp.getLsbD 0 then (s.tc.setWidth 8 &&& 0x08).zeroExtend 32 else 0) ∧
      s.sameSpecial (t.withPc s.pc) := by
  have ⟨te, window, _⟩ := hs
  obtain ⟨t, ok, called, -⟩ := doCall_room (s := s.inSupervisor) (rip := .val (s.ip + 4)) w 3
    (s.tables.ssp &&& 0xFFFFFFFC) (s.pushSpills_inSupervisor.trans hp)
  have action := systemCall_switches hw hsup window
  rw [te] at action
  have done := run_doCall_traced (s := s) (len := 4) hs action ok called.sameTracing rfl
  have flags : s.inSupervisor.linkFlags 3 =
      3 ||| if s.tables.ssp.getLsbD 0 then (s.tc.setWidth 8 &&& 0x08).zeroExtend 32 else 0 := by
    rw [s.linkFlags_inSupervisor, ← callMode_eq, BitVec.or_comm]
    cases s.tables.ssp.getLsbD 0 <;> rfl
  rw [flags] at called
  obtain ⟨ip, enters, -, pc, special⟩ := called.ofInSupervisor
  exact ⟨t.retire true, done, ip, pc.trans s.inSupervisor_pc, enters, special⟩

end

/-! Returns. -/

/-- A `ret` with a sound PFP is the return action that its return type selects, unless it finds the prereturn flag in
force (45_call_return R504, R523). -/
theorem exec_ret_unflagged {s : State} (hp : s.pfpSound)
    (h : ((s.reg 0).getLsbD 3 && s.traceOn && tcMode s.traceModes evPrereturn) = false) :
    exec .ret s = run 4 (returnBy ((s.reg 0).extractLsb' 0 3)) s := by
  obtain ⟨clean, set⟩ := hp
  unfold exec execRet
  refine run_congr ?_
  rw [M.bind_ok (M.get_run s), clean, if_neg Bool.false_ne_true, if_neg set, h, if_neg Bool.false_ne_true]

/-- With the prereturn flag in force a `ret` clears it and raises the prereturn TRACE fault (60_exceptions R701). -/
theorem exec_ret_flagged {s : State} (hp : s.pfpSound)
    (h : ((s.reg 0).getLsbD 3 && s.traceOn && tcMode s.traceModes evPrereturn) = true) :
    exec .ret s =
      toOutcome (faulted s.ip 4 .prereturn) (s.withLocals (s.locals.set 0 (.val (s.reg 0 &&& ~~~8)))) := by
  obtain ⟨clean, set⟩ := hp
  unfold exec execRet
  refine run_raise 4 _ s _ .prereturn ?_
  rw [M.bind_ok (M.get_run s), clean, if_neg Bool.false_ne_true, if_neg set, h, if_pos rfl]
  rfl

/-- The prereturn fault sets its flag in TC, and the `ret` is to be executed again (60_exceptions R701). -/
theorem faulted_prereturn (ip len : Word) (u : State) : faulted ip len .prereturn u =
    faultCall 1 0x20 (.val ip) (.val ip) false ((u.withTc (u.tc ||| 0x00200000)).retire false) := by
  have signal : u.signal evPrereturn = u.withTc (u.tc ||| 0x00200000) := by
    rw [State.signal, tcSetEvents_eq _ rfl]; rfl
  simp [faulted, M.bind_run, FaultKind.resumesNext, FaultKind.typeNumber, FaultKind.subtype, savedRip, signal]

section
variable {s : State} (hs : s.traced)
include hs

/-- Whether a traced `ret` finds the prereturn flag in force. -/
theorem State.flagged_traced : ((s.reg 0).getLsbD 3 && s.traceOn && tcMode s.traceModes evPrereturn) =
    ((s.reg 0).getLsbD 3 && (s.tc.setWidth 8).getLsbD 5) := by
  obtain ⟨te, window, modes, -⟩ := hs
  rw [State.traceOn, State.traceModes, if_pos window, if_pos modes, te, Bool.and_true,
    show tcMode s.tc evPrereturn = _ from tcMode_twoPow s.tc (i := 5) (by decide)]

/-- No window of `modpc` or `modtc` is open that an instruction could shorten (70_reset R745, R746). -/
theorem State.pass_traced (branch : Bool) : s.trace.pass branch = s.trace := by
  obtain ⟨-, window, modes, -⟩ := hs
  have same : ∀ t : TraceDelay, t.teWindow = 0 → t.tcWindow = 0 → t.pass branch = t := by
    rintro ⟨_, old, _, oldTc⟩ rfl rfl
    cases branch <;> rfl
  exact same s.trace window modes

variable (hp : s.pfpSound)
include hp

theorem ret_traced (hr : s.canReturn) (hrt : (s.reg 0).extractLsb' 0 3 = 0#3)
    (unflagged : (s.reg 0).getLsbD 3 = false ∨ (s.tc.setWidth 8).getLsbD 5 = false) :
    ∃ t, exec .ret s = t.tracedOutcome s.ip (0x12 &&& s.tc.setWidth 8) ∧ s.returnsTo t ∧ t.ac = s.ac ∧
      s.sameSpecial t ∧ s.sameBytes t := by
  have clear := State.flagged_traced hs
  rw [Bool.and_eq_false_iff.mpr unflagged] at clear
  obtain ⟨-, tc, -, -, -, bp, -⟩ := s.sameSpecial_returned
  have ok := returnBy_frame hr (returnBy_local s)
  refine ⟨s.returned.retire true, ?_, s.returnsTo_returned, s.returned_ac, s.sameSpecial_returned, s.sameBytes_returned⟩
  rw [exec_ret_unflagged hp clear, hrt]
  exact run_traced_transfer hs ⟨tc, bp, s.returned_trace⟩ ok (transferred_plain rfl) rfl

theorem ret_prereturn (h3 : (s.reg 0).getLsbD 3 = true) (h5 : (s.tc.setWidth 8).getLsbD 5 = true) :
    exec .ret s = toOutcome (faultCall 1 0x20 (.val s.ip) (.val s.ip) false)
      (((s.withLocals (s.locals.set 0 (.val (s.reg 0 &&& ~~~8)))).withTc (s.tc ||| 0x00200000)).withFree (s.free + 1)) := by
  rw [exec_ret_flagged hp ((State.flagged_traced hs).trans (by rw [h3, h5]; rfl))]
  have retired : ∀ u : State, u.trace = s.trace → u.retire false = u.withFree (u.free + 1) := fun u hu => by
    rw [State.retire, hu, State.pass_traced hs, ← hu]; rfl
  rw [toOutcome, toOutcome, faulted_prereturn, retired _ (by rfl)]
  rfl

end

/-- Settles O39: each instruction ends as it does untraced, and `run_traced` gives the events of its report. -/
theorem traceEvents : Obligations.TraceEvents := by
  unfold Obligations.TraceEvents
  rintro s hs _ rfl
  refine ⟨fun src1 src2 dst hd => addo_traced hs src1 src2 hd,
    fun disp => ⟨branch_traced hs (b_ok disp s), bal_traced hs disp, be_traced hs disp,
      fun hp => call_traced hs hp disp⟩,
    fun src1 entry hentry hp hn hset hw => ?calls, fun hp => ⟨ret_traced hs hp, ret_prereturn hs hp⟩⟩
  case calls =>
    subst hentry
    rw [exec_calls_eq hn hset]
    cases hsup : s.supervisor with
    | true =>
      obtain ⟨t, done, ip, enters, special⟩ := systemCall_traced_supervisor hs hp hw hsup
      exact ⟨t, done, ip, fun _ => ⟨enters, special⟩, fun h => nomatch h⟩
    | false =>
      obtain ⟨t, done, ip, pc, enters, special⟩ := systemCall_traced_user hs hp hw hsup
      exact ⟨t, done, ip, fun h => (nomatch h), fun _ => ⟨pc, enters, special⟩⟩

end Sys2Proof.Machine
end

section
/-! FAULT<cc> (46_fault_debug R541 to R549). -/

namespace Sys2Proof.Machine

/-- An untraced instruction whose action leaves the state goes on to the next instruction. -/
theorem untraced_goesOn {action : M Done} {s : State} {d : Done} (hu : s.untraced) (h : action s = .ok d s)
    (hd : d.pendingTrace = false ∧ d.poll = false ∧ d.transfer = false) :
    ∃ t, run 4 action s = .next t ∧ t.ac = s.ac ∧ t.ip = s.ip + 4 ∧ s.changesOnly t [] := by
  obtain ⟨pending, poll, transfer⟩ := hd
  exact ⟨s.after 4 d.branch, run_after h hu hu.2 pending poll transfer, rfl, rfl,
    State.changesOnly_after s.changesOnly_refl 4 d.branch⟩

/-- The eight forms differ in their mask alone (46_fault_debug R542 to R549). -/
theorem exec_faultCond (s : State) :
    ∀ p ∈ [(0#3, Instr.faultno), (1#3, .faultg), (2#3, .faulte), (3#3, .faultge), (4#3, .faultl), (5#3, .faultne),
      (6#3, .faultle), (7#3, .faulto)],
    exec p.2 s = run 4 (faultCond p.1) s := by
  simp only [List.forall_mem_cons, List.not_mem_nil, false_imp_iff, implies_true, and_true]
  exact ⟨rfl, rfl, rfl, rfl, rfl, rfl, rfl, rfl⟩

theorem faultCond_met {mask : BitVec 3} {s : State} (h : cond mask s = true) :
    faultCond mask s = .error (.raise .range) s := by
  rw [faultCond, M.bind_ok (M.get_run s), if_pos h]
  rfl

theorem faultCond_unmet {mask : BitVec 3} {s : State} (h : ¬ cond mask s = true) : faultCond mask s = .ok {} s := by
  rw [faultCond, M.bind_ok (M.get_run s), if_neg h]
  rfl

/-- Settles O34: `cond` for the mask of the form is the condition of the page, and decides between the fault and the
next instruction. -/
theorem conditionalFaults : Obligations.ConditionalFaults := by
  unfold Obligations.ConditionalFaults
  intro p hp s
  rw [exec_faultCond s p hp, ← State.cc, ← cond_iff]
  exact ⟨fun met => run_raised (faultCond_met met),
    fun unmet hu => untraced_goesOn hu (faultCond_unmet unmet) ⟨rfl, rfl, rfl⟩⟩

end Sys2Proof.Machine
end

section
/-! `mark`, `fmark` and `syncf` (46_fault_debug R550 to R552; 60_exceptions R700, R701). -/

namespace Sys2Proof.Machine

/-! The reports of the three instructions. -/

theorem exec_mark (s : State) : exec .mark s = run 4 (pure { events := evMark }) s := rfl
theorem exec_fmark (s : State) : exec .fmark s = run 4 (pure { forceMark := true }) s := rfl
theorem exec_syncf (s : State) : exec .syncf s = run 4 (pure {}) s := rfl

/-- The end of an instruction that signals the events `e`, forced or of enabled modes (60_exceptions R701). -/
theorem complete_signals {ip len : Word} {on : Bool} {d : Done} {t u : State} {e : BitVec 8}
    (ended : (if d.transfer then t else t.withIp (t.ip + len)) = u)
    (events : u.traceEvents on d.events d.forceMark = e) (signalled : e ≠ 0#8)
    (quiet : d.pendingTrace = false ∧ d.poll = false) :
    complete ip len on d t = faultCall 1 e (.val u.ip) (.val ip) false ((u.retire d.branch).signal e) := by
  obtain ⟨pending, poll⟩ := quiet
  simp [complete, M.bind_run, ended, events, signalled, pending, poll]

section
variable {s : State} (hs : s.traced)
include hs

/-- A traced `mark` signals the mark event beside the instruction event (46_fault_debug R550). -/
theorem mark_traced : exec .mark s = (s.after 4 false).tracedOutcome s.ip (0x82 &&& s.tc.setWidth 8) :=
  (exec_mark s).trans
    (run_traced_after hs s.sameTracing_refl (M.pure_run { events := evMark } s) ⟨rfl, rfl, rfl, rfl⟩ rfl)

/-- A traced `fmark` signals the mark event whatever the modes (46_fault_debug R551). -/
theorem fmark_traced :
    exec .fmark s = (s.after 4 false).tracedOutcome s.ip ((0x02 &&& s.tc.setWidth 8) ||| 0x80) := by
  have unforced : (s.withIp (s.ip + 4)).traceEvents true 0 false = 0x02 &&& s.tc.setWidth 8 :=
    State.traceEvents_traced hs s.sameTracing_refl 0
  have events : (s.withIp (s.ip + 4)).traceEvents true 0 true = (0x02 &&& s.tc.setWidth 8) ||| 0x80 := by
    rw [← unforced]
    simp [State.traceEvents, evMark]
  have flags : ((0x02 &&& s.tc.setWidth 8) ||| 0x80) &&& 0xFE = (0x02 &&& s.tc.setWidth 8) ||| 0x80 := by
    rw [BitVec.and_or_distrib_right]
    exact congrArg (· ||| 0x80) (signalled_flags Done.plain_default (s.tc.setWidth 8))
  have signalled : (0x02 &&& s.tc.setWidth 8) ||| 0x80 ≠ 0 := fun h => nomatch (BitVec.or_eq_zero_iff.mp h).2
  have completed := complete_signals (ip := s.ip) (len := 4) (d := { forceMark := true }) rfl events signalled ⟨rfl, rfl⟩
  rw [exec_fmark]
  show toOutcome (complete s.ip 4 (s.tracedUntil s) { forceMark := true }) s = _
  rw [State.tracedUntil_traced hs s.sameTracing_refl, toOutcome, completed, State.tracedOutcome, if_neg signalled,
    State.signal, tcSetEvents_eq _ flags]
  rfl

/-- The mark event alone sets bit 23 of TC, and TRACE.MARK is taken before the next instruction (60_exceptions R701). -/
theorem tracedOutcome_mark : (s.after 4 false).tracedOutcome s.ip 0x80 =
    toOutcome (faultCall 1 0x80 (.val (s.ip + 4)) (.val s.ip) false)
      (((s.withIp (s.ip + 4)).withTc (s.tc ||| 0x00800000)).withFree (s.free + 1)) := by
  have ended : s.after 4 false = (s.withIp (s.ip + 4)).withFree (s.free + 1) := by
    rw [State.after_eq, State.pass_traced hs]
    rfl
  rw [State.tracedOutcome, if_neg (by decide), ended]
  rfl

end

/-- Settles O35: untraced, the three instructions leave the state and go on; traced, the modes of the statement leave
the mark event alone of those that `mark_traced` and `fmark_traced` give. -/
theorem marksAndSyncf : Obligations.MarksAndSyncf := by
  unfold Obligations.MarksAndSyncf
  refine ⟨?untraced, fun s te window modes breakpoints => ?traced⟩
  case untraced =>
    simp only [List.forall_mem_cons, List.not_mem_nil, false_imp_iff, implies_true, and_true, exec_mark, exec_fmark,
      exec_syncf]
    exact ⟨fun s hu => untraced_goesOn hu (M.pure_run _ s) ⟨rfl, rfl, rfl⟩,
      fun s hu => untraced_goesOn hu (M.pure_run _ s) ⟨rfl, rfl, rfl⟩,
      fun s hu => untraced_goesOn hu (M.pure_run _ s) ⟨rfl, rfl, rfl⟩⟩
  case traced =>
    have hs : s.traced := ⟨te, window, modes, breakpoints⟩
    rw [← tracedOutcome_mark hs, mark_traced hs, fmark_traced hs]
    refine ⟨fun on => ?mark, fun onOrOff => ?fmark⟩
    case mark => rw [on]; rfl
    case fmark =>
      obtain on | off := onOrOff
      · rw [on]; rfl
      · rw [off]; rfl

end Sys2Proof.Machine
end

section
/-! The reset state and the invariant (70_reset R724, R729). -/

namespace Sys2Proof.Machine

/-- Settles O52: of the reset state each part is computed; an unlisted byte reads as 0, so that SSP is 0. -/
theorem resetMeetsInvariant : Obligations.ResetMeetsInvariant := by
  unfold Obligations.ResetMeetsInvariant
  have inv : State.reset.Inv := ⟨State.reset_mem_wf, rfl, rfl, rfl, rfl, rfl⟩
  have quiet : State.reset.quiet := ⟨rfl, rfl, rfl⟩
  exact ⟨inv, quiet, ⟨rfl, rfl⟩, State.reset.pendingSource_quiet quiet, rfl, rfl, rfl, rfl, rfl, rfl⟩

end Sys2Proof.Machine
end

section
/-! The timers (60_exceptions R692, R714). -/

namespace Sys2Proof.Machine

/-- Before the next 0 each clock brings it one clock nearer, from a count of 0 too (notes/assumptions/45.md). -/
theorem clocksToZero_sub {c : Word} {m : Nat} (h : m < clocksToZero c) :
    clocksToZero (c - BitVec.ofNat 32 m) = clocksToZero c - m := by
  have zero (w : Word) : w = 0 ↔ w.toNat = 0 := by rw [← BitVec.toNat_inj]; rfl
  simp only [clocksToZero, zero, BitVec.toNat_sub, BitVec.toNat_ofNat] at h ⊢
  have := c.isLt
  split at h <;> split <;> omega

theorem clocksToZero_pos (c : Word) : 0 < clocksToZero c := by
  unfold clocksToZero
  split
  · decide
  · rename_i h
    exact Nat.pos_of_ne_zero fun e => h (BitVec.eq_of_toNat_eq e)

section
variable (t : Timer) (n : Nat)

/-- A timer that counts: it is enabled, and has not stopped at 0 after its single run. -/
def Timer.counts : Prop := t.tmr.getLsbD 1 = true ∧ (t.tmr.getLsbD 2 = true ∨ t.tcr ≠ 0)

/-- What a timer counts on from when it has reached 0 and `n` more clocks have passed. -/
def Timer.reloaded : Word := if t.tmr.getLsbD 2 then t.trr - BitVec.ofNat 32 (n % clocksToZero t.trr) else 0

variable {t}

theorem Timer.reloaded_single (h : t.tmr.getLsbD 2 = false) : t.reloaded n = 0 := if_neg (by rw [h]; decide)

theorem Timer.reloaded_reload (h : t.tmr.getLsbD 2 = true) :
    t.reloaded n = t.trr - BitVec.ofNat 32 (n % clocksToZero t.trr) := if_pos h

theorem Timer.clocks_stopped (h : ¬ t.counts) : t.clocks n = (t, false) := by
  rw [Timer.clocks, if_pos]
  simp only [Timer.counts, not_and_or, not_or, not_not, Bool.not_eq_true] at h
  exact h

section
variable (h : t.counts)
include h

theorem Timer.clocks_counting : t.clocks n =
    if n < clocksToZero t.tcr then ({ t with tcr := t.tcr - BitVec.ofNat 32 n }, false)
    else ({ t with tcr := t.reloaded (n - clocksToZero t.tcr), tmr := t.tmr ||| 1 }, true) := by
  obtain ⟨enabled, running⟩ := h
  rw [Timer.clocks, if_neg]
  · rfl
  · rintro (off | ⟨single, zero⟩)
    · rw [enabled] at off; cases off
    · exact running.elim (fun reload => by rw [reload] at single; cases single) fun nonzero => nonzero zero

variable {n}

theorem Timer.clocks_before (hn : n < clocksToZero t.tcr) :
    t.clocks n = ({ t with tcr := t.tcr - BitVec.ofNat 32 n }, false) := by
  rw [Timer.clocks_counting n h, if_pos hn]

theorem Timer.clocks_reached (hn : clocksToZero t.tcr ≤ n) :
    t.clocks n = ({ t with tcr := t.reloaded (n - clocksToZero t.tcr), tmr := t.tmr ||| 1 }, true) := by
  rw [Timer.clocks_counting n h, if_neg (Nat.not_lt.mpr hn)]

/-- A timer still counts before it reaches 0. -/
theorem Timer.counts_before (hn : n < clocksToZero t.tcr) :
    Timer.counts { t with tcr := t.tcr - BitVec.ofNat 32 n } := by
  obtain ⟨enabled, running⟩ := h
  refine ⟨enabled, running.imp_right fun nonzero zero => ?_⟩
  have zero : t.tcr - BitVec.ofNat 32 n = 0 := zero
  have left := clocksToZero_sub hn
  have count : clocksToZero t.tcr = t.tcr.toNat := if_neg nonzero
  have full : clocksToZero 0 = 2 ^ 32 := rfl
  have := t.tcr.isLt
  rw [zero] at left
  omega

end

/-- The bits of a timer mode register but for `tc`. -/
theorem getLsbD_setTc (w : Word) {i : Nat} (hi : i ≠ 0) : (w ||| 1).getLsbD i = w.getLsbD i := by
  have one : (1 : Word).getLsbD i = false := by
    rw [show (1 : Word) = BitVec.twoPow 32 0 from rfl, BitVec.getLsbD_twoPow]; simp [hi.symm]
  rw [BitVec.getLsbD_or, one, Bool.or_false]

/-- A timer that reloads counts on from the reload word as the clocks go by (60_exceptions R714). -/
theorem Timer.clocks_reloaded (m n : Nat) (enabled : t.tmr.getLsbD 1 = true) (u : Timer)
    (hu : u = { t with tcr := t.reloaded m, tmr := t.tmr ||| 1 }) :
    (u.clocks n).1 = { t with tcr := t.reloaded (m + n), tmr := t.tmr ||| 1 } := by
  have bit2 : u.tmr.getLsbD 2 = t.tmr.getLsbD 2 := by rw [hu]; exact getLsbD_setTc t.tmr (by decide)
  have bit1 : u.tmr.getLsbD 1 = true := by rw [hu]; exact (getLsbD_setTc t.tmr (by decide)).trans enabled
  cases reload : t.tmr.getLsbD 2 with
  | false =>
    have stopped : ¬ u.counts := by
      rintro ⟨-, running | running⟩
      · rw [bit2, reload] at running; cases running
      · exact running (by rw [hu]; exact Timer.reloaded_single m reload)
    rw [Timer.clocks_stopped n stopped, hu, Timer.reloaded_single _ reload, Timer.reloaded_single _ reload]
  | true =>
    have counts : u.counts := ⟨bit1, .inl (bit2.trans reload)⟩
    have period := clocksToZero_pos t.trr
    have less := Nat.mod_lt m period
    have count : clocksToZero u.tcr = clocksToZero t.trr - m % clocksToZero t.trr := by
      rw [hu, ← clocksToZero_sub less, Timer.reloaded_reload m reload]
    have split := Nat.div_add_mod m (clocksToZero t.trr)
    by_cases hn : n < clocksToZero u.tcr
    · have same : (m + n) % clocksToZero t.trr = m % clocksToZero t.trr + n := by
        rw [Nat.add_mod, Nat.mod_eq_of_lt (a := n) (by omega), Nat.mod_eq_of_lt (by omega)]
      rw [Timer.clocks_before counts hn, hu, Timer.reloaded_reload _ reload, Timer.reloaded_reload _ reload, same]
      simp only [BitVec.ofNat_add, BitVec.sub_sub]
    · have same : (n - clocksToZero u.tcr) % clocksToZero t.trr = (m + n) % clocksToZero t.trr := by
        have total : m + n = n - clocksToZero u.tcr + clocksToZero t.trr * (m / clocksToZero t.trr + 1) := by
          rw [Nat.mul_add]; omega
        rw [total, Nat.add_mul_mod_self_left]
      rw [Timer.clocks_reached counts (Nat.not_lt.mp hn)]
      have trr : u.trr = t.trr := by rw [hu]
      have tmr : u.tmr ||| 1 = t.tmr ||| 1 := by rw [hu, BitVec.or_assoc]; rfl
      rw [Timer.reloaded_reload _ (bit2.trans reload), Timer.reloaded_reload _ reload, trr, tmr, same]

end

section
variable (t : Timer)

/-- A number of clocks is so many single ones: the count is brought down by both numbers, and where the first reaches 0
the second counts on from the reload word. -/
theorem Timer.clocks_add (m n : Nat) :
    t.clocks (m + n) = (((t.clocks m).1.clocks n).1, (t.clocks m).2 || ((t.clocks m).1.clocks n).2) := by
  by_cases h : t.counts
  · by_cases hm : m < clocksToZero t.tcr
    · have counts := Timer.counts_before h hm
      have left := clocksToZero_sub hm
      rw [Timer.clocks_before h hm]
      by_cases hn : m + n < clocksToZero t.tcr
      · rw [Timer.clocks_before h hn, Timer.clocks_before counts (by dsimp only; omega)]
        simp only [BitVec.ofNat_add, BitVec.sub_sub, Bool.or_false]
      · have later : n - (clocksToZero t.tcr - m) = m + n - clocksToZero t.tcr := by omega
        rw [Timer.clocks_reached h (Nat.not_lt.mp hn), Timer.clocks_reached counts (by dsimp only; omega)]
        simp only [left, later, Bool.or_true]
        rfl
    · have later : m - clocksToZero t.tcr + n = m + n - clocksToZero t.tcr := by omega
      rw [Timer.clocks_reached h (Nat.not_lt.mp hm), Timer.clocks_reached h (by omega), Bool.true_or,
        Timer.clocks_reloaded _ n h.1 _ rfl, later]
  · simp only [Timer.clocks_stopped _ h, Bool.or_false]

theorem Timer.clocks_zero : t.clocks 0 = (t, false) := by
  by_cases h : t.counts
  · rw [Timer.clocks_before h (clocksToZero_pos _)]
    simp
  · exact Timer.clocks_stopped 0 h

end

/-- Settles O50: the clauses are the timer that has stopped, the one that counts and the one that reaches 0; the events
post what `Timer.clocks` reports. -/
theorem timerClocks : Obligations.TimerClocks := by
  unfold Obligations.TimerClocks
  refine ⟨fun t => ⟨t.clocks_zero, t.clocks_add, fun off => ?off, fun on not1 running => ?counts, fun on one => ?reaches,
    fun single zero => ?stopped⟩, fun s n => ⟨?clock0, ?clock1⟩⟩
  case off => exact Timer.clocks_stopped 1 fun h => by rw [h.1] at off; cases off
  case counts =>
    refine Timer.clocks_before ⟨on, running⟩ ?_
    unfold clocksToZero
    split <;> bv_omega
  case reaches =>
    have counts : t.counts := ⟨on, .inr (by rw [one]; decide)⟩
    have count : clocksToZero t.tcr = 1 := by rw [one]; rfl
    rw [Timer.clocks_reached counts (Nat.le_of_eq count), count]
    simp [Timer.reloaded]
  case stopped =>
    refine Timer.clocks_stopped 1 fun h => h.2.elim (fun reload => ?_) fun nonzero => nonzero zero
    rw [reload] at single; cases single
  case clock0 =>
    rw [applyEvent, M.modify_run]
    obtain ⟨u, hit⟩ := s.timer0.clocks n
    cases hit <;> rfl
  case clock1 =>
    rw [applyEvent, M.modify_run]
    obtain ⟨u, hit⟩ := s.timer1.clocks n
    cases hit <;> rfl

end Sys2Proof.Machine
end

section
/-! Which interrupt is taken (60_exceptions R681 to R683, R685, R692). -/

namespace Sys2Proof.Machine

/-! The pins of each mode. -/

/-- The pins that are dedicated sources by the mode of ICON (60_exceptions R692, notes/assumptions/41.md). -/
theorem getLsbD_dedicatedPins (icon : Word) {bit : Nat} (h : bit < 8) : (dedicatedPins icon).getLsbD bit =
    (icon.extractLsb' 0 2 == 0#2 || (icon.extractLsb' 0 2 == 2#2 && decide (5 ≤ bit))) := by
  have pins : ∀ mode : BitVec 2, ∀ bit < 8,
      (if mode = 0#2 then 0xFF else if mode = 2#2 then 0xE0 else 0 : BitVec 8).getLsbD bit =
        (mode == 0#2 || (mode == 2#2 && decide (5 ≤ bit))) := by decide
  exact pins _ bit h

/-- The pins that are pending by their low level (60_exceptions R681). -/
theorem getLsbD_levelLow (i : Interrupts) {bit : Nat} (h : bit < 8) : i.levelLow.getLsbD bit =
    ((i.icon.extractLsb' 0 2 == 0#2 || (i.icon.extractLsb' 0 2 == 2#2 && decide (5 ≤ bit))) &&
      !i.icon.getLsbD (2 + bit) && !i.pins.getLsbD bit) := by
  rw [← getLsbD_dedicatedPins i.icon h]
  simp [Interrupts.levelLow, levelPins, h, Bool.and_comm]

theorem getLsbD_pending (i : Interrupts) {bit : Nat} (h : bit < 32) : i.pending.getLsbD bit =
    (i.ipnd.getLsbD bit || (decide (bit < 8) &&
      (i.icon.extractLsb' 0 2 == 0#2 || (i.icon.extractLsb' 0 2 == 2#2 && decide (5 ≤ bit))) &&
      !i.icon.getLsbD (2 + bit) && !i.pins.getLsbD bit)) := by
  rw [Interrupts.pending, BitVec.getLsbD_or, BitVec.zeroExtend, BitVec.getLsbD_setWidth, decide_eq_true h, Bool.true_and]
  by_cases low : bit < 8
  · rw [getLsbD_levelLow i low, decide_eq_true low, Bool.true_and]
  · rw [BitVec.getLsbD_of_ge _ _ (Nat.not_lt.mp low), decide_eq_false low]
    rfl

/-! The requests. -/

/-- The IPND bits of the dedicated sources: the pins and the two timers (60_exceptions R692). -/
abbrev dedicatedBits : List Nat := [0, 1, 2, 3, 4, 5, 6, 7, 12, 13]

/-- The source of an IPND bit is a dedicated one in the mode of ICON, is pending and is enabled. -/
def Interrupts.requesting (i : Interrupts) (bit : Nat) : Bool :=
  i.pending.getLsbD bit && i.imsk.getLsbD bit && (decide (8 ≤ bit) || (dedicatedPins i.icon).getLsbD bit)

theorem Interrupts.mem_dedicatedRequests (i : Interrupts) (bits : List Nat) (r : Request) :
    r ∈ i.dedicatedRequests bits ↔ ∃ bit ∈ bits, i.requesting bit = true ∧
      r = { vector := i.dedicatedVector bit, bit := bit, dedicated := true } := by
  induction bits with
  | nil => simp [Interrupts.dedicatedRequests]
  | cons bit rest ih =>
    rw [Interrupts.dedicatedRequests, ← Interrupts.requesting]
    cases h : i.requesting bit <;> simp [ih, h]

theorem Interrupts.mem_expandedRequests (i : Interrupts) (r : Request) :
    r ∈ i.expandedRequests ↔ (i.icon.extractLsb' 0 2 = 1#2 ∨ i.icon.extractLsb' 0 2 = 2#2) ∧
      i.imsk.getLsbD 0 = true ∧ i.vector = some r.vector ∧ r.bit = 0 ∧ r.dedicated = false := by
  obtain ⟨v, bit, dedicated⟩ := r
  unfold Interrupts.expandedRequests
  cases i.vector with
  | none => simp
  | some w =>
    by_cases h : (i.icon.extractLsb' 0 2 = 1#2 ∨ i.icon.extractLsb' 0 2 = 2#2) ∧ i.imsk.getLsbD 0 = true
    · obtain ⟨mode, enabled⟩ := h
      simp only [mode, enabled, and_self, if_true, List.mem_singleton, Request.mk.injEq, true_and, Option.some.injEq,
        eq_comm (a := v)]
    · simp only [if_neg h, List.not_mem_nil, false_iff]
      exact fun ⟨mode, enabled, _⟩ => h ⟨mode, enabled⟩

/-- The vector of a dedicated source is 16 times its map nibble and 2 (60_exceptions R692). -/
theorem Interrupts.dedicatedVector_toNat (i : Interrupts) (bit : Nat) :
    (i.dedicatedVector bit).toNat = 16 * (i.mapNibble bit).toNat + 2 := by
  rw [Interrupts.dedicatedVector, BitVec.toNat_append, ← Nat.shiftLeft_add_eq_or_of_lt (by decide), Nat.shiftLeft_eq]
  exact congrArg (· + 2) (Nat.mul_comm _ _)

theorem Interrupts.mapNibble_toNat (i : Interrupts) {bit : Nat} (h : bit ∈ dedicatedBits) : (i.mapNibble bit).toNat =
    (if bit < 4 then i.imap0.toNat / 16 ^ bit else if bit < 8 then i.imap1.toNat / 16 ^ (bit - 4)
      else i.imap2.toNat / 16 ^ (bit - 8)) % 16 := by
  have nibble : ∀ (w : Word) (k : Nat), (w.extractLsb' (4 * k) 4).toNat = w.toNat / 16 ^ k % 16 := fun w k => by
    rw [BitVec.extractLsb'_toNat, Nat.shiftRight_eq_div_pow, Nat.pow_mul]
  have map2 : bit < 4 ∨ bit < 8 ∨ 16 + 4 * (bit - 12) = 4 * (bit - 8) := by
    simp only [dedicatedBits, List.mem_cons, List.not_mem_nil, or_false] at h
    omega
  unfold Interrupts.mapNibble
  split
  · exact nibble _ _
  · split
    · exact nibble _ _
    · rw [show 16 + 4 * (bit - 12) = 4 * (bit - 8) by omega, nibble]

/-- The requests of all hardware sources (60_exceptions R682). -/
def Interrupts.requestList (i : Interrupts) : List Request := i.dedicatedRequests dedicatedBits ++ i.expandedRequests

/-- A vector is requested as `State.requests` says where a request of the controller's list has it. -/
theorem State.requests_iff (s : State) (v : Byte) : s.requests v ↔ ∃ r ∈ s.intr.requestList, r.vector = v := by
  have dedicated : ∀ bit ∈ dedicatedBits,
      ((s.mmr .ipnd).getLsbD bit = true ∧ s.intr.imsk.getLsbD bit = true ∧
        (bit < 8 → s.intr.icon.extractLsb' 0 2 = 0#2 ∨ s.intr.icon.extractLsb' 0 2 = 2#2 ∧ 5 ≤ bit) ∧
        v.toNat = 16 * ((if bit < 4 then s.intr.imap0.toNat / 16 ^ bit
          else if bit < 8 then s.intr.imap1.toNat / 16 ^ (bit - 4)
          else s.intr.imap2.toNat / 16 ^ (bit - 8)) % 16) + 2) ↔
      (s.intr.requesting bit = true ∧ s.intr.dedicatedVector bit = v) := by
    intro bit hbit
    have place : (8 ≤ bit ∨ (dedicatedPins s.intr.icon).getLsbD bit = true) ↔
        (bit < 8 → s.intr.icon.extractLsb' 0 2 = 0#2 ∨ s.intr.icon.extractLsb' 0 2 = 2#2 ∧ 5 ≤ bit) := by
      by_cases low : bit < 8
      · rw [getLsbD_dedicatedPins _ low]
        simp [low, Nat.not_le.mpr low]
      · simp [low, Nat.not_lt.mp low]
    rw [← s.intr.mapNibble_toNat hbit, ← s.intr.dedicatedVector_toNat, ← place, BitVec.toNat_inj, eq_comm (a := v)]
    simp only [Interrupts.requesting, Bool.and_eq_true, Bool.or_eq_true, decide_eq_true_eq, and_assoc, State.mmr]
  simp only [Interrupts.requestList, List.mem_append, Interrupts.mem_dedicatedRequests, Interrupts.mem_expandedRequests,
    State.requests]
  constructor
  · rintro (⟨bit, hbit, h⟩ | ⟨mode, enabled, hv⟩)
    · obtain ⟨requesting, vector⟩ := (dedicated bit hbit).mp h
      exact ⟨_, .inl ⟨bit, hbit, requesting, rfl⟩, vector⟩
    · exact ⟨⟨v, 0, false⟩, .inr ⟨mode, enabled, hv, rfl, rfl⟩, rfl⟩
  · rintro ⟨r, ⟨bit, hbit, requesting, rfl⟩ | ⟨mode, enabled, hv, -, -⟩, rfl⟩
    · exact .inl ⟨bit, hbit, (dedicated bit hbit).mpr ⟨requesting, rfl⟩⟩
    · exact .inr ⟨mode, enabled, hv⟩

/-! The highest request. -/

theorem bestRequest_none {l : List Request} (h : bestRequest l = none) : l = [] := by
  cases l with
  | nil => rfl
  | cons r rest =>
    rw [bestRequest] at h
    split at h
    · cases h
    · split at h <;> cases h

/-- The best request is one of the list, and none has a higher vector (60_exceptions R683). -/
theorem bestRequest_some {l : List Request} {r : Request} (h : bestRequest l = some r) :
    r ∈ l ∧ ∀ q ∈ l, q.vector.toNat ≤ r.vector.toNat := by
  induction l generalizing r with
  | nil => cases h
  | cons p rest ih =>
    rw [bestRequest] at h
    split at h
    · rename_i none
      cases h
      rw [bestRequest_none none]
      simp
    · rename_i best some
      obtain ⟨listed, highest⟩ := ih some
      split at h <;> cases h <;> rw [List.forall_mem_cons, List.mem_cons]
      · exact ⟨.inr listed, by omega, highest⟩
      · exact ⟨.inl rfl, by omega, fun q hq => (highest q hq).trans (by omega)⟩

/-- The hardware request is one of the highest vector that is requested (60_exceptions R682, R683). -/
theorem State.hardware_some {s : State} {r : Request} (h : s.intr.hardware = some r) :
    s.requests r.vector ∧ ∀ v, s.requests v → v.toNat ≤ r.vector.toNat := by
  obtain ⟨listed, highest⟩ := bestRequest_some (l := s.intr.requestList) h
  refine ⟨(s.requests_iff _).mpr ⟨r, listed, rfl⟩, fun v hv => ?_⟩
  obtain ⟨q, hq, rfl⟩ := (s.requests_iff v).mp hv
  exact highest q hq

theorem State.hardware_none {s : State} (h : s.intr.hardware = none) (v : Byte) : ¬ s.requests v := by
  have empty := bestRequest_none (l := s.intr.requestList) h
  rw [s.requests_iff, empty]
  simp

/-! The choice. -/

section
variable {s : State}

theorem State.deliverable_iff (p : BitVec 5) : s.deliverable p = true ↔ s.interruptible p.toNat := by
  have top : p = 31 ↔ p.toNat = 31 := by rw [← BitVec.toNat_inj]; rfl
  rw [State.deliverable, State.interruptible, ← top, Bool.or_eq_true, decide_eq_true_eq, beq_iff_eq, pcPriority]

/-- A higher priority may interrupt where a lower one may (60_exceptions R682). -/
theorem State.interruptible.mono {p q : Nat} (h : s.interruptible p) (hpq : p ≤ q) (hq : q ≤ 31) : s.interruptible q := by
  unfold State.interruptible at h ⊢; omega

theorem State.interruptible_pos {p : Nat} (h : s.interruptible p) : 0 < p := by
  unfold State.interruptible at h; omega

/-- The NMI is taken first and whatever the priority (60_exceptions R682, R684). -/
theorem State.pendingSource_nmi (hn : s.intr.nmiPending = true) (hf : s.intr.nmiFrame = none) :
    s.pendingSource = some .nmi := by
  simp [State.pendingSource, hn, hf]

section
variable (hn : s.intr.nmiPending = false ∨ s.intr.nmiFrame ≠ none)
include hn

theorem State.no_nmi : (s.intr.nmiPending && s.intr.nmiFrame.isNone) = false := by
  rcases hn with h | h
  · rw [h, Bool.false_and]
  · rw [Option.isNone_eq_false_iff.mpr (Option.isSome_iff_ne_none.mpr h), Bool.and_false]

theorem State.pendingSource_masked (hd : s.intr.icon.getLsbD 10 = true) : s.pendingSource = none := by
  rw [State.pendingSource, State.no_nmi hn, if_neg Bool.false_ne_true, if_pos hd]

variable (he : s.intr.icon.getLsbD 10 = false)
include he

/-- With no hardware request the posted software interrupt is taken, if there is one and it may interrupt. -/
theorem State.pendingSource_noHardware (hw : s.intr.hardware = none) :
    s.pendingSource = if s.deliverable s.intr.swPriority then some .software else none := by
  have posted : s.intr.swPriority ≠ 0 ∧ s.deliverable s.intr.swPriority = true ↔
      s.deliverable s.intr.swPriority = true :=
    and_iff_right_of_imp fun h zero =>
      absurd (State.interruptible_pos ((State.deliverable_iff _).mp h)) (by rw [zero]; decide)
  rw [State.pendingSource, State.no_nmi hn, if_neg Bool.false_ne_true, if_neg (by rw [he]; decide)]
  simp only [hw, posted]

/-- Of a hardware request and the posted software interrupt the higher is taken, if it may interrupt; either of two that
are as high (60_exceptions R682). -/
theorem State.pendingSource_hardware {r : Request} (hw : s.intr.hardware = some r) :
    (s.intr.swPriority.toNat ≤ r.vector.toNat / 8 ∧
      s.pendingSource = if s.deliverable (vectorPriority r.vector) then some (.hardware r) else none) ∨
    (r.vector.toNat / 8 ≤ s.intr.swPriority.toNat ∧
      s.pendingSource = if s.deliverable s.intr.swPriority then some .software else none) := by
  have prio := vectorPriority_toNat r.vector
  have equal : vectorPriority r.vector = s.intr.swPriority ↔ r.vector.toNat / 8 = s.intr.swPriority.toNat := by
    rw [← prio, BitVec.toNat_inj]
  rw [State.pendingSource, State.no_nmi hn, if_neg Bool.false_ne_true, if_neg (by rw [he]; decide)]
  simp only [hw, prio, equal]
  by_cases higher : r.vector.toNat / 8 < s.intr.swPriority.toNat ∨
      r.vector.toNat / 8 = s.intr.swPriority.toNat ∧ Config.freeBool s.free Site.tie = true
  · exact .inr ⟨by omega, if_pos higher⟩
  · by_cases tie : r.vector.toNat / 8 < s.intr.swPriority.toNat
    · exact absurd (.inl tie) higher
    · exact .inl ⟨by omega, if_neg higher⟩

end
end

/-- Settles O49: the source is the higher of `State.hardware_some` and the software priority. -/
theorem pendingSourceChoice : Obligations.PendingSourceChoice := by
  unfold Obligations.PendingSourceChoice
  refine fun s => ⟨State.pendingSource_nmi, fun hn => ?choice, fun bit h => getLsbD_pending s.intr h⟩
  cases he : s.intr.icon.getLsbD 10 with
  | true => simp [State.pendingSource_masked hn he]
  | false =>
    have limit : s.intr.swPriority.toNat ≤ 31 := by have := s.intr.swPriority.isLt; omega
    have software := s.deliverable_iff s.intr.swPriority
    have positive (h : s.interruptible s.intr.swPriority.toNat) : s.intr.swPriority ≠ 0 := fun zero =>
      absurd (State.interruptible_pos h) (by rw [zero]; decide)
    cases hw : s.intr.hardware with
    | none =>
      have unrequested := State.hardware_none hw
      rw [State.pendingSource_noHardware hn he hw]
      by_cases h : s.deliverable s.intr.swPriority = true
      · rw [if_pos h]
        have may := software.mp h
        exact ⟨nofun, nofun, nofun, fun _ => ⟨rfl, positive may, may, fun v hv => absurd hv (unrequested v)⟩, nofun⟩
      · rw [if_neg h]
        exact ⟨nofun, nofun, nofun, nofun, fun _ _ => ⟨mt software.mpr h, fun v hv => absurd hv (unrequested v)⟩⟩
    | some r =>
      obtain ⟨requested, highest⟩ := State.hardware_some hw
      have below : ∀ v, s.requests v → v.toNat / 8 ≤ r.vector.toNat / 8 := fun v hv =>
        Nat.div_le_div_right (highest v hv)
      have top : r.vector.toNat / 8 ≤ 31 := by have := r.vector.isLt; omega
      have hardware := s.deliverable_iff (vectorPriority r.vector)
      rw [vectorPriority_toNat] at hardware
      obtain ⟨order, e⟩ | ⟨order, e⟩ := State.pendingSource_hardware hn he hw <;> rw [e]
      · by_cases h : s.deliverable (vectorPriority r.vector) = true
        · rw [if_pos h]
          refine ⟨nofun, nofun, fun q hq => ?_, nofun, nofun⟩
          cases hq
          exact ⟨rfl, requested, hardware.mp h, highest, order⟩
        · rw [if_neg h]
          have mayNot := mt hardware.mpr h
          exact ⟨nofun, nofun, nofun, nofun, fun _ _ => ⟨fun k => mayNot (k.mono order top), fun v hv k =>
            mayNot (k.mono (below v hv) top)⟩⟩
      · by_cases h : s.deliverable s.intr.swPriority = true
        · rw [if_pos h]
          have may := software.mp h
          exact ⟨nofun, nofun, nofun, fun _ => ⟨rfl, positive may, may, fun v hv => (below v hv).trans order⟩, nofun⟩
        · rw [if_neg h]
          have mayNot := mt software.mpr h
          exact ⟨nofun, nofun, nofun, nofun, fun _ _ => ⟨mayNot, fun v hv k =>
            mayNot (k.mono ((below v hv).trans order) limit)⟩⟩

end Sys2Proof.Machine
end

section
/-! The supervisor-only instructions in user mode, and the instructions that are no such ones (48_processor_management
R580). -/

namespace Sys2Proof.Machine

theorem requireSupervisor_user {s : State} (h : s.supervisor = false) :
    requireSupervisor s = .error (.raise .mismatch) s := by
  simp [requireSupervisor, M.bind_run, h]

/-- A supervisor-only instruction raises TYPE.MISMATCH in user mode before it does anything. -/
theorem run_requireSupervisor_user (len : Word) (f : Unit → M Done) {s : State} (h : s.supervisor = false) :
    run len (requireSupervisor >>= f) s = s.raised len .mismatch :=
  run_raised (M.bind_error (requireSupervisor_user h))

/-- An instruction whose action comes to another state in which the trace windows are as before. -/
theorem run_set_after {action : M Done} {s t : State} {d : Done} (hu : s.untraced) (h : action s = .ok d t)
    (ht : t.trace = s.trace) (hp : d.pendingTrace = false) (hq : d.poll = false) (hd : d.transfer = false) :
    run 4 action s = .next (t.after 4 d.branch) :=
  run_after h hu ((congrArg TraceDelay.teWindow ht).trans hu.2) hp hq hd

section
variable (a b : Operand) {d : RegNum} {s : State}

theorem modpc_user (hs : s.supervisor = false) (hm : operandValue b Site.src2 s ≠ 0) :
    exec (.modpc a b d) s = s.raised 4 .mismatch := by
  unfold exec execModpc
  refine run_raised ?_
  rw [M.bind_ok (M.get_run s)]
  simp only [if_neg hm]
  exact M.bind_error (requireSupervisor_user hs)

/-- `modpc` with the mask 0 only reads PC, in either mode (48_processor_management R604). -/
theorem modpc_reads (hm : operandValue b Site.src2 s = 0) (hd : d ≠ 2) (hu : s.untraced) :
    exec (.modpc a b d) s = .next ((s.setReg d s.pc).after 4 false) := by
  unfold exec execModpc
  refine run_setReg hu ?_
  rw [M.bind_ok (M.get_run s)]
  simp only [if_pos hm]
  exact M.bind_ok (checkDst_ok d s hd)

/-- What `modac` makes of AC (48_processor_management R603). -/
def State.modifiedAc (s : State) (a b : Operand) : Word :=
  merge (operandValue a Site.src1 s) (operandValue b Site.src2 s) s.ac &&& acMask

theorem modac_next (hd : d ≠ 2) (hu : s.untraced) :
    exec (.modac a b d) s = .next (((s.setReg d s.ac).withAc (s.modifiedAc a b)).after 4 false) := by
  unfold exec execModac
  refine run_set_after (d := {}) hu ?_ (s.setSlot_trace d _) rfl rfl rfl
  exact M.bind_ok (checkDst_ok d s hd)

/-- What `modtc` makes of TC (48_processor_management R605). -/
def State.modifiedTc (s : State) (a b : Operand) : Word :=
  merge (operandValue a Site.src1 s &&& tcMask) (operandValue b Site.src2 s) s.tc

/-- `modtc` opens the window of 70_reset R746 where it changes a mode, and that of R745 never. -/
theorem modtc_next (hd : d ≠ 2) (hu : s.untraced) : ∃ delay, exec (.modtc a b d) s =
    .next ((((s.withTrace delay).withTc (s.modifiedTc a b)).setReg d s.tcRead).after 4 false) := by
  have same : s.withTrace s.trace = s := rfl
  obtain ⟨delay, opened, closed⟩ : ∃ delay,
      (if (s.modifiedTc a b).setWidth 8 = s.tc.setWidth 8 then s else s.openTcWindow) = s.withTrace delay ∧
        delay.teWindow = 0 := by
    by_cases modes : (s.modifiedTc a b).setWidth 8 = s.tc.setWidth 8
    · exact ⟨_, if_pos modes, hu.2⟩
    · exact ⟨_, if_neg modes, hu.2⟩
  unfold exec execModtc
  refine ⟨delay, run_after (d := {}) (t := ((s.withTrace delay).withTc (s.modifiedTc a b)).setReg d s.tcRead) ?_ hu
    ((congrArg TraceDelay.teWindow (State.setSlot_trace _ d _)).trans closed) rfl rfl rfl⟩
  rw [← opened]
  exact M.bind_ok (checkDst_ok d s hd)

end

/-! `flushreg` in either mode, whatever it finds in memory. -/

/-- All the suspended sets are spilled where each save area is RAM that is not protected. -/
theorem spillAll_recached {s : State} {sets : List CachedFrame} (hc : s.frames.cache = sets) (hi : s.chainIntact = true)
    (hsets : ∀ f ∈ sets, s.wordsWritable f.save 16 ∧ s.protectedIn s.supervisor f.save 64 = false) :
    ∃ t, spillAll sets.length s = .ok () t ∧ s.Recached t [] := by
  induction sets generalizing s with
  | nil =>
    have same : s.withFrames { s.frames with cache := [] } = s := by rw [← hc]; rfl
    exact ⟨s, rfl, same ▸ s.recached_withFrames []⟩
  | cons x rest ih =>
    have recached := s.recached_stowed x rest
    have areas : ∀ f ∈ rest, (s.stowed x rest).wordsWritable f.save 16 ∧
        (s.stowed x rest).protectedIn (s.stowed x rest).supervisor f.save 64 = false := by
      intro f hf
      obtain ⟨words, unprotected⟩ := hsets f (List.mem_cons_of_mem _ hf)
      have mode : (s.stowed x rest).supervisor = s.supervisor := congrArg pcSupervisor recached.stores.pc
      rw [mode, State.protectedIn_congr (t := s.stowed x rest) recached.stores.config]
      exact ⟨recached.wordsWritable words, unprotected⟩
    obtain ⟨t, run, emptied⟩ := ih (s := s.stowed x rest) rfl (State.chainIntact_stowed hc hi) areas
    obtain ⟨words, unprotected⟩ := hsets x List.mem_cons_self
    have first := spillOldest_ok hc hi words unprotected
    refine ⟨t, ?_, recached.trans emptied⟩
    simp only [List.length_cons, spillAll, M.bind_run, M.get_run, hc, first, run]

theorem flushreg_next {s : State} (hu : s.untraced) (hi : s.chainIntact = true)
    (hsets : ∀ f ∈ s.frames.cache, s.wordsWritable f.save 16 ∧ s.protectedIn s.supervisor f.save 64 = false) :
    ∃ t, exec .flushreg s = .next t ∧ t.pc = s.pc := by
  obtain ⟨t, run, emptied⟩ := spillAll_recached rfl hi hsets
  have action : flushAction s.frames.cache.length s = .ok {} (t.withFrames { t.frames with pfpDirty := false }) :=
    M.bind_ok run
  have window : t.trace.teWindow = 0 := (congrArg TraceDelay.teWindow emptied.stores.trace).trans hu.2
  exact ⟨_, (exec_flushreg_eq s).trans (run_after action hu window rfl rfl rfl), emptied.stores.pc⟩

/-- Settles O36: the seven instructions begin with the test of the mode, `modpc` has it behind that of its mask; each of
the others is run to its end. -/
theorem supervisorOnlyInstructions : Obligations.SupervisorOnlyInstructions := by
  unfold Obligations.SupervisorOnlyInstructions
  refine fun a b d s => ⟨fun user => ?raise, modpc_user a b, fun mask hd hu =>
    register_result (modpc_reads a b mask hd hu), fun hu => ⟨?trace, fun hd => ?controls, flushreg_next hu⟩⟩
  case raise =>
    simp only [List.forall_mem_cons, List.not_mem_nil, false_imp_iff, implies_true, and_true]
    refine ⟨?_, ?_, ?_, ?_, ?_, ?_, ?_⟩ <;> exact run_requireSupervisor_user 4 _ user
  case trace =>
    intro i hi
    obtain ⟨t, next, -, -, changes⟩ := marksAndSyncf.1 i hi s hu
    exact ⟨t, next, changes.2.1.1⟩
  case controls =>
    obtain ⟨delay, next⟩ := modtc_next a b hd hu
    simp only [List.forall_mem_cons, List.not_mem_nil, false_imp_iff, implies_true, and_true]
    exact ⟨⟨_, modac_next a b hd hu, s.setSlot_pc d _⟩, ⟨_, next, State.setSlot_pc _ d _⟩⟩

end Sys2Proof.Machine
end

section
/-! `modac`, `modtc` and `modpc` (48_processor_management R603 to R605; 10_state R50). -/

namespace Sys2Proof.Machine

section
variable {s t : State} {ds : List RegNum}

/-- What changes only registers of `s` with another PC does so of `s`, but for PC. -/
theorem State.changesOnly_withPc {pc : Word} (h : (s.withPc pc).changesOnly t ds) : s.changesOnly (t.withPc s.pc) ds := by
  obtain ⟨regs, ⟨-, rest⟩, frames, bytes⟩ := h
  exact ⟨regs, ⟨rfl, rest⟩, frames, bytes⟩

/-- What changes only registers of `s` with another TC does so of `s`, but for TC. -/
theorem State.changesOnly_withTc {tc : Word} (h : (s.withTc tc).changesOnly t ds) : s.changesOnly (t.withTc s.tc) ds := by
  obtain ⟨regs, ⟨hpc, -, rest⟩, frames, bytes⟩ := h
  exact ⟨regs, ⟨hpc, rfl, rest⟩, frames, bytes⟩

end

section
variable (a b : Operand) {d : RegNum} {s : State}

theorem modac_result (hd : d ≠ 2) (hu : s.untraced) : ∃ t, exec (.modac a b d) s = .next t ∧ t.slot d = .val s.ac ∧
    t.ac = s.modifiedAc a b ∧ t.ip = s.ip + 4 ∧ s.changesOnly t [d] :=
  ⟨_, modac_next a b hd hu, s.slot_setSlot_self d _, rfl, congrArg (· + 4) (s.setSlot_ip d _),
    State.changesOnly_after (State.changesOnly_withAc (s.changesOnly_setSlot d _) _) 4 false⟩

/-- Software reads the mode bits of TC, and any value in the others (10_state R50). -/
theorem State.tcRead_modes (s : State) : s.tcRead &&& 0xFE = s.tc &&& 0xFE := by
  rw [State.tcRead, merge, BitVec.and_or_distrib_right, BitVec.and_assoc, BitVec.and_assoc, BitVec.and_self]
  exact (congrArg (s.tc &&& 0xFE ||| ·) BitVec.and_zero).trans BitVec.or_zero

theorem modtc_result (hd : d ≠ 2) (hu : s.untraced) : ∃ t, exec (.modtc a b d) s = .next t ∧
    (∃ v, t.slot d = .val v ∧ v &&& 0xFE = s.tc &&& 0xFE) ∧ t.tc = s.modifiedTc a b ∧ t.ac = s.ac ∧ t.ip = s.ip + 4 ∧
      s.changesOnly (t.withTc s.tc) [d] := by
  obtain ⟨delay, next⟩ := modtc_next a b hd hu
  refine ⟨_, next, ⟨_, State.slot_setSlot_self _ d _, s.tcRead_modes⟩, State.setSlot_tc _ d _, State.setSlot_ac _ d _,
    congrArg (· + 4) (State.setSlot_ip _ d _), ?_⟩
  have regs := State.changesOnly_setSlot ((s.withTrace delay).withTc (s.modifiedTc a b)) d (.val s.tcRead)
  exact State.changesOnly_withTc (s := s.withTrace delay) (State.changesOnly_after regs 4 false)

section
variable (hs : s.supervisor = true) (hm : operandValue b Site.src2 s ≠ 0) (hd : d ≠ 2) {v : Word}
  (hv : v = merge (operandValue b Site.src2 s) (s.reg d) s.pc)
include hs hm hd hv

/-- The action of `modpc` past its tests of the mask, the mode and the destination (48_processor_management R604). -/
theorem exec_modpc_eq : exec (.modpc a b d) s =
    run 4 (if (v ^^^ s.pc) &&& ~~~pcMask ≠ 0 then refuse .modpcReserved
      else do
        set (((if pcTe v = pcTe s.pc then s else s.openTeWindow).withPc v).setReg d s.pc)
        pure { poll := decide ((pcPriority v).toNat < (pcPriority s.pc).toNat) }) s := by
  have supervisor : requireSupervisor s = .ok () s := by
    rw [requireSupervisor, M.bind_ok (M.get_run s), if_pos hs]
    rfl
  have source : s.src Site.srcDst d = s.reg d := congrArg Slot.get (s.srcSlot_of_ne _ hd)
  subst hv
  rw [← source]
  unfold exec execModpc
  refine run_congr ?_
  rw [M.bind_ok (M.get_run s)]
  simp only [if_neg hm]
  exact (M.bind_ok supervisor).trans (M.bind_ok (checkDst_ok d s hd))

theorem modpc_refused (reserved : (v ^^^ s.pc) &&& ~~~pcMask ≠ 0) : exec (.modpc a b d) s = .refused .modpcReserved := by
  rw [exec_modpc_eq a b hs hm hd hv, if_pos reserved]
  rfl

theorem modpc_next (hu : s.untraced) (legal : (v ^^^ s.pc) &&& ~~~pcMask = 0) (hte : pcTe v = false)
    (hq : (pcPriority s.pc).toNat ≤ (pcPriority v).toNat ∨ s.quiet) :
    exec (.modpc a b d) s = .next (((s.withPc v).setReg d s.pc).after 4 false) := by
  have window : ((s.withPc v).setReg d s.pc).trace.teWindow = 0 :=
    (congrArg TraceDelay.teWindow (State.setSlot_trace _ d _)).trans hu.2
  have same : pcTe v = pcTe s.pc := hte.trans hu.1.symm
  rw [exec_modpc_eq a b hs hm hd hv, if_neg (not_not.mpr legal), if_pos same]
  obtain kept | quiet := hq
  · exact run_after (d := { poll := _ }) rfl hu window rfl (decide_eq_false (Nat.not_lt.mpr kept)) rfl
  · have intr : (((s.withPc v).setReg d s.pc).after 4 false).intr = s.intr := State.setSlot_intr _ d _
    refine run_after_poll (d := { poll := _ }) rfl hu window rfl rfl (State.pendingSource_quiet _ ?_)
    rwa [State.quiet, intr]

end

end

/-- Settles O41: the three instructions write one register and their control register. -/
theorem controlRegisterResults : Obligations.ControlRegisterResults := by
  unfold Obligations.ControlRegisterResults
  refine fun a b d s hu hd => ⟨modac_result a b hd hu, ?modtc, fun hs hm v hv => ⟨?refuse, ?complete⟩⟩
  case modtc =>
    rw [BitVec.and_assoc (operandValue b Site.src2 s)]
    exact modtc_result a b hd hu
  case refuse => exact modpc_refused a b hs hm hd hv
  case complete =>
    intro legal hte hq
    have regs := State.changesOnly_setSlot (s.withPc v) d (.val s.pc)
    exact ⟨_, modpc_next a b hs hm hd hv hu legal hte hq, State.slot_setSlot_self _ d _, State.setSlot_pc _ d _,
      State.setSlot_ac _ d _, congrArg (· + 4) (State.setSlot_ip _ d _),
      State.changesOnly_withPc (State.changesOnly_after regs 4 false)⟩

end Sys2Proof.Machine
end

section
/-! `inten`, `intdis`, `intctl` and `halt` (48_processor_management R583, R584, R592, R600 to R602). -/

namespace Sys2Proof.Machine

/-! The global interrupt enable. -/

/-- `s` with another ICON. -/
def State.withIcon (s : State) (icon : Word) : State := s.withIntr { s.intr with icon := icon }

theorem State.enableInterrupts_true (s : State) : s.enableInterrupts true = s.withIcon (s.intr.icon &&& ~~~0x400) :=
  congrArg s.withIcon (BitVec.zero_or (x := s.intr.icon &&& ~~~0x400))

theorem State.enableInterrupts_false (s : State) : s.enableInterrupts false = s.withIcon (s.intr.icon ||| 0x400) := by
  refine congrArg s.withIcon (BitVec.eq_of_getLsbD_eq fun i hi => ?_)
  rw [getLsbD_merge _ _ _ hi, if_neg Bool.false_ne_true, BitVec.getLsbD_or]
  cases (0x400 : Word).getLsbD i <;> simp

/-- The words of ICON that `intctl` and `halt` write, by operand (48_processor_management R592, R600). -/
def gieChoices (icon : Word) : List (Word × Word) := [(0#32, icon ||| 0x400), (1#32, icon &&& ~~~0x400), (2#32, icon)]

theorem State.gieChoices_state (s : State) : ∀ p ∈ gieChoices s.intr.icon,
    (if p.1 = 0 then s.enableInterrupts false else if p.1 = 1 then s.enableInterrupts true else s) = s.withIcon p.2 := by
  simp only [gieChoices, List.forall_mem_cons, List.not_mem_nil, false_imp_iff, implies_true, and_true]
  exact ⟨s.enableInterrupts_false, s.enableInterrupts_true, rfl⟩

theorem gieChoices_le {icon : Word} : ∀ p ∈ gieChoices icon, ¬ 2 < p.1.toNat := by
  simp only [gieChoices, List.forall_mem_cons, List.not_mem_nil, false_imp_iff, implies_true, and_true]
  decide

/-- The hardware requests depend on the modes and the detection of the pins alone of ICON (60_exceptions R692). -/
theorem Interrupts.hardware_icon {i : Interrupts} {icon : Word} (modes : icon.extractLsb' 0 2 = i.icon.extractLsb' 0 2)
    (detection : icon.extractLsb' 2 8 = i.icon.extractLsb' 2 8) : { i with icon := icon }.hardware = i.hardware := by
  have pins : dedicatedPins icon = dedicatedPins i.icon := by rw [dedicatedPins, modes]; rfl
  have pending : { i with icon := icon }.pending = i.pending := by
    simp only [Interrupts.pending, Interrupts.levelLow, levelPins, pins, detection]
  have dedicated : ∀ bits, { i with icon := icon }.dedicatedRequests bits = i.dedicatedRequests bits := fun bits => by
    induction bits with
    | nil => rfl
    | cons bit rest ih =>
      simp only [Interrupts.dedicatedRequests, pending, pins, ih]
      rfl
  have expanded : { i with icon := icon }.expandedRequests = i.expandedRequests := by
    simp only [Interrupts.expandedRequests, modes]
  rw [Interrupts.hardware, dedicated, expanded]
  rfl

theorem Interrupts.hardware_gie (i : Interrupts) :
    ∀ p ∈ gieChoices i.icon, { i with icon := p.2 }.hardware = i.hardware := by
  simp only [gieChoices, List.forall_mem_cons, List.not_mem_nil, false_imp_iff, implies_true, and_true]
  refine ⟨Interrupts.hardware_icon ?_ ?_, Interrupts.hardware_icon ?_ ?_⟩
  case refine_1 | refine_2 => exact BitVec.extractLsb'_or.trans BitVec.or_zero
  case refine_3 | refine_4 => exact BitVec.extractLsb'_and.trans BitVec.and_allOnes

/-- Where no interrupt is requested, none is with another global enable. -/
theorem State.quiet_gie {s t : State} (hq : s.quiet) {p : Word × Word} (hp : p ∈ gieChoices s.intr.icon)
    (h : t.intr = { s.intr with icon := p.2 }) : t.quiet := by
  obtain ⟨nmi, hardware, software⟩ := hq
  rw [State.quiet, h]
  exact ⟨nmi, (s.intr.hardware_gie p hp).trans hardware, software⟩

/-! The results. -/

section
variable {s : State}

/-- What changes only registers of `s` with other interrupt registers does so of `s`, but for those. -/
theorem State.changesOnly_withIntr {t : State} {i : Interrupts} {ds : List RegNum}
    (h : (s.withIntr i).changesOnly t ds) : s.changesOnly (t.withIntr s.intr) ds := by
  obtain ⟨regs, ⟨hpc, htc, htables, hmasked, hconfig, hbp, -, rest⟩, frames, bytes⟩ := h
  exact ⟨regs, ⟨hpc, htc, htables, hmasked, hconfig, hbp, rfl, rest⟩, frames, bytes⟩

/-- An outcome that is the change of interrupt registers and the end of the instruction. -/
theorem interrupts_result {o : Host.Outcome State Fault Refusal} {i : Interrupts} (h : o = .next ((s.withIntr i).after 4 false)) :
    ∃ t, o = .next t ∧ t.intr = i ∧ t.ac = s.ac ∧ t.ip = s.ip + 4 ∧ s.changesOnly (t.withIntr s.intr) [] :=
  ⟨_, h, rfl, rfl, rfl,
    State.changesOnly_withIntr (State.changesOnly_after (State.changesOnly_refl (s.withIntr i)) 4 false)⟩

variable (hs : s.supervisor = true)
include hs

theorem intdis_next (hu : s.untraced) :
    exec .intdis s = .next ((s.withIcon (s.intr.icon ||| 0x400)).after 4 false) := by
  rw [← s.enableInterrupts_false]
  exact (run_requireSupervisor 4 _ hs).trans (run_after (d := {}) rfl hu hu.2 rfl rfl rfl)

theorem inten_next (hu : s.untraced) (hq : s.quiet) :
    exec .inten s = .next ((s.withIcon (s.intr.icon &&& ~~~0x400)).after 4 false) := by
  have still : ((s.withIcon (s.intr.icon &&& ~~~0x400)).after 4 false).quiet :=
    State.quiet_gie hq (p := (1, _)) (.tail _ (.head _)) rfl
  rw [← s.enableInterrupts_true] at still ⊢
  exact (run_requireSupervisor 4 _ hs).trans
    (run_after_poll (d := { poll := true }) rfl hu hu.2 rfl rfl (State.pendingSource_quiet _ still))

variable {a : Operand} (d : RegNum)

theorem intctl_invalid (h : 2 < (operandValue a Site.src1 s).toNat) :
    exec (.intctl a d) s = s.raised 4 .invalidOperand := by
  refine (run_requireSupervisor 4 _ hs).trans (run_raised ?_)
  rw [M.bind_ok (M.get_run s)]
  simp only [if_pos h]
  rfl

theorem halt_invalid (h : 2 < (operandValue a Site.src1 s).toNat) : exec (.halt a) s = s.raised 4 .invalidOperand := by
  refine (run_requireSupervisor 4 _ hs).trans (run_raised ?_)
  rw [M.bind_ok (M.get_run s)]
  simp only [if_pos h]
  rfl

section
variable {p : Word × Word} (hp : p ∈ gieChoices s.intr.icon) (hv : operandValue a Site.src1 s = p.1) (hu : s.untraced)
include hp hv hu

theorem halt_next :
    exec (.halt a) s = .next ((s.withIntr { s.intr with icon := p.2, halted := true }).after 4 false) := by
  refine (run_requireSupervisor 4 _ hs).trans ?_
  refine run_after (d := {}) (t := s.withIntr { s.intr with icon := p.2, halted := true }) ?_ hu hu.2 rfl rfl rfl
  rw [M.bind_ok (M.get_run s)]
  simp only [hv, if_neg (gieChoices_le p hp), s.gieChoices_state p hp]
  rfl

theorem intctl_next (hd : d ≠ 2) (hq : p.1 ≠ 1 ∨ s.quiet) : exec (.intctl a d) s =
    .next (((s.withIcon p.2).setReg d (if s.interruptsEnabled then 1 else 0)).after 4 false) := by
  have action : ∀ u, (s.withIcon p.2).setReg d (if s.interruptsEnabled then 1 else 0) = u → exec (.intctl a d) s =
      run 4 (set u >>= fun _ => pure { poll := p.1 == 1 }) s := by
    rintro u rfl
    refine (run_requireSupervisor 4 _ hs).trans (run_congr ?_)
    rw [M.bind_ok (M.get_run s)]
    simp only [hv, if_neg (gieChoices_le p hp), s.gieChoices_state p hp]
    exact M.bind_ok (checkDst_ok d s hd)
  have window : ((s.withIcon p.2).setReg d (if s.interruptsEnabled then 1 else 0)).trace.teWindow = 0 :=
    (congrArg TraceDelay.teWindow (State.setSlot_trace _ d _)).trans hu.2
  rw [action _ rfl]
  obtain other | quiet := hq
  · exact run_after (d := { poll := p.1 == 1 }) rfl hu window rfl (beq_eq_false_iff_ne.mpr other) rfl
  · exact run_after_poll (d := { poll := p.1 == 1 }) rfl hu window rfl rfl
      (State.pendingSource_quiet _ (State.quiet_gie quiet hp (State.setSlot_intr _ d _)))

end

end

/-- Settles O42: the operand selects one of the three words of ICON, with which the requests are as before. -/
theorem interruptControl : Obligations.InterruptControl := by
  unfold Obligations.InterruptControl
  refine fun a d s hs hu => ⟨interrupts_result (intdis_next hs hu), fun hq => interrupts_result (inten_next hs hu hq),
    fun above => ⟨intctl_invalid hs d above, halt_invalid hs above⟩,
    fun p hp hv => ⟨fun hd hq => ?intctl, interrupts_result (halt_next hs hp hv hu)⟩⟩
  have enabled : (if s.interruptsEnabled then (1 : Word) else 0) = if s.intr.icon.getLsbD 10 then 0 else 1 := by
    rw [State.interruptsEnabled]
    cases s.intr.icon.getLsbD 10 <;> rfl
  rw [← enabled]
  exact ⟨_, intctl_next hs d hp hv hu hd hq, State.setSlot_intr _ d _, State.slot_setSlot_self _ d _,
    State.setSlot_ac _ d _, congrArg (· + 4) (State.setSlot_ip _ d _),
    State.changesOnly_withIntr (State.changesOnly_after (State.changesOnly_setSlot _ d _) 4 false)⟩

end Sys2Proof.Machine
end

section
/-! `dcctl` and `icctl` by function (48_processor_management R585 to R589, R593 to R598). -/

namespace Sys2Proof.Machine

/-! The words of status. -/

/-- The status word of the data cache (48_processor_management R589). -/
theorem dcacheStatus_eq (p : Part) (enabled : Bool) : cacheStatus p.dcacheLog2Lines Config.dcacheWays enabled =
    (if p = .ja then 0x6220 else 0x7220) + if enabled then 1 else 0 := by
  cases p <;> cases enabled <;> decide

/-- The status word of the instruction cache (48_processor_management R597). -/
theorem icacheStatus_eq (p : Part) (enabled : Bool) : cacheStatus p.icacheLog2Sets Config.icacheWays enabled =
    (if p = .ja then 0x16220 else 0x17220) + if enabled then 1 else 0 := by
  cases p <;> cases enabled <;> decide

/-- The locking status word of the instruction cache (48_processor_management R598). -/
theorem lockStatus_eq (p : Part) (locked : Bool) :
    (1 : Word) ||| (BitVec.ofNat 32 p.lockWords <<< 8) ||| (if locked then 0x01000000 else 0) =
      (if p = .ja then 0x10001 else 0x20001) + if locked then 0x01000000 else 0 := by
  cases p <;> cases locked <;> decide

/-! The actions by function. -/

section
variable (a b : Operand) (d : RegNum) {s : State} (hs : s.supervisor = true) {f : Byte}
  (hf : f = (operandValue a Site.src1 s).setWidth 8)
include hs hf

theorem exec_dcctl_switch (h : f = 0 ∨ f = 1) : exec (.dcctl a b d) s =
    run 4 (set (s.withCache { s.cache with dataEnabled := f == 1 }) >>= fun _ => pure {}) s := by
  refine (run_requireSupervisor 4 _ hs).trans (run_congr ?_)
  rw [M.bind_ok (M.get_run s)]
  simp only [← hf]
  obtain rfl | rfl := h <;> rfl

theorem exec_dcctl_invalidate (h : f = 2 ∨ f = 3) : exec (.dcctl a b d) s =
    run 4 (set s.invalidateDCache >>= fun _ => pure {}) s := by
  refine (run_requireSupervisor 4 _ hs).trans (run_congr ?_)
  rw [M.bind_ok (M.get_run s)]
  simp only [← hf]
  obtain rfl | rfl := h <;> rfl

theorem exec_dcctl_status (h : f = 4) (hd : d ≠ 2) : exec (.dcctl a b d) s =
    run 4 (setDst d (cacheStatus s.plat.part.dcacheLog2Lines Config.dcacheWays s.cache.dataEnabled) >>= fun _ => pure {}) s := by
  subst h
  refine (run_requireSupervisor 4 _ hs).trans (run_congr ?_)
  rw [M.bind_ok (M.get_run s)]
  simp only [← hf]
  exact M.bind_ok (checkDst_ok d s hd)

theorem exec_dcctl_reserved (h : f = 5 ∨ 7 ≤ f.toNat) : exec (.dcctl a b d) s = s.raised 4 .invalidOperand := by
  have other : ∀ x : Byte, x = 5#8 ∨ 7 ≤ x.toNat → x ≠ 0 ∧ x ≠ 1 ∧ ¬ (x = 2 ∨ x = 3) ∧ x ≠ 4 ∧ x ≠ 6 := by decide
  obtain ⟨h0, h1, h23, h4, h6⟩ := other f h
  refine (run_requireSupervisor 4 _ hs).trans (run_raised ?_)
  rw [M.bind_ok (M.get_run s)]
  simp only [← hf]
  rw [if_neg h0, if_neg h1, if_neg h23, if_neg h4, if_neg h6]
  rfl

theorem exec_icctl_switch (h : f = 0 ∨ f = 1) : exec (.icctl a b d) s =
    run 4 (set (s.withCache { s.cache with instrEnabled := f == 1 }) >>= fun _ => pure {}) s := by
  refine (run_requireSupervisor 4 _ hs).trans (run_congr ?_)
  rw [M.bind_ok (M.get_run s)]
  simp only [← hf]
  obtain rfl | rfl := h <;> rfl

theorem exec_icctl_purge (h : f = 2) : exec (.icctl a b d) s = run 4 (set s.purgeICache >>= fun _ => pure {}) s := by
  subst h
  refine (run_requireSupervisor 4 _ hs).trans (run_congr ?_)
  rw [M.bind_ok (M.get_run s)]
  simp only [← hf]
  rfl

theorem exec_icctl_status (h : f = 4) (hd : d ≠ 2) : exec (.icctl a b d) s =
    run 4 (setDst d (cacheStatus s.plat.part.icacheLog2Sets Config.icacheWays s.cache.instrEnabled) >>= fun _ => pure {}) s := by
  subst h
  refine (run_requireSupervisor 4 _ hs).trans (run_congr ?_)
  rw [M.bind_ok (M.get_run s)]
  simp only [← hf]
  exact M.bind_ok (checkDst_ok d s hd)

theorem exec_icctl_lockStatus (h : f = 5) (hd : d ≠ 2) : exec (.icctl a b d) s =
    run 4 (setDst d (1 ||| (BitVec.ofNat 32 s.plat.part.lockWords <<< 8) |||
      (if s.cache.instrLocked then 0x01000000 else 0)) >>= fun _ => pure {}) s := by
  subst h
  refine (run_requireSupervisor 4 _ hs).trans (run_congr ?_)
  rw [M.bind_ok (M.get_run s)]
  simp only [← hf]
  exact M.bind_ok (checkDst_ok d s hd)

theorem exec_icctl_reserved (h : 7 ≤ f.toNat) : exec (.icctl a b d) s = s.raised 4 .invalidOperand := by
  have other : ∀ x : Byte, 7 ≤ x.toNat → x ≠ 0 ∧ x ≠ 1 ∧ x ≠ 2 ∧ x ≠ 3 ∧ x ≠ 4 ∧ x ≠ 5 ∧ x ≠ 6 := by decide
  obtain ⟨h0, h1, h2, h3, h4, h5, h6⟩ := other f h
  refine (run_requireSupervisor 4 _ hs).trans (run_raised ?_)
  rw [M.bind_ok (M.get_run s)]
  simp only [← hf]
  rw [if_neg h0, if_neg h1, if_neg h2, if_neg h3, if_neg h4, if_neg h5, if_neg h6]
  rfl

end

/-! The results. -/

section
variable {s : State} (hu : s.untraced)
include hu

/-- An instruction that changes the caches alone. -/
theorem run_withCache (c : Caches) : ∃ t, run 4 (set (s.withCache c) >>= fun _ => pure {}) s = .next t ∧ t.cache = c ∧
    t.ac = s.ac ∧ t.ip = s.ip + 4 ∧ s.changesOnly (t.withCache s.cache) [] :=
  ⟨_, run_after (d := {}) rfl hu hu.2 rfl rfl rfl, rfl, rfl, rfl, s.changesOnly_withCache c 4 false⟩

theorem run_invalidateDCache : ∃ t, run 4 (set s.invalidateDCache >>= fun _ => pure {}) s = .next t ∧
    t.cache.dataStale = [] ∧ t.ac = s.ac ∧ t.ip = s.ip + 4 ∧ s.changesOnly t [] :=
  ⟨_, run_after (d := {}) rfl hu hu.2 rfl rfl rfl, rfl, rfl, rfl, State.changesOnly_after s.changesOnly_refl 4 false⟩

theorem run_purgeICache : ∃ t, run 4 (set s.purgeICache >>= fun _ => pure {}) s = .next t ∧
    t.cache.codeStale = [] ∧ t.cache.instrLocked = false ∧ t.cache.instrEnabled = s.cache.instrEnabled ∧ t.ac = s.ac ∧
      t.ip = s.ip + 4 ∧ s.changesOnly (t.withCache s.cache) [] :=
  ⟨_, run_after (d := {}) rfl hu hu.2 rfl rfl rfl, rfl, rfl, rfl, rfl, rfl, s.changesOnly_withCache _ 4 false⟩

theorem run_status {d : RegNum} {w v : Word} (h : w = v) : ∃ t, run 4 (setDst d w >>= fun _ => pure {}) s = .next t ∧
    t.slot d = .val v ∧ t.ac = s.ac ∧ t.ip = s.ip + 4 ∧ s.changesOnly t [d] :=
  h ▸ register_result (run_setReg hu rfl)

end

/-- Settles O43: each function of `dcctl` and `icctl` is one action, and what it leaves is that of a change of the caches or of a
register. -/
theorem cacheControl : Obligations.CacheControl := by
  unfold Obligations.CacheControl
  refine fun a b d s hs f hf => ⟨fun hu h => ⟨?dswitch, ?iswitch⟩, fun hu h => ?invalidate, fun hu h => ?purge,
    fun hu h hd => ⟨?dstatus, ?istatus⟩, fun hu h hd => ?lock, exec_dcctl_reserved a b d hs hf,
    exec_icctl_reserved a b d hs hf⟩
  case dswitch =>
    obtain ⟨t, next, cache, rest⟩ := run_withCache hu { s.cache with dataEnabled := f == 1 }
    exact ⟨t, (exec_dcctl_switch a b d hs hf h).trans next, congrArg Caches.dataEnabled cache, rest⟩
  case iswitch =>
    obtain ⟨t, next, cache, rest⟩ := run_withCache hu { s.cache with instrEnabled := f == 1 }
    exact ⟨t, (exec_icctl_switch a b d hs hf h).trans next, congrArg Caches.instrEnabled cache, rest⟩
  case invalidate =>
    rw [exec_dcctl_invalidate a b d hs hf h]
    exact run_invalidateDCache hu
  case purge =>
    rw [exec_icctl_purge a b d hs hf h]
    exact run_purgeICache hu
  case dstatus =>
    rw [exec_dcctl_status a b d hs hf h hd]
    exact run_status hu (dcacheStatus_eq _ _)
  case istatus =>
    rw [exec_icctl_status a b d hs hf h hd]
    exact run_status hu (icacheStatus_eq _ _)
  case lock =>
    rw [exec_icctl_lockStatus a b d hs hf h hd]
    exact run_status hu (lockStatus_eq _ _)

end Sys2Proof.Machine
end

section
/-! `atadd` and `atmod` on memory and on memory-mapped registers (47_atomic R570 to R573). -/

namespace Sys2Proof.Machine

/-! What several changes one after the other leave. -/

theorem State.sameSpecial.trans {s t u : State} (h : s.sameSpecial t) (k : t.sameSpecial u) : s.sameSpecial u := by
  simp only [State.sameSpecial] at h k ⊢
  simp only [k, h, and_self]

theorem State.sameFrames.trans {s t u : State} (h : s.sameFrames t) (k : t.sameFrames u) : s.sameFrames u :=
  ⟨k.1.trans h.1, k.2.1.trans h.2.1, k.2.2.trans h.2.2⟩

/-- A store and then a change of registers. -/
theorem State.StoreFrame.sameRegsBut {s u t : State} {ds : List RegNum} (f : s.StoreFrame u) (h : u.sameRegsBut t ds) :
    s.sameRegsBut t ds := by
  have slot : u.slot = s.slot := funext fun n => by simp only [State.slot, f.locals, f.globals]
  rwa [State.sameRegsBut, slot, f.frames] at h

/-! The address. -/

/-- The word address of an atomic instruction is aligned (47_atomic R571). -/
theorem atomicAddress_aligned (x : Word) : (atomicAddress x).toNat % 4 = 0 := by
  have := congrArg BitVec.toNat (wordAligned_mask x)
  rwa [BitVec.extractLsb'_toNat] at this

/-- An aligned word of MMR space does not wrap around to internal RAM. -/
theorem State.region_of_protectedIn {s : State} {em : Bool} {a : Word} (ha : a.toNat % 4 = 0)
    (h : s.protectedIn em a 4 = true) : regionOf a ≠ .mmr := by
  obtain ⟨i, hi, byte⟩ := (s.protectedIn_iff em a 4).mp h
  rw [State.protectedByte, Bool.and_eq_true, decide_eq_true_eq, regionOf_eq_internalRam_iff, BitVec.toNat_add,
    BitVec.toNat_ofNat] at byte
  rw [Ne, regionOf_eq_mmr_iff]
  have := a.isLt
  omega

/-! A word of memory. -/

section
variable {a : Word} {s : State} (f : Word → Word)

theorem atomicUpdate_ok (hw : s.writable a 4) (hp : s.protectedIn s.supervisor a 4 = false) :
    atomicUpdate a f s = .ok (s.wordAt a) (s.poke32 a (.val (f (s.wordAt a)))) := by
  rw [atomicUpdate, M.bind_ok (checkProtected_ok a 4 s hw.1 hp),
    M.bind_ok (checkRange_ok a 4 s hw.2.1 (State.not_absent_of_writable hw)), M.bind_ok (M.get_run s),
    ← State.peek32_ram hw]
  rfl

theorem atomicUpdate_protected (hm : regionOf a ≠ .mmr) (hp : s.protectedIn s.supervisor a 4 = true) :
    atomicUpdate a f s = .error (.raise .mismatch) s := M.bind_error (checkProtected_raises a 4 s hm hp)

theorem atomicUpdate_mmr (hm : regionOf a = .mmr) : atomicUpdate a f s = .error (.raise .unimplemented) s :=
  M.bind_error (by rw [checkProtected, if_pos hm]; rfl)

theorem atomicMmr_ok {r : MmrName} (h : checkMmrStore a s = .ok r s) :
    atomicMmr a f s = .ok (s.mmrLoaded r) (s.setMmr (f (s.mmrLoaded r)) r) := by
  rw [atomicMmr, M.bind_ok h, M.bind_ok (M.get_run s), ← s.setMmr_afterMmrRead]
  rfl

end

/-- What an atomic update of RAM leaves: the old word in the register, the new one in memory. -/
theorem State.atomicallyUpdated (s : State) {a : Word} (w : Word) (d : RegNum) (v : Word) (hm : s.mem.wf = true)
    (hw : s.writable a 4) {t : State} (ht : t = ((s.poke32 a (.val v)).setReg d w).after 4 false) :
    t.slot d = .val w ∧ t.wordAt a = v ∧ t.ac = s.ac ∧ t.ip = s.ip + 4 ∧ s.sameRegsBut t [d] ∧ s.sameSpecial t ∧
      s.sameFrames t ∧ s.sameBytesBut t a 4 := by
  obtain ⟨frame, -, others⟩ := State.stored_poke32 (a := a) (.val v) hm hw
  have holds := State.holdsWord_poke32 s a (.val v) hm fun i hi => State.stores_of_writable hw (by decide) hi
  obtain ⟨-, special, frames⟩ := frame.keeps
  obtain ⟨regs, special', frames', bytes⟩ := State.changesOnly_setSlot (s.poke32 a (.val v)) d (.val w)
  have word : t.wordAt a = v := by
    subst ht
    refine State.wordAt_of_holdsWord (State.holdsWord_congr ?_ (fun i _ => bytes _) holds)
    exact congrArg (fun c : MemConfig => c.dlmcon.getLsbD 0) (State.setSlot_config _ d _)
  subst ht
  exact ⟨State.slot_setSlot_self _ d _, word, (State.setSlot_ac _ d _).trans frame.ac,
    congrArg (· + 4) ((State.setSlot_ip _ d _).trans frame.ip), frame.sameRegsBut regs, special.trans special',
    frames.trans frames', fun b hb => (bytes b).trans (others b hb)⟩

/-! A memory-mapped register. -/

/-- `s` after an `atmod` of the register `r` with the mask `mask` and register `d` (47_atomic R573). -/
def State.mmrExchanged (s : State) (r : MmrName) (d : RegNum) (mask : Word) : State :=
  (s.setMmr (merge mask (s.reg d) (s.mmrLoaded r)) r).setReg d (s.mmrLoaded r)

/-- The registers that only `sysctl` reads are stored as they are given (10_state R53). -/
theorem State.mmrStored_sysctlOnly (s : State) {r : MmrName} (h : r.sysctlOnly = true) (v : Word) : s.mmrStored r v = v := by
  cases r <;> first | rfl | cases h

theorem merge_and (mask new old : Word) : merge mask new old &&& mask = new &&& mask := by
  refine BitVec.eq_of_getLsbD_eq fun i hi => ?_
  rw [BitVec.getLsbD_and, BitVec.getLsbD_and, getLsbD_merge _ _ _ hi]
  cases mask.getLsbD i <;> simp

theorem State.mmrExchanged_spec (s : State) (r : MmrName) (d : RegNum) (mask : Word) {t : State}
    (ht : t = (s.mmrExchanged r d mask).after 4 false) :
    (r.sysctlOnly = false → t.slot d = .val (s.mmr r) ∧ s.mmrWritten t r (if r = .prcb ∨ r = .deviceId then s.mmr r
      else ((s.reg d &&& mask) ||| (s.mmr r &&& ~~~mask)) &&& (if r = .tmr0 ∨ r = .tmr1 then ~~~1 else ~~~0))) ∧
    (r.sysctlOnly = true → t.mmr r &&& mask = s.reg d &&& mask ∧ s.mmrWritten t r (t.mmr r)) ∧
    t.ip = s.ip + 4 ∧ t.ac = s.ac ∧ t.pc = s.pc ∧ t.tc = s.tc ∧ s.sameRegsBut t [d] ∧ s.sameBytes t := by
  obtain ⟨hip, hac, hpc, htc, -, -, hbytes⟩ := s.setMmr_leaves (merge mask (s.reg d) (s.mmrLoaded r)) r
  obtain ⟨-, -, -, bytes⟩ :=
    State.changesOnly_setSlot (s.setMmr (merge mask (s.reg d) (s.mmrLoaded r)) r) d (.val (s.mmrLoaded r))
  have written : s.mmrWritten t r (s.mmrStored r (merge mask (s.reg d) (s.mmrLoaded r))) :=
    ht ▸ State.mmrWritten_after (State.mmrWritten_setSlot (s.mmrWritten_setMmr _ r) d _) 4 false
  have slot : t.slot d = .val (s.mmrLoaded r) := ht ▸ State.slot_setSlot_self _ d _
  refine ⟨fun readable => ?readable, fun only => ?only, ?_⟩
  case readable =>
    have loaded : s.mmrLoaded r = s.mmr r := by rw [State.mmrLoaded, readable]; rfl
    rw [loaded] at slot written
    rw [← s.mmrStored_merge]
    exact ⟨slot, written⟩
  case only =>
    have other : r ≠ .ipnd := by rintro rfl; cases only
    rw [s.mmrStored_sysctlOnly only] at written
    have now : t.mmr r = merge mask (s.reg d) (s.mmrLoaded r) := written.1.trans (if_neg other)
    rw [now]
    exact ⟨merge_and _ _ _, written⟩
  · subst ht
    exact ⟨congrArg (· + 4) ((State.setSlot_ip _ d _).trans hip), (State.setSlot_ac _ d _).trans hac,
      (State.setSlot_pc _ d _).trans hpc, (State.setSlot_tc _ d _).trans htc, s.sameRegsBut_setMmr_setSlot _ r d _,
      fun x => (bytes x).trans (hbytes x)⟩

/-! The instructions. -/

theorem run_atomicUpdate {x : Word} {s : State} (d : RegNum) (f : Word → Word) (hw : s.writable x 4)
    (hp : s.protectedIn s.supervisor x 4 = false) (hu : s.untraced) :
    run 4 (atomicUpdate x f >>= fun old => setDst d old >>= fun _ => pure {}) s =
      .next (((s.poke32 x (.val (f (s.wordAt x)))).setReg d (s.wordAt x)).after 4 false) := by
  have frame := s.poke32_frame x (.val (f (s.wordAt x)))
  refine run_after (d := {}) (M.bind_ok (atomicUpdate_ok f hw hp)) hu ?_ rfl rfl rfl
  exact (congrArg TraceDelay.teWindow ((State.setSlot_trace _ d _).trans frame.trace)).trans hu.2

section
variable (a b : Operand) {d : RegNum} {s : State} (hd : d ≠ 2) {x : Word}
  (hx : x = operandValue a Site.src1 s &&& 0xFFFFFFFC)
include hd hx

theorem exec_atadd_eq : exec (.atadd a b d) s =
    run 4 (atomicUpdate x (· + operandValue b Site.src2 s) >>= fun old => setDst d old >>= fun _ => pure {}) s := by
  subst hx
  exact run_congr ((M.bind_ok (checkDst_ok d s hd)).trans (M.bind_ok (M.get_run s)))

theorem exec_atmod_eq : exec (.atmod a b d) s =
    run 4 ((if regionOf x = .mmr then atomicMmr x (merge (operandValue b Site.src2 s) (s.reg d))
      else atomicUpdate x (merge (operandValue b Site.src2 s) (s.reg d))) >>= fun old =>
        setDst d old >>= fun _ => pure {}) s := by
  have source : s.src Site.srcDst d = s.reg d := congrArg Slot.get (s.srcSlot_of_ne _ hd)
  subst hx
  rw [← source]
  refine run_congr ((M.bind_ok (checkDst_ok d s hd)).trans ?_)
  rw [M.bind_ok (M.get_run s)]
  by_cases hm : regionOf (operandValue a Site.src1 s &&& 0xFFFFFFFC) = .mmr
  · exact (congrFun (if_pos hm) s).trans (congrFun (congrArg (· >>= _) (if_pos hm)) s).symm
  · exact (congrFun (if_neg hm) s).trans (congrFun (congrArg (· >>= _) (if_neg hm)) s).symm

section
variable (hw : s.writable x 4) (hp : s.protectedIn s.supervisor x 4 = false) (hu : s.untraced)
include hw hp hu

theorem atadd_next : exec (.atadd a b d) s = .next
    (((s.poke32 x (.val (s.wordAt x + operandValue b Site.src2 s))).setReg d (s.wordAt x)).after 4 false) :=
  (exec_atadd_eq a b hd hx).trans (run_atomicUpdate d _ hw hp hu)

theorem atmod_next : exec (.atmod a b d) s = .next
    (((s.poke32 x (.val (merge (operandValue b Site.src2 s) (s.reg d) (s.wordAt x)))).setReg d (s.wordAt x)).after 4 false) := by
  rw [exec_atmod_eq a b hd hx, if_neg hw.1]
  exact run_atomicUpdate d _ hw hp hu

end

theorem atomic_protected (hp : s.protectedIn s.supervisor x 4 = true) :
    exec (.atadd a b d) s = s.raised 4 .mismatch ∧ exec (.atmod a b d) s = s.raised 4 .mismatch := by
  have hm : regionOf x ≠ .mmr := State.region_of_protectedIn (hx ▸ atomicAddress_aligned _) hp
  rw [exec_atadd_eq a b hd hx, exec_atmod_eq a b hd hx, if_neg hm]
  exact ⟨run_raised (M.bind_error (atomicUpdate_protected _ hm hp)),
    run_raised (M.bind_error (atomicUpdate_protected _ hm hp))⟩

theorem atadd_mmr (hm : regionOf x = .mmr) : exec (.atadd a b d) s = s.raised 4 .unimplemented := by
  rw [exec_atadd_eq a b hd hx]
  exact run_raised (M.bind_error (atomicUpdate_mmr _ hm))

section
variable (hm : regionOf x = .mmr)
include hm

theorem atmod_mmr_raises {k : FaultKind} (hc : checkMmrStore x s = .error (.raise k) s) :
    exec (.atmod a b d) s = s.raised 4 k := by
  rw [exec_atmod_eq a b hd hx, if_pos hm]
  exact run_raised (M.bind_error (M.bind_error hc))

theorem atmod_mmr_next {r : MmrName} (hc : checkMmrStore x s = .ok r s) (hu : s.untraced) :
    exec (.atmod a b d) s = .next ((s.mmrExchanged r d (operandValue b Site.src2 s)).after 4 false) := by
  obtain ⟨-, -, -, -, htrace, -⟩ :=
    s.setMmr_leaves (merge (operandValue b Site.src2 s) (s.reg d) (s.mmrLoaded r)) r
  rw [exec_atmod_eq a b hd hx, if_pos hm]
  refine run_after (d := {}) (M.bind_ok (atomicMmr_ok _ hc)) hu ?_ rfl rfl rfl
  exact (congrArg TraceDelay.teWindow ((State.setSlot_trace _ d _).trans htrace)).trans hu.2

end
end

/-- Settles O27: on RAM each is a read and a store; in MMR space the checks of a store decide, and the register that `atmod`
exchanges is that of the table. -/
theorem atomicUpdates : Obligations.AtomicUpdates := by
  unfold Obligations.AtomicUpdates
  refine ⟨fun a b d s hu hd hm hw hp => ⟨⟨_, atadd_next a b hd rfl hw hp hu, s.atomicallyUpdated _ d _ hm hw rfl⟩, ?modify⟩,
    fun a b d s hd x hx => ⟨atomic_protected a b hd hx, fun h => atadd_mmr a b hd hx ((regionOf_eq_mmr_iff x).mpr h), ?registers⟩⟩
  case modify =>
    obtain ⟨slot, word, rest⟩ := s.atomicallyUpdated (s.wordAt _) d _ hm hw rfl
    refine ⟨_, atmod_next a b hd rfl hw hp hu, slot, fun i hi => ?_, rest⟩
    rw [word, getLsbD_merge _ _ _ hi]
  case registers =>
    intro p hpt he
    obtain ⟨hm, ha, -, hr, hspace⟩ := mmrTable_addresses p hpt x he
    have checks := checkMmrStore_eq s ha hr
    refine ⟨fun user space => ?mismatch, fun sup rights => ?rights, fun allowed rights hu => ?exchange⟩
    case mismatch =>
      refine atmod_mmr_raises a b hd hx hm ?_
      rw [checks, if_pos ⟨user, space.imp_left hspace.mpr⟩]
    case rights =>
      refine atmod_mmr_raises a b hd hx hm ?_
      rw [checks, if_neg (fun h => by rw [sup] at h; cases h.1), if_neg (by rw [rights]; decide)]
    case exchange =>
      have pass : checkMmrStore x s = .ok p.2 s := by
        rw [checks, if_neg, if_pos rights]
        rintro ⟨user, space⟩
        obtain sup | ⟨low, timer⟩ := allowed
        · rw [user] at sup; cases sup
        · rw [hspace, timer] at space
          exact space.elim (fun h => absurd low (Nat.not_lt.mpr h)) fun h => by cases h
      exact ⟨_, atmod_mmr_next a b hd hx hm pass hu, s.mmrExchanged_spec p.2 d _ rfl⟩

end Sys2Proof.Machine
end

section
/-! The call of a handler: a record on the stack of the handler and a new frame above it (45_call_return R503;
60_exceptions R651, R655, R688 to R690). -/

namespace Sys2Proof.Machine

/-! Stack bases. -/

theorem and_mask16_toNat (w : Word) : (w &&& 0xFFFFFFF0).toNat = 16 * (w.toNat / 16) := by
  have mask : ∀ i < 32, (0xFFFFFFF0 : Word).getLsbD i = decide (4 ≤ i) := by decide
  have shifts : w &&& (0xFFFFFFF0 : Word) = w >>> 4 <<< 4 := by
    refine BitVec.eq_of_getLsbD_eq fun i hi => ?_
    rw [BitVec.getLsbD_and, mask i hi, BitVec.getLsbD_shiftLeft, BitVec.getLsbD_ushiftRight]
    by_cases low : i < 4
    · simp [low]
    · simp [low, hi, Nat.not_lt.mp low]
  rw [shifts, BitVec.toNat_shiftLeft, BitVec.toNat_ushiftRight, Nat.shiftLeft_eq, Nat.shiftRight_eq_div_pow]
  omega

theorem frameAt_aligned (x : Word) : (frameAt x).toNat % 16 = 0 := by
  rw [frameAt, and_mask16_toNat]
  omega

theorem frameAt_of_aligned {x : Word} (h : x.toNat % 16 = 0) : frameAt x = x := by
  refine BitVec.eq_of_toNat_eq ?_
  rw [frameAt, and_mask16_toNat, BitVec.toNat_add]
  have := x.isLt
  show 16 * ((x.toNat + 15) % 2 ^ 32 / 16) = x.toNat
  omega

/-- A multiple of 16 above the base of a frame is one too. -/
theorem frameAt_add (x : Word) {n : Nat} (h : n % 16 = 0) :
    frameAt (frameAt x + BitVec.ofNat 32 n) = frameAt x + BitVec.ofNat 32 n := by
  have := frameAt_aligned x
  refine frameAt_of_aligned ?_
  rw [BitVec.toNat_add, BitVec.toNat_ofNat]
  omega

/-! The record and the frame. -/

/-- `u` is `s` with the words `vs` stored from `base`, and with another PC and other interrupt registers (60_exceptions R655,
R690). -/
structure State.Recorded (s u : State) (base : Word) (vs : List Slot) : Prop where
  slot : u.slot = s.slot
  locals : u.locals = s.locals
  frames : u.frames = s.frames
  ac : u.ac = s.ac
  special : s.sameSpecial ((u.withPc s.pc).withIntr s.intr)
  bytes : ∀ b, u.byteAt b = (s.pokeWords base vs).byteAt b

theorem State.recorded_pokeWords (s : State) (base : Word) (vs : List Slot) (pc : Word) (delay : TraceDelay)
    (i : Interrupts) : s.Recorded ((((s.pokeWords base vs).withPc pc).withTrace delay).withIntr i) base vs ∧
      ((((s.pokeWords base vs).withPc pc).withTrace delay).withIntr i).pc = pc ∧
      ((((s.pokeWords base vs).withPc pc).withTrace delay).withIntr i).intr = i := by
  have frame := s.pokeWords_frame base vs
  obtain ⟨-, ⟨-, htc, htables, hmasked, hconfig, hbp, -, rest⟩, -⟩ := frame.keeps
  have slot : (s.pokeWords base vs).slot = s.slot :=
    funext fun r => by simp only [State.slot, frame.locals, frame.globals]
  exact ⟨⟨slot, frame.locals, frame.frames, frame.ac, ⟨rfl, htc, htables, hmasked, hconfig, hbp, rfl, rest⟩,
    fun _ => rfl⟩, rfl, rfl⟩

/-- `t` is `s` in the frame of a handler: the words `vs` stand at `base`, the frame is above them, the set of the interrupted
frame is suspended with `rip` in its r2, and of the rest only PC and the interrupt registers differ. -/
structure State.HandlerEntered (s t : State) (target base : Word) (vs : List Slot) (flags : Word) (rip : Slot) : Prop where
  ip : t.ip = target &&& 0xFFFFFFFC
  enters : s.entersFrame t (base + BitVec.ofNat 32 (4 * vs.length)) flags
  suspended : ∃ f, t.frames.cache = s.frames.cache ++ [f] ∧ s.suspendedAs f rip
  holds : ∀ i v, vs[i]? = some v → t.holdsWord (base + BitVec.ofNat 32 (4 * i)) v
  ac : t.ac = s.ac
  special : s.sameSpecial ((t.withPc s.pc).withIntr s.intr)
  others : s.sameBytesBut t base (4 * vs.length + 64)

theorem State.HandlerEntered.suspendsOnto {s t : State} {target base flags : Word} {vs : List Slot} {rip : Slot}
    (h : s.HandlerEntered t target base vs flags rip) : s.suspendsOnto t s.frames.cache rip := by
  obtain ⟨f, cache, set⟩ := h.suspended
  rw [State.suspendsOnto, cache]
  exact ⟨List.dropLast_concat, f, List.getLast?_concat, set⟩

/-- The suspended set register by register. -/
theorem State.suspendedAs.regs {s : State} {f : CachedFrame} {rip : Slot} (h : s.suspendedAs f rip) :
    (∀ n < 16, n ≠ 2 → (f.regs.toList)[n]? = (s.locals.toList)[n]?) ∧ (f.regs.toList)[2]? = some rip := by
  obtain ⟨regs, -, -⟩ := h
  have list : f.regs.toList = s.locals.toList.set 2 rip := by rw [regs]; exact Vector.toList_set _
  rw [list]
  exact ⟨fun n _ hne => List.getElem?_set_ne fun e => hne e.symm, List.getElem?_set_self (by simp)⟩

section
variable {s u : State} {base x : Word} {vs : List Slot} (h : s.Recorded u base vs)
include h

theorem State.Recorded.callee {t : State} {target top flags : Word} {rip : Slot}
    (made : u.CallMade t target top flags (u.frames.cache ++ [u.suspended rip])) :
    s.entersFrame t top flags ∧ (∃ f, t.frames.cache = s.frames.cache ++ [f] ∧ s.suspendedAs f rip) ∧ t.ac = s.ac ∧
      s.sameSpecial ((t.withPc s.pc).withIntr s.intr) := by
  obtain ⟨-, enters, cached, ac, special, -⟩ := made
  have reg : u.reg = s.reg := funext fun n => congrArg (fun f : RegNum → Slot => (f n).get) h.slot
  have set := u.suspendedAs_suspended rip
  rw [State.suspendedAs, h.locals, reg, h.frames] at set
  rw [State.entersFrame, h.slot, reg, h.frames] at enters
  refine ⟨enters, ⟨_, cached.trans (congrArg (·.cache ++ _) h.frames), set⟩, ac.trans h.ac, ?_⟩
  obtain ⟨-, htc, htables, hmasked, hconfig, hbp, -, rest⟩ := special
  exact State.sameSpecial.trans h.special ⟨rfl, htc, htables, hmasked, hconfig, hbp, rfl, rest⟩

variable (hl : vs.length < 1024) (hm : s.mem.wf = true) (hw : s.wordsWritable base vs.length)
include hl hm hw

/-- The words of the record stay where the new frame is above them. -/
theorem State.Recorded.holds {t : State} (config : t.config = s.config)
    (bytes : u.sameBytesBut t (base + BitVec.ofNat 32 (4 * vs.length)) 64) {i : Nat} {v : Slot} (hi : vs[i]? = some v) :
    t.holdsWord (base + BitVec.ofNat 32 (4 * i)) v := by
  have below : i < vs.length := (List.getElem?_eq_some_iff.mp hi).1
  have order : t.bigEndian = (s.pokeWords base vs).bigEndian := by
    rw [(s.pokeWords_frame base vs).bigEndian]
    exact congrArg (fun c : MemConfig => c.dlmcon.getLsbD 0) config
  refine State.holdsWord_congr order (fun j hj => ?_)
    (s.holdsWord_pokeWords base vs hm (State.stores_of_wordsWritable hw) (by omega) hi)
  refine (bytes _ fun k hk => ?_).trans (h.bytes _)
  rw [word_add_ofNat, word_add_ofNat]
  exact word_add_ofNat_ne base (by omega) (by omega) (by omega)

/-- The call of the handler where the cache has room (45_call_return R503). -/
theorem State.Recorded.enters (hx : base = frameAt x) (hn : vs.length % 4 = 0) (target : Word) (rip : Slot) (rt : BitVec 3)
    (hp : u.pushSpills = false) :
    ∃ t, doCall rip target rt (base + BitVec.ofNat 32 (4 * vs.length)) u = .ok () t ∧
      s.HandlerEntered t target base vs (u.linkFlags rt) rip ∧ t.pc = u.pc ∧ t.intr = u.intr := by
  obtain ⟨t, ok, made, bytes⟩ := doCall_room target rt (base + BitVec.ofNat 32 (4 * vs.length)) (rip := rip) hp
  have top : frameAt (base + BitVec.ofNat 32 (4 * vs.length)) = base + BitVec.ofNat 32 (4 * vs.length) := by
    rw [hx]
    exact frameAt_add x (by omega)
  rw [top] at bytes
  obtain ⟨enters, suspended, ac, special⟩ := h.callee made
  have config : t.config = s.config := special.2.2.2.2.1
  refine ⟨t, ok, ⟨made.ip, enters, suspended, fun i v => h.holds hl hm hw config bytes, ac, special, ?others⟩,
    made.special.1, made.special.2.2.2.2.2.2.1⟩
  intro b hb
  refine (bytes b fun i hi => ?_).trans ((h.bytes b).trans (s.byteAt_pokeWords_ne base b vs fun i hi => hb i (by omega)))
  rw [word_add_ofNat]
  exact hb _ (by omega)

end

end Sys2Proof.Machine
end

section
/-! Taking a fault (60_exceptions R650 to R655, R703, R704). -/

namespace Sys2Proof.Machine

/-! What the fault table selects. -/

/-- The address of the entry of a fault type in the fault table (60_exceptions R650). -/
def State.faultEntry (s : State) (n : BitVec 8) : Word := s.tables.fault + 8 * n.zeroExtend 32

section
variable {n : BitVec 8} {s : State}

theorem faultTarget_eq (h : s.settled (s.faultEntry n) 4) : faultTarget n s =
    (if (s.wordAt (s.faultEntry n)).extractLsb' 0 2 = 0#2 then
      if n = 1 then refuse .traceEntry else pure (s.wordAt (s.faultEntry n), false)
    else if (s.wordAt (s.faultEntry n)).extractLsb' 0 2 = 2#2 then do
      let second ← readImplicit true (s.faultEntry n + 4)
      if second ≠ systemEntryWord then refuse (.faultEntryWord second)
      else if 259 < (s.wordAt (s.faultEntry n) >>> 2).toNat then refuse .faultProcedureNumber
      else do
        let proc ← readImplicit true (s.tables.spt + 48 + 4 * (s.wordAt (s.faultEntry n) >>> 2))
        if proc.extractLsb' 0 2 = 2#2 then pure (proc, !s.supervisor)
        else if proc.extractLsb' 0 2 = 0#2 then if n = 1 then refuse .traceEntry else pure (proc, false)
        else refuse .reservedSptEntry
    else refuse .reservedFaultEntry : M (Word × Bool)) s := by
  have place : s.tables.fault + n.zeroExtend 32 * 8 = s.faultEntry n := by rw [BitVec.mul_comm]; rfl
  rw [faultTarget, M.bind_ok (M.get_run s)]
  simp only [place]
  exact M.bind_ok (readImplicit_ok true (s.faultEntry n) s h)

variable (h : s.settled (s.faultEntry n) 4)
include h

theorem faultTarget_local (hlocal : (s.wordAt (s.faultEntry n)).extractLsb' 0 2 = 0#2) (hn : n ≠ 1) :
    faultTarget n s = .ok (s.wordAt (s.faultEntry n), false) s := by
  rw [faultTarget_eq h, if_pos hlocal, if_neg hn]
  rfl

/-- A local procedure does not take a TRACE fault (60_exceptions R652). -/
theorem faultTarget_traceLocal (hlocal : (s.wordAt (s.faultEntry n)).extractLsb' 0 2 = 0#2) (hn : n = 1) :
    faultTarget n s = .error (.refuse .traceEntry) s := by
  rw [faultTarget_eq h, if_pos hlocal, if_pos hn]
  rfl

section
variable (hsystem : (s.wordAt (s.faultEntry n)).extractLsb' 0 2 = 2#2) (h' : s.settled (s.faultEntry n + 4) 4)
include hsystem h'

theorem faultTarget_secondWord (hw : s.wordAt (s.faultEntry n + 4) ≠ systemEntryWord) :
    faultTarget n s = .error (.refuse (.faultEntryWord (s.wordAt (s.faultEntry n + 4)))) s := by
  rw [faultTarget_eq h, hsystem, if_neg (by decide), if_pos rfl, M.bind_ok (readImplicit_ok true _ s h'), if_pos hw]
  rfl

variable (hw : s.wordAt (s.faultEntry n + 4) = systemEntryWord) (hnum : (s.wordAt (s.faultEntry n)).toNat / 4 ≤ 259)
  {entry : Word} (he : entry = s.tables.spt + 48 + 4 * (s.wordAt (s.faultEntry n) >>> 2)) (hset : s.settled entry 4)
include hw hnum he hset

/-- The entry of the system procedure table is the rest of the way (60_exceptions R650; 45_call_return R512). -/
theorem faultTarget_procedure : faultTarget n s =
    (if (s.wordAt entry).extractLsb' 0 2 = 2#2 then pure (s.wordAt entry, !s.supervisor)
      else if (s.wordAt entry).extractLsb' 0 2 = 0#2 then
        if n = 1 then refuse .traceEntry else pure (s.wordAt entry, false)
      else refuse .reservedSptEntry : M (Word × Bool)) s := by
  have number : ¬ 259 < (s.wordAt (s.faultEntry n) >>> 2).toNat := by
    rw [BitVec.toNat_ushiftRight, Nat.shiftRight_eq_div_pow]
    omega
  rw [faultTarget_eq h, hsystem, if_neg (by decide), if_pos rfl, M.bind_ok (readImplicit_ok true _ s h'), hw,
    if_neg (not_not.mpr rfl), if_neg number, ← he]
  exact M.bind_ok (readImplicit_ok true entry s hset)

/-- A procedure that is not a reserved one, for a fault that is no TRACE fault. -/
theorem faultTarget_system (hn : n ≠ 1) (hres : (s.wordAt entry).getLsbD 0 = false) :
    faultTarget n s = .ok (s.wordAt entry, (s.wordAt entry).getLsbD 1 && !s.supervisor) s := by
  rw [faultTarget_procedure h hsystem h' hw hnum he hset, entryType_eq, hres]
  cases (s.wordAt entry).getLsbD 1 with
  | true => rfl
  | false => rw [if_neg (by decide), if_pos (by decide), if_neg hn]; rfl

end
end

/-! The fault call. -/

/-- The type word of the record (60_exceptions R655). -/
theorem faultTypeWord_eq (n sub : BitVec 8) : faultTypeWord n sub = n.zeroExtend 32 * 0x10000 + sub.zeroExtend 32 := by
  have shifted : n.zeroExtend 32 <<< 16 = n.zeroExtend 32 * 0x10000 := BitVec.shiftLeft_eq_mul_twoPow _ 16
  have apart : n.zeroExtend 32 <<< 16 &&& sub.zeroExtend 32 = 0#32 := by
    refine BitVec.eq_of_getLsbD_eq fun i hi => ?_
    by_cases low : i < 16
    · simp [low]
    · simp [BitVec.getLsbD_of_ge sub i (by omega)]
  rw [faultTypeWord, ← shifted, BitVec.add_eq_or_of_and_eq_zero _ _ apart]

section
variable {n sub : BitVec 8} {ip rip : Slot} {deferred switches : Bool} {s : State}

/-- PC as the handler of a fault has it. -/
def State.pcInHandler (s : State) (n : BitVec 8) (switches : Bool) : Word :=
  if switches || n = 1 then s.handlerPc switches (n = 1) else s.pc

/-- The words of the record of a fault call (60_exceptions R655, R703). -/
def State.faultWords (s : State) (n sub : BitVec 8) (ip : Slot) (deferred : Bool) : List Slot :=
  faultRecord s.free (if deferred then pcSetTfp s.pc true else s.pc) s.ac (faultTypeWord n sub) ip

theorem State.faultWords_length (s : State) (n sub : BitVec 8) (ip : Slot) (deferred : Bool) :
    (s.faultWords n sub ip deferred).length = 12 := rfl

theorem State.recorded_fault (s : State) (n sub : BitVec 8) (ip : Slot) (deferred switches : Bool) :
    s.Recorded (s.faultStored n sub ip deferred switches) (s.faultStack switches) (s.faultWords n sub ip deferred) ∧
    (s.faultStored n sub ip deferred switches).pc = s.pcInHandler n switches ∧
    (s.faultStored n sub ip deferred switches).intr = s.intr := by
  have stored : ∃ delay, s.faultStored n sub ip deferred switches =
      (((s.pokeWords (s.faultStack switches) (s.faultWords n sub ip deferred)).withPc
        (s.pcInHandler n switches)).withTrace delay).withIntr s.intr := by
    rw [State.faultStored, State.pcInHandler, ← State.faultWords]
    have frame := s.pokeWords_frame (s.faultStack switches) (s.faultWords n sub ip deferred)
    generalize s.pokeWords _ _ = u at frame ⊢
    have pc : u.handlerPc switches (n = 1) = s.handlerPc switches (n = 1) := by
      rw [State.handlerPc, State.handlerPc, frame.pc, frame.tables]
    cases switches || decide (n = 1) with
    | true => exact ⟨{ u.trace with teWindow := 0 }, by rw [pc, ← frame.intr]; rfl⟩
    | false => exact ⟨u.trace, by rw [← frame.pc, ← frame.intr]; rfl⟩
  obtain ⟨delay, stored⟩ := stored
  rw [stored]
  exact s.recorded_pokeWords _ _ _ delay _

theorem pcPriority_pcSetTe (pc : Word) (te : Bool) : pcPriority (pcSetTe pc te) = pcPriority pc := by
  have all : (~~~(1 : Word)).extractLsb' 16 5 = BitVec.allOnes 5 := rfl
  have bit : (if te then (1 : Word) else 0).extractLsb' 16 5 = 0 := by cases te <;> rfl
  rw [pcPriority, pcSetTe_eq, BitVec.extractLsb'_or, bit, BitVec.extractLsb'_and, all, BitVec.and_allOnes]
  exact BitVec.or_zero

theorem pcInterrupted_pcSetTe (pc : Word) (te : Bool) : pcInterrupted (pcSetTe pc te) = pcInterrupted pc := by
  cases te <;> simp [pcInterrupted, pcSetTe_eq]

/-- The room in the cache is that before the change of PC (45_call_return R505). -/
theorem State.pushSpills_faultStored : (s.faultStored n sub ip deferred switches).pushSpills = s.pushSpills := by
  obtain ⟨recorded, pc, -⟩ := s.recorded_fault n sub ip deferred switches
  have handler : ∀ trace, pcPriority (s.handlerPc switches trace) = pcPriority s.pc ∧
      pcInterrupted (s.handlerPc switches trace) = pcInterrupted s.pc := by
    have switched : pcPriority (if switches then supervisorPc s.pc (s.tables.ssp.getLsbD 0) else s.pc) = pcPriority s.pc ∧
        pcInterrupted (if switches then supervisorPc s.pc (s.tables.ssp.getLsbD 0) else s.pc) = pcInterrupted s.pc := by
      cases switches with
      | true => exact ⟨pcPriority_supervisorPc _ _, pcInterrupted_supervisorPc _ _⟩
      | false => exact ⟨rfl, rfl⟩
    intro trace
    rw [State.handlerPc, pcSetTe_supervisor]
    cases trace with
    | true =>
      exact ⟨(pcPriority_pcSetTe _ false).trans switched.1, (pcInterrupted_pcSetTe _ false).trans switched.2⟩
    | false => exact switched
  have same : pcPriority (s.pcInHandler n switches) = pcPriority s.pc ∧
      pcInterrupted (s.pcInHandler n switches) = pcInterrupted s.pc := by
    rw [State.pcInHandler]
    split
    · exact handler _
    · exact ⟨rfl, rfl⟩
  obtain ⟨priority, interrupted⟩ := same
  simp only [State.pushSpills, recorded.frames, pc, priority, interrupted]

/-- What a call of return type 1 writes to PFP beside the link (45_call_return R504). -/
theorem State.linkFlags_faultStored : (s.faultStored n sub ip deferred switches).linkFlags 1 =
    if pcTe (s.pcInHandler n switches) && s.tc.getLsbD 3 then 9 else 1 := by
  obtain ⟨recorded, pc, -⟩ := s.recorded_fault n sub ip deferred switches
  have tc : (s.faultStored n sub ip deferred switches).tc = s.tc := recorded.special.2.1
  have mode : (s.tc.setWidth 8).getLsbD 3 = s.tc.getLsbD 3 := by simp
  rw [State.linkFlags, State.callTraced, pc, tc, tcMode_call, mode]
  cases pcTe (s.pcInHandler n switches) && s.tc.getLsbD 3 <;> rfl

/-- The fault call where the record can be stored and the cache has room (60_exceptions R650 to R655). -/
theorem faultCall_enters {target : Word} (ht : faultTarget n s = .ok (target, switches) s) (hm : s.mem.wf = true)
    (hw : s.wordsWritable (s.faultStack switches) 12)
    (hprot : s.protectedIn (s.supervisor || switches) (s.faultStack switches) 48 = false) (hp : s.pushSpills = false) :
    ∃ t, faultCall n sub rip ip deferred s = .ok () t ∧
      s.HandlerEntered t target (s.faultStack switches) (s.faultWords n sub ip deferred)
        (if pcTe (s.pcInHandler n switches) && s.tc.getLsbD 3 then 9 else 1) rip ∧
      t.pc = s.pcInHandler n switches ∧ s.sameSpecial (t.withPc s.pc) := by
  obtain ⟨recorded, pc, intr⟩ := s.recorded_fault n sub ip deferred switches
  obtain ⟨t, ok, entered, tpc, tintr⟩ := recorded.enters (show 12 < 1024 by decide) hm hw rfl
    (by rw [s.faultWords_length]) target rip 1
    (State.pushSpills_faultStored.trans hp)
  rw [State.linkFlags_faultStored] at entered
  have stored := writeImplicit_ok (s.supervisor || switches) (s.faultStack switches) (s.faultWords n sub ip deferred) s hw
    hprot
  refine ⟨t, ?run, entered, tpc.trans pc, ?special⟩
  case run =>
    rw [faultCall, M.bind_ok ht, ← ok]
    exact (M.bind_ok (M.get_run s)).trans (M.bind_ok stored)
  case special =>
    obtain ⟨hpc, htc, htables, hmasked, hconfig, hbp, -, rest⟩ := entered.special
    exact ⟨hpc, htc, htables, hmasked, hconfig, hbp, tintr.trans intr, rest⟩

/-- The upper four words of the record (60_exceptions R655). -/
theorem State.HandlerEntered.faultRecord {t : State} {target base flags : Word}
    (h : s.HandlerEntered t target base (s.faultWords n sub ip deferred) flags rip) :
    t.holdsWord (base + 32) (.val (if deferred then pcSetTfp s.pc true else s.pc)) ∧
      t.holdsWord (base + 36) (.val s.ac) ∧
      t.holdsWord (base + 40) (.val (n.zeroExtend 32 * 0x10000 + sub.zeroExtend 32)) ∧ t.holdsWord (base + 44) ip := by
  rw [← faultTypeWord_eq]
  exact ⟨h.holds 8 _ rfl, h.holds 9 _ rfl, h.holds 10 _ rfl, h.holds 11 _ rfl⟩

end

end Sys2Proof.Machine
end

section
/-! Faults of instructions, and the faults of tracing (60_exceptions R640, R650 to R655, R703, R704). -/

namespace Sys2Proof.Machine

/-! The end of an instruction that raises a fault. -/

/-- The trace events of an instruction that raises a fault and completes (60_exceptions R704). -/
def State.faultEvents (s : State) (k : FaultKind) : BitVec 8 :=
  if k.resumesNext then s.traceEvents s.traceOn 0 false else 0

/-- `s` at the fault call of `k`: the events are flags of TC, and the instruction is over (60_exceptions R640, R704). -/
def State.faulting (s : State) (k : FaultKind) : State := (s.signal (s.faultEvents k)).retire false

theorem raised_eq {k : FaultKind} (hk : k ≠ .prereturn) (s : State) (len : Word) : s.raised len k =
    toOutcome (faultCall k.typeNumber k.subtype (savedRip k s.free s.ip len) (.val s.ip) (s.faultEvents k ≠ 0))
      (s.faulting k) := by
  have call : faulted s.ip len k s = faultCall k.typeNumber k.subtype (savedRip k s.free s.ip len) (.val s.ip)
      (s.faultEvents k ≠ 0) (s.faulting k) := by
    rw [faulted, M.bind_ok (M.get_run s)]
    simp only [if_neg hk]
    rfl
  rw [State.raised, toOutcome, toOutcome, call]

/-- Only the prereturn fault is a TRACE fault that an instruction raises on itself (60_exceptions R641). -/
theorem typeNumber_ne_trace {k : FaultKind} (hk : k ≠ .prereturn) : k.typeNumber ≠ 1 := by
  cases k <;> first | decide | exact absurd rfl hk

/-- The faults that let their instruction complete (60_exceptions R655). -/
theorem resumesNext_iff (k : FaultKind) : k.resumesNext = true ↔ k ∈ [.overflow, .zeroDivide, .unaligned, .range] := by
  cases k <;> decide

theorem savedRip_resumes {k : FaultKind} (hk : k ≠ .prereturn) (h : k ∈ [.overflow, .zeroDivide, .unaligned, .range])
    (draw : Nat) (ip len : Word) : savedRip k draw ip len = .val (ip + len) := by
  rw [savedRip, if_neg hk, if_pos ((resumesNext_iff k).mpr h)]

theorem State.signal_none (s : State) : s.signal 0 = s := by
  rw [State.signal, tcSetEvents_eq s.tc rfl]
  exact congrArg s.withTc BitVec.or_zero

theorem State.faultEvents_untraced {s : State} (hu : s.untraced) (k : FaultKind) : s.faultEvents k = 0 := by
  rw [State.faultEvents, s.traceOn_untraced hu, State.traceEvents_false, ite_self]

theorem State.faulting_untraced {s : State} (hu : s.untraced) (k : FaultKind) : s.faulting k = s.retire false := by
  rw [State.faulting, State.faultEvents_untraced hu, State.signal_none]

/-- The end of the faulting instruction is no part of what the handler's call changes. -/
theorem State.HandlerEntered.ofRetire {s t : State} {target base flags : Word} {vs : List Slot} {rip : Slot}
    (h : (s.retire false).HandlerEntered t target base vs flags rip) : s.HandlerEntered t target base vs flags rip :=
  ⟨h.ip, h.enters, h.suspended, h.holds, h.ac, h.special, h.others⟩

/-! PC in the handler. -/

section
variable {s : State} {n : BitVec 8} (hn : n ≠ 1) (hte : pcTe s.pc = false) (switches : Bool)
include hn hte

/-- A handler that is no TRACE handler runs with the PC of a call to its procedure (60_exceptions R652). -/
theorem State.pcInHandler_eq :
    s.pcInHandler n switches = if switches then s.pc ||| 2 ||| (s.tables.ssp &&& 1) else s.pc := by
  rw [State.pcInHandler, decide_eq_false hn, Bool.or_false]
  cases switches with
  | false => rfl
  | true =>
    refine (pcSetTe_supervisor _ _).trans ?_
    rw [supervisorPc, clearTe_of_clear hte, ← and_one_eq]
    rfl

theorem State.pcTe_pcInHandler : pcTe (s.pcInHandler n switches) = (switches && s.tables.ssp.getLsbD 0) := by
  rw [State.pcInHandler, decide_eq_false hn, Bool.or_false]
  cases switches with
  | false => exact hte
  | true => exact (congrArg pcTe (pcSetTe_supervisor _ _)).trans (pcTe_supervisorPc _ _)

end

/-- What the call of a fault handler leaves of an instruction's fault (60_exceptions R650 to R655). -/
theorem raised_enters {k : FaultKind} {len : Word} {s : State} {target base : Word} {switches : Bool} (hu : s.untraced)
    (hk : k ≠ .prereturn) (ht : faultTarget k.typeNumber (s.retire false) = .ok (target, switches) (s.retire false))
    (hm : s.mem.wf = true) (hb : base = s.faultStack switches) (hw : s.wordsWritable base 12)
    (hprot : s.protectedIn (s.supervisor || switches) base 48 = false) (hp : s.pushSpills = false) :
    ∃ t, s.raised len k = .next t ∧ t.ip = target &&& 0xFFFFFFFC ∧
      s.entersFrame t (base + 48) (if switches && s.tables.ssp.getLsbD 0 && s.tc.getLsbD 3 then 9 else 1) ∧
      (∃ f, t.frames.cache = s.frames.cache ++ [f] ∧ f.link = s.reg 31 &&& 0xFFFFFFF0 ∧
        (∀ n < 16, n ≠ 2 → (f.regs.toList)[n]? = (s.locals.toList)[n]?) ∧
        (k ∈ [.overflow, .zeroDivide, .unaligned, .range] → (f.regs.toList)[2]? = some (.val (s.ip + len)))) ∧
      t.pc = (if switches then s.pc ||| 2 ||| (s.tables.ssp &&& 1) else s.pc) ∧
      t.holdsWord (base + 32) (.val s.pc) ∧ t.holdsWord (base + 36) (.val s.ac) ∧
      t.holdsWord (base + 40) (.val (k.typeNumber.zeroExtend 32 * 0x10000 + k.subtype.zeroExtend 32)) ∧
      t.holdsWord (base + 44) (.val s.ip) ∧ t.ac = s.ac ∧ s.sameSpecial (t.withPc s.pc) ∧ s.sameBytesBut t base 112 := by
  subst hb
  have hn := typeNumber_ne_trace hk
  obtain ⟨t, ok, entered, pc, special⟩ := faultCall_enters (s := s.retire false) (sub := k.subtype) (ip := .val s.ip)
    (rip := savedRip k s.free s.ip len) (deferred := false) ht hm hw hprot hp
  obtain ⟨recordPc, recordAc, typeWord, address⟩ := entered.faultRecord
  rw [State.pcTe_pcInHandler (s := s.retire false) hn hu.1] at entered
  rw [State.pcInHandler_eq (s := s.retire false) hn hu.1] at pc
  obtain ⟨f, cache, set⟩ := entered.ofRetire.suspended
  obtain ⟨others, saved⟩ := set.regs
  refine ⟨t, ?_, entered.ip, entered.ofRetire.enters, ⟨f, cache, set.2.1, others, fun h => ?_⟩, pc, recordPc, recordAc,
    typeWord, address, entered.ac, special, entered.others⟩
  · rw [raised_eq hk, State.faultEvents_untraced hu, State.faulting_untraced hu, toOutcome, decide_eq_false (not_not.mpr rfl),
      ok]
  · rw [saved, savedRip_resumes hk h]

/-- Settles O37: a local entry selects the handler and no change of mode. -/
theorem localFaultCall : Obligations.LocalFaultCall := by
  unfold Obligations.LocalFaultCall
  intro k len s hu hk hp hm hset hlocal hw hprot
  have target := faultTarget_local (s := s.retire false) hset hlocal (typeNumber_ne_trace hk)
  obtain ⟨t, next, ip, enters, suspended, pc, recordPc, recordAc, typeWord, address, ac, special, bytes⟩ :=
    raised_enters (len := len) hu hk target hm rfl hw ((Bool.or_false s.supervisor).symm ▸ hprot) hp
  exact ⟨t, next, ip, enters, suspended, recordPc, recordAc, typeWord, address, ac, ⟨pc, special.2⟩, bytes⟩

/-- Settles O38: the second word of the entry is checked, and the procedure decides about the change of mode. -/
theorem supervisorFaultCall : Obligations.SupervisorFaultCall := by
  unfold Obligations.SupervisorFaultCall
  rintro k len s hu hk hp hm hset hsystem hset' _ rfl
  refine ⟨fun hword => ?refused, fun hword hnum entry he hentry hres switches hs base hb hw hprot => ?enters⟩
  case refused =>
    have stop := faultTarget_secondWord (s := s.retire false) hset hsystem hset' hword
    rw [raised_eq hk, State.faulting_untraced hu, toOutcome, faultCall, M.bind_error stop]
    rfl
  case enters =>
    have target := faultTarget_system (s := s.retire false) hset hsystem hset' hword hnum he hentry
      (typeNumber_ne_trace hk) hres
    subst hs
    exact raised_enters hu hk target hm hb hw hprot hp

end Sys2Proof.Machine
end

section
/-! PC.te in the TRACE handler, and pending trace faults (60_exceptions R652, R655, R703, R704). -/

namespace Sys2Proof.Machine

/-! PC words. -/

theorem pcSetTe_false (pc : Word) : pcSetTe pc false = pc &&& ~~~1 := (pcSetTe_eq pc false).trans BitVec.or_zero

theorem pcSetTfp_false (pc : Word) : pcSetTfp pc false = pc &&& ~~~0x400 := BitVec.zero_or

theorem pcSetTfp_true (pc : Word) : pcSetTfp pc true = pc ||| 0x400 := by
  refine BitVec.eq_of_getLsbD_eq fun i hi => ?_
  rw [pcSetTfp, getLsbD_merge _ _ _ hi, if_pos rfl, BitVec.getLsbD_or]
  cases (0x400 : Word).getLsbD i <;> simp

/-- Supervisor mode is bit 1 of PC (10_state R42). -/
theorem or_two_of_supervisor {pc : Word} (h : pcSupervisor pc = true) : pc ||| 2 = pc := by
  refine BitVec.eq_of_getLsbD_eq fun i hi => ?_
  have bit : (2 : Word).getLsbD i = decide (1 = i) := (BitVec.getLsbD_twoPow 1 i).trans (by simp)
  rw [BitVec.getLsbD_or, bit]
  by_cases e : 1 = i
  · subst e
    rw [show pc.getLsbD 1 = true from h]
    rfl
  · simp [e]

/-- The TRACE handler runs in supervisor mode with PC.te clear (60_exceptions R652). -/
theorem State.pcInHandler_trace (s : State) : s.pcInHandler 1 (!s.supervisor) = (s.pc ||| 2) &&& ~~~1 := by
  have switched : ∀ te : Bool, supervisorPc s.pc te &&& ~~~1 = (s.pc ||| 2) &&& ~~~1 := fun te => by
    have clear : (if te then (1 : Word) else 0) &&& ~~~1 = 0 := by cases te <;> rfl
    rw [supervisorPc, BitVec.and_or_distrib_right, BitVec.and_or_distrib_right, clear, BitVec.and_assoc, BitVec.and_self,
      ← BitVec.and_or_distrib_right]
    exact BitVec.or_zero
  have handler : s.pcInHandler 1 (!s.supervisor) = s.handlerPc (!s.supervisor) true := if_pos (Bool.or_true _)
  rw [handler, State.handlerPc, if_pos rfl, pcSetTe_false, pcSetTe_supervisor]
  cases hs : s.supervisor with
  | true =>
    rw [or_two_of_supervisor hs]
    rfl
  | false => exact switched _

theorem State.faultStack_trace (s : State) :
    s.faultStack (!s.supervisor) = frameAt (if s.supervisor then s.reg 1 else s.tables.ssp &&& 0xFFFFFFFC) := by
  cases hs : s.supervisor <;> rfl

/-! The TRACE fault. -/

theorem toOutcome_refused {x : M Unit} {s t : State} {r : Refusal} (h : x s = .error (.refuse r) t) :
    toOutcome x s = .refused r := by rw [toOutcome, h]

section
variable (e : BitVec 8) (rip ip : Word) {s : State} (hset : s.settled (s.tables.fault + 8) 4)
include hset

theorem trace_localEntry (h : (s.wordAt (s.tables.fault + 8)).extractLsb' 0 2 = 0#2) :
    toOutcome (faultCall 1 e (.val rip) (.val ip) false) s = .refused .traceEntry :=
  toOutcome_refused (M.bind_error (faultTarget_traceLocal (n := 1) hset h rfl))

variable (hsystem : (s.wordAt (s.tables.fault + 8)).extractLsb' 0 2 = 2#2) (hset' : s.settled (s.tables.fault + 12) 4)
  (hword : s.wordAt (s.tables.fault + 12) = 0x27F) (hnum : (s.wordAt (s.tables.fault + 8)).toNat / 4 ≤ 259)
  {entry : Word} (he : entry = s.tables.spt + 48 + 4 * (s.wordAt (s.tables.fault + 8) >>> 2)) (hentry : s.settled entry 4)
include hsystem hset' hword hnum he hentry

theorem traceTarget : faultTarget 1 s =
    (if (s.wordAt entry).extractLsb' 0 2 = 2#2 then pure (s.wordAt entry, !s.supervisor)
      else if (s.wordAt entry).extractLsb' 0 2 = 0#2 then refuse .traceEntry
      else refuse .reservedSptEntry : M (Word × Bool)) s := by
  have second : s.faultEntry 1 + 4 = s.tables.fault + 12 := BitVec.add_assoc _ _ _
  exact faultTarget_procedure (n := 1) hset hsystem (second ▸ hset') (second ▸ hword) hnum he hentry

theorem trace_localProcedure (h : (s.wordAt entry).extractLsb' 0 2 = 0#2) :
    toOutcome (faultCall 1 e (.val rip) (.val ip) false) s = .refused .traceEntry := by
  have target := traceTarget hset hsystem hset' hword hnum he hentry
  rw [h, if_neg (by decide), if_pos rfl] at target
  exact toOutcome_refused (M.bind_error target)

theorem trace_enters (h : (s.wordAt entry).extractLsb' 0 2 = 2#2) (hp : s.pushSpills = false) (hm : s.mem.wf = true)
    {base : Word} (hb : base = frameAt (if s.supervisor then s.reg 1 else s.tables.ssp &&& 0xFFFFFFFC))
    (hw : s.wordsWritable base 12) (hprot : s.protectedIn true base 48 = false) :
    ∃ t, toOutcome (faultCall 1 e (.val rip) (.val ip) false) s = .next t ∧ t.ip = s.wordAt entry &&& 0xFFFFFFFC ∧
      s.entersFrame t (base + 48) 1 ∧ s.suspendsOnto t s.frames.cache (.val rip) ∧ t.pc = (s.pc ||| 2) &&& ~~~1 ∧
      t.holdsWord (base + 32) (.val s.pc) ∧ t.holdsWord (base + 36) (.val s.ac) ∧
      t.holdsWord (base + 40) (.val (0x10000 + e.zeroExtend 32)) ∧ t.holdsWord (base + 44) (.val ip) ∧
      t.ac = s.ac ∧ s.sameSpecial (t.withPc s.pc) ∧ s.sameBytesBut t base 112 := by
  have target := traceTarget hset hsystem hset' hword hnum he hentry
  rw [h, if_pos rfl] at target
  obtain rfl : base = s.faultStack (!s.supervisor) := hb.trans s.faultStack_trace.symm
  have mode : (s.supervisor || !s.supervisor) = true := Bool.or_not_self _
  obtain ⟨t, ok, entered, pc, special⟩ := faultCall_enters (sub := e) (ip := .val ip) (rip := .val rip) (deferred := false)
    target hm hw (mode ▸ hprot) hp
  obtain ⟨recordPc, recordAc, typeWord, address⟩ := entered.faultRecord
  have te : pcTe (s.pcInHandler 1 (!s.supervisor)) = false := by
    rw [s.pcInHandler_trace]
    simp [pcTe]
  have enters := entered.enters
  rw [te] at enters
  exact ⟨t, by rw [toOutcome, ok], entered.ip, enters, entered.suspendsOnto, pc.trans s.pcInHandler_trace, recordPc, recordAc,
    typeWord, address, entered.ac, special, entered.others⟩

end

/-! A fault while tracing is on. -/

/-- A fault through a local entry, traced or not (60_exceptions R650, R651, R704). -/
theorem raised_localEntry {s : State} {k : FaultKind} {len : Word} (hk : k ≠ .prereturn) (hp : s.pushSpills = false) (hm : s.mem.wf = true)
    (hset : s.settled (s.faultEntry k.typeNumber) 4)
    (hlocal : (s.wordAt (s.faultEntry k.typeNumber)).extractLsb' 0 2 = 0#2)
    (hw : s.wordsWritable (frameAt (s.reg 1)) 12) (hprot : s.protectedIn s.supervisor (frameAt (s.reg 1)) 48 = false) :
    ∃ t, s.raised len k = .next t ∧ t.ip = s.wordAt (s.faultEntry k.typeNumber) &&& 0xFFFFFFFC ∧ t.pc = s.pc ∧
      t.holdsWord (frameAt (s.reg 1) + 32) (.val (if s.faultEvents k ≠ 0 then s.pc ||| 0x400 else s.pc)) ∧
      t.tc = (s.signal (s.faultEvents k)).tc := by
  have hn := typeNumber_ne_trace hk
  have target := faultTarget_local (s := s.faulting k) hset hlocal hn
  obtain ⟨t, ok, entered, pc, special⟩ := faultCall_enters (sub := k.subtype) (ip := .val s.ip)
    (rip := savedRip k s.free s.ip len) (deferred := s.faultEvents k ≠ 0) target hm hw
    ((Bool.or_false s.supervisor).symm ▸ hprot) hp
  have recordPc := entered.faultRecord.1
  rw [pcSetTfp_true] at recordPc
  have handler : (s.faulting k).pcInHandler k.typeNumber false = s.pc := by
    rw [State.pcInHandler, decide_eq_false hn]
    rfl
  refine ⟨t, ?_, entered.ip, pc.trans handler, ?_, special.2.1⟩
  · rw [raised_eq hk, toOutcome, ok]
  · simp only [decide_eq_true_eq] at recordPc
    exact recordPc

section
variable {s : State} (hs : s.traced)
include hs

/-- The instruction event is signalled by a fault that lets the instruction complete (60_exceptions R704). -/
theorem State.faultEvents_traced (k : FaultKind) : s.faultEvents k =
    if k ∈ [.overflow, .zeroDivide, .unaligned, .range] ∧ s.tc.getLsbD 1 = true then 2 else 0 := by
  have on : s.traceOn = true := by rw [State.traceOn, if_pos hs.2.1]; exact hs.1
  have mode : (2 : BitVec 8) &&& s.tc.setWidth 8 = if s.tc.getLsbD 1 then 2 else 0 := by
    rw [BitVec.and_comm]
    exact (BitVec.and_twoPow (s.tc.setWidth 8) 1).trans (if_congr (by simp) rfl rfl)
  simp only [State.faultEvents, on, State.traceEvents_traced hs s.sameTracing_refl, ← resumesNext_iff]
  cases k.resumesNext with
  | false => rfl
  | true => simpa using mode

end

/-! A pending TRACE fault that a return restores. -/

/-- The call operation and the fault call are no change of the interrupt registers. -/
theorem doCall_intr (rip : Slot) (target : Word) (rt : BitVec 3) (base : Word) (s : State) :
    M.Leads (fun t => t.intr = s.intr) (doCall rip target rt base) s := by
  obtain ⟨u, pushed, e⟩ | ⟨x, e, -⟩ := doCall_cases rip target rt base s
  · refine M.leads_of_ok e ((u.sameSpecial_enterFrame _ _ _).2.2.2.2.2.2.1.trans ?_)
    cases pushed with
    | kept => rfl
    | itself => exact (s.pokeWords_frame _ _).intr
    | spilled => exact (s.pokeWords_frame _ _).intr
  · exact M.leads_of_error e rfl

theorem faultCall_intr (n sub : BitVec 8) (rip ip : Slot) (d : Bool) (s : State) :
    M.Leads (fun t => t.intr = s.intr) (faultCall n sub rip ip d) s := by
  obtain ⟨target, switches, -, e⟩ | ⟨x, e, -⟩ := faultCall_cases n sub rip ip d s
  · have call := doCall_intr rip target 1 (s.faultStack switches + Config.faultRecordBytes)
      (s.faultStored n sub ip d switches)
    rw [(s.recorded_fault n sub ip d switches).2.2] at call
    exact ⟨fun b u k => call.1 b u (e ▸ k), fun b u k => call.2 b u (e ▸ k)⟩
  · exact M.leads_of_error e rfl

/-- `t` at the end of a return that has restored a pending TRACE fault: the fault is no longer pending (60_exceptions
R703). -/
def State.pendingTaken (t : State) : State := (t.retire true).withPc (pcSetTfp t.pc false)

/-- The pending TRACE fault is taken at the end of the return (60_exceptions R703). -/
theorem complete_pending (ip : Word) (poll : Bool) (t : State) (hq : poll = true → t.quiet) :
    ∃ (e : BitVec 8) (address : Slot), toOutcome (complete ip 4 false (handlerDone true poll)) t =
      toOutcome (faultCall 1 e (.val t.ip) address false) t.pendingTaken := by
  refine ⟨(Config.freeWord t.free Site.pendingSubtype).setWidth 8, .free t.free Site.pendingIp, ?_⟩
  have ended : complete ip 4 false (handlerDone true poll) t =
      (faultCall 1 ((Config.freeWord t.free Site.pendingSubtype).setWidth 8) (.val t.ip) (.free t.free Site.pendingIp) false >>=
        fun _ => if poll then checkPending else pure ()) t.pendingTaken := by
    rw [complete, M.bind_ok (M.modify_run _ t)]
    rfl
  obtain ⟨intr, -⟩ := faultCall_intr 1 ((Config.freeWord t.free Site.pendingSubtype).setWidth 8) (.val t.ip)
    (.free t.free Site.pendingIp) false t.pendingTaken
  rw [toOutcome, toOutcome, ended, M.bind_run]
  generalize faultCall 1 _ _ _ false t.pendingTaken = outcome at intr ⊢
  cases outcome with
  | error x v => rfl
  | ok a v =>
    cases poll with
    | false => rfl
    | true =>
      have quiet : v.quiet := by
        rw [State.quiet, intr a v rfl]
        exact hq rfl
      have done : checkPending v = .ok () v := checkPending_quiet v quiet
      simp only [if_true, done]

/-- A handler's `ret` to a PC with te and tfp set ends in the pending TRACE fault (60_exceptions R703). -/
theorem ret_pending {s : State} (hu : s.untraced) (hp : s.pfpSound) (hr : s.canReturn) (hem : s.supervisor = true)
    (hset : s.wordsSettled (s.fpAddress - 16) 2) (hpc : s.recordPc &&& ~~~pcMask = 0) (hte : pcTe s.recordPc = true)
    (htfp : pcTfp s.recordPc = true)
    (hrt : (s.reg 0).extractLsb' 0 3 = 1#3 ∨ (s.reg 0).extractLsb' 0 3 = 7#3 ∧ s.quiet) :
    ∃ (t : State) (e : BitVec 8) (ip : Slot), exec .ret s = toOutcome (faultCall 1 e (.val t.ip) ip false) t ∧
      s.returnsTo t ∧ t.ac = s.recordAc &&& acMask ∧ t.pc = s.recordPc &&& ~~~0x400 ∧ s.sameBytes t := by
  have pending : s.restoresPending = true := by rw [State.restoresPending, hem, hte, htfp]; rfl
  have returned := handlerReturn_ok s hr hset fun _ => hpc
  rw [pending] at returned
  have restored : s.handlerReturned.pc = s.recordPc := by rw [s.handlerReturned_pc, if_pos hem]
  have window := s.handlerReturned_teWindow hu.2
  have cleared : pcSetTfp s.handlerReturned.pc false = s.recordPc &&& ~~~0x400 := by rw [restored, pcSetTfp_false]
  rw [exec_ret_eq s hu hp]
  obtain hrt | ⟨hrt, quiet⟩ := hrt <;> rw [hrt, run]
  · obtain ⟨e, ip, ended⟩ := complete_pending s.ip false s.handlerReturned nofun
    refine ⟨s.handlerReturned.pendingTaken, e, ip, ?_, s.returnsTo_handlerReturned, s.handlerReturned_ac, cleared,
      s.sameBytes_handlerReturned⟩
    simp only [returnBy_fault returned, s.tracedUntil_untraced _ hu window]
    exact ended
  · have still : s.handlerReturned.quiet := by simpa only [State.quiet, s.handlerReturned_intr] using quiet
    obtain ⟨e, ip, ended⟩ := complete_pending s.ip true (s.handlerReturned.nmiEnded s.fpAddress) fun _ => still.nmiEnded _
    refine ⟨(s.handlerReturned.nmiEnded s.fpAddress).pendingTaken, e, ip, ?_, s.returnsTo_handlerReturned,
      s.handlerReturned_ac, cleared, s.sameBytes_handlerReturned⟩
    simp only [returnBy_interrupt returned,
      s.tracedUntil_untraced (s.handlerReturned.nmiEnded s.fpAddress) hu window]
    exact ended

/-- Settles O40: the call of the TRACE handler, the tfp that a fault leaves in the saved PC, and the return that takes it. -/
theorem traceFaultCalls : Obligations.TraceFaultCalls := by
  unfold Obligations.TraceFaultCalls
  refine ⟨fun e rip ip s hset => ⟨trace_localEntry e rip ip hset, fun hsystem hset' hword hnum entry he hentry =>
    ⟨trace_localProcedure e rip ip hset hsystem hset' hword hnum he hentry, fun h hp hm base hb hw hprot =>
      trace_enters e rip ip hset hsystem hset' hword hnum he hentry h hp hm hb hw hprot⟩⟩, ?raised, ?pending⟩
  case raised =>
    intro k len s hs hk hp hm hset hlocal hw hprot
    obtain ⟨t, next, ip, pc, recordPc, tc⟩ := raised_localEntry (len := len) hk hp hm hset hlocal hw hprot
    have events := State.faultEvents_traced hs k
    refine ⟨t, next, ip, pc, ?_⟩
    by_cases deferred : k ∈ [.overflow, .zeroDivide, .unaligned, .range] ∧ s.tc.getLsbD 1 = true
    · rw [if_pos deferred] at events
      rw [events, if_pos (by decide)] at recordPc
      rw [if_pos deferred, if_pos deferred, tc, events]
      exact ⟨recordPc, rfl⟩
    · rw [if_neg deferred] at events
      rw [events, if_neg (not_not.mpr rfl)] at recordPc
      rw [if_neg deferred, if_neg deferred, tc, events, s.signal_none]
      exact ⟨recordPc, rfl⟩
  case pending =>
    rintro s fp rfl hu hp hr hem hset _ rfl hpc hte htfp hrt
    exact ret_pending hu hp hr hem hset hpc hte htfp hrt

end Sys2Proof.Machine
end

section
/-! Taking an interrupt (60_exceptions R681, R684, R686, R688 to R690, R692, R693). -/

namespace Sys2Proof.Machine

/-! The interrupt call. -/

/-- PC of an interrupt handler (60_exceptions R689). -/
theorem pcForInterrupt_eq {pc : Word} (h : pc &&& ~~~pcMask = 0) (v : Byte) :
    pcForInterrupt pc (vectorPriority v) = 0x2002 + 0x10000 * BitVec.ofNat 32 (v.toNat / 8) := by
  have handler : ∀ p : BitVec 5,
      (0x2002 ||| (p.zeroExtend 32 <<< 16)) &&& pcMask = 0x2002 + 0x10000 * BitVec.ofNat 32 p.toNat := by decide
  rw [pcForInterrupt, merge, h, handler, vectorPriority_toNat]
  exact BitVec.or_zero

/-- An interrupt handler is not traced (60_exceptions R689). -/
theorem pcTe_pcForInterrupt (pc : Word) (p : BitVec 5) : pcTe (pcForInterrupt pc p) = false := by
  rw [pcTe, pcForInterrupt, getLsbD_merge _ _ _ (by decide), if_pos (by decide)]
  simp

/-- The words of the record of an interrupt (60_exceptions R690). -/
def State.interruptWords (s : State) (v : Byte) : List Slot :=
  [.val s.pc, .val s.ac, .val (v.zeroExtend 32), .free s.free (Site.record 0)]

theorem State.interruptWords_length (s : State) (v : Byte) : (s.interruptWords v).length = 4 := rfl

theorem State.recorded_interrupt (s : State) (v : Byte) :
    s.Recorded (s.interruptStored v) s.interruptStack (s.interruptWords v) ∧
      (s.interruptStored v).pc = pcForInterrupt s.pc (vectorPriority v) ∧
      (s.interruptStored v).intr = { s.intr with halted := false } := by
  have stored : ∃ delay, s.interruptStored v = (((s.pokeWords s.interruptStack (s.interruptWords v)).withPc
      (pcForInterrupt s.pc (vectorPriority v))).withTrace delay).withIntr { s.intr with halted := false } := by
    rw [State.interruptStored, ← State.interruptWords]
    have frame := s.pokeWords_frame s.interruptStack (s.interruptWords v)
    generalize s.pokeWords _ _ = u at frame ⊢
    exact ⟨{ u.trace with teWindow := 0 }, by rw [← frame.pc, ← frame.intr]; rfl⟩
  obtain ⟨delay, stored⟩ := stored
  rw [stored]
  exact s.recorded_pokeWords _ _ _ delay _

/-- A cache with more room than the reserved frames need spills at no priority (45_call_return R505). -/
theorem State.pushSpills_of_room {s : State} (h : s.frames.cache.length + 1 < 8 - s.frames.reserved.toNat) :
    s.pushSpills = false := by
  have full : (s.frames.cache.length + 1 == 8) = false := beq_eq_false_iff_ne.mpr (by omega)
  have reserved : (s.frames.cache.length + 1 == 8 - s.frames.reserved.toNat) = false := beq_eq_false_iff_ne.mpr (by omega)
  simp only [State.pushSpills, full, reserved, Bool.false_and, Bool.or_self]

/-- The record of an interrupt can be stored at `base`, and the cache has room for the interrupted frame at every priority
(45_call_return R505; 60_exceptions R688). -/
structure State.RoomAt (s : State) (base : Word) : Prop where
  legal : s.pcLegal = true
  wf : s.mem.wf = true
  room : s.frames.cache.length + 1 < 8 - s.frames.reserved.toNat
  stack : base = frameAt (if s.pc.getLsbD 13 then s.reg 1 else s.tables.isp)
  words : s.wordsWritable base 4
  unprotected : s.protectedIn true base 16 = false

theorem State.RoomAt.withIntr {s : State} {base : Word} (h : s.RoomAt base) (i : Interrupts) :
    (s.withIntr i).RoomAt base := ⟨h.legal, h.wf, h.room, h.stack, h.words, h.unprotected⟩

/-- The interrupt call where the record can be stored and the cache has room (60_exceptions R688 to R690). -/
theorem interruptCall_enters {s : State} {base : Word} (h : s.RoomAt base) (v : Byte) (target : Word) :
    ∃ t, interruptCall v target s = .ok (base + 16) t ∧ s.takesInterrupt t v target base ∧ s.sameBytesBut t base 80 ∧
      t.intr = { s.intr with halted := false } := by
  obtain ⟨hpc, hm, hroom, hb, hw, hprot⟩ := h
  obtain rfl : base = s.interruptStack := hb
  obtain ⟨recorded, pc, intr⟩ := s.recorded_interrupt v
  have room : (s.interruptStored v).pushSpills = false :=
    State.pushSpills_of_room (by rw [recorded.frames]; exact hroom)
  obtain ⟨t, ok, entered, tpc, tintr⟩ := recorded.enters (show 4 < 1024 by decide) hm hw rfl
    (by rw [s.interruptWords_length]) target (.val s.ip) 7 room
  have legal : s.pc &&& ~~~pcMask = 0 := by simpa [State.pcLegal] using hpc
  have flags : (s.interruptStored v).linkFlags 7 = 7 := by
    rw [State.linkFlags, State.callTraced, pc, pcTe_pcForInterrupt, Bool.false_and, if_neg Bool.false_ne_true]
    rfl
  rw [pcForInterrupt_eq legal] at pc
  rw [flags] at entered
  have stored := writeImplicit_ok true s.interruptStack (s.interruptWords v) s hw hprot
  refine ⟨t, ?run, ⟨entered.ip, entered.enters, entered.suspendsOnto, tpc.trans pc, ?base, entered.holds 1 _ rfl,
    entered.holds 2 _ rfl, entered.ac, entered.special⟩, entered.others, tintr.trans intr⟩
  case run =>
    rw [interruptCall, M.bind_ok (M.get_run s)]
    refine (M.bind_ok stored).trans ((M.bind_ok (M.modify_run _ _)).trans ?_)
    show (doCall (.val s.ip) target 7 (s.interruptStack + 16) >>= fun _ => pure (s.interruptStack + 16))
      (s.interruptStored v) = _
    exact M.bind_ok ok
  case base => simpa using entered.holds 0 _ rfl

/-! The NMI. -/

/-- What an interrupt leaves does not depend on the requests. -/
theorem State.takesInterrupt.ofWithIntr {s t : State} {i : Interrupts} {v : Byte} {handler base : Word}
    (h : (s.withIntr i).takesInterrupt t v handler base) (j : Interrupts) :
    s.takesInterrupt (t.withIntr j) v handler base := by
  obtain ⟨ip, enters, suspends, pc, w0, w1, w2, ac, hpc, htc, htables, hmasked, hconfig, hbp, -, rest⟩ := h
  exact ⟨ip, enters, suspends, pc, w0, w1, w2, ac, hpc, htc, htables, hmasked, hconfig, hbp, rfl, rest⟩

/-- Internal RAM is read as memory holds it. -/
theorem State.peek32_internalRam (s : State) {a : Word} (h : a.toNat + 4 ≤ 0x400) : s.peek32 false a = s.wordAt a :=
  State.peek32_ram (s.writable_internalRam h (by decide))

theorem deliverNmi_enters {s : State} {base : Word} (h : s.RoomAt base) : ∃ t, deliver .nmi s = .ok () t ∧
    s.takesInterrupt t 248 (s.wordAt 0) base ∧ s.sameBytesBut t base 80 ∧
    t.intr = { s.intr with nmiPending := false, nmiFrame := some (base + 16), halted := false } := by
  obtain ⟨t, ok, taken, bytes, intr⟩ :=
    interruptCall_enters (h.withIntr { s.intr with nmiPending := false }) 248 (s.wordAt 0)
  refine ⟨t.withIntr { t.intr with nmiFrame := some (base + 16) }, ?_, taken.ofWithIntr _, bytes, by rw [intr]; rfl⟩
  show deliverNmi s = _
  rw [deliverNmi, M.bind_ok (M.get_run s), M.bind_ok (M.set_run _ s), s.peek32_internalRam (a := 0) (by decide)]
  exact M.bind_ok ok

/-! Reads that no cache makes. -/

/-- Memory that is there and no device: an access past the caches reads it as it is (20_memory R122). -/
def State.present (s : State) (a : Word) (n : Nat) : Prop :=
  regionOf a ≠ .mmr ∧ regionOf (a + BitVec.ofNat 32 (n - 1)) = regionOf a ∧
    ∀ i < n, s.kindAt (a + BitVec.ofNat 32 i) ≠ .absent ∧ s.kindAt (a + BitVec.ofNat 32 i) ≠ .device

theorem State.present_of_writable {s : State} {a : Word} {n : Nat} (h : s.writable a n) : s.present a n :=
  ⟨h.1, h.2.1, fun i hi => by rw [h.2.2 i hi]; decide⟩

theorem State.present_of_settled {s : State} {a : Word} {n : Nat} (h : s.settled a n) : s.present a n :=
  ⟨h.1, h.2.1, fun i hi => ⟨(h.2.2 i hi).1, (h.2.2 i hi).2.1⟩⟩

theorem State.present_of_plat {s t : State} {a : Word} {n : Nat} (h : s.present a n) (hp : t.plat = s.plat) :
    t.present a n := ⟨h.1, h.2.1, fun i hi => by rw [State.kindAt_of_plat hp]; exact h.2.2 i hi⟩

theorem State.peek8_uncached {s : State} {a : Word} (h : s.kindAt a ≠ .device) : s.peek8 false a = s.byteAt a := by
  rw [State.peek8, if_neg h]
  rfl

theorem readImplicit_uncached {s : State} {a : Word} (h : s.present a 4) :
    readImplicit false a s = .ok (s.wordAt a) s := by
  have bytes : ∀ i < 4, s.peek8 false (a + BitVec.ofNat 32 i) = s.byteAt (a + BitVec.ofNat 32 i) := fun i hi =>
    State.peek8_uncached (h.2.2 i hi).2
  have first : s.peek8 false a = s.byteAt a := by simpa using bytes 0 (by decide)
  have word : s.peek32 false a = s.wordAt a := by
    rw [State.peek32, State.wordAt, first]
    exact congr (congr (congr rfl (bytes 1 (by decide))) (bytes 2 (by decide))) (bytes 3 (by decide))
  rw [readImplicit, M.bind_ok (checkImplicit_ok a 4 s h.1 h.2.1 fun i hi => (h.2.2 i hi).1), ← word]
  rfl

/-! A hardware request. -/

/-- The interrupt table entry of a vector (60_exceptions R686). -/
def State.vectorEntry (s : State) (v : Byte) : Word := s.tables.interrupt + 4 + 4 * v.zeroExtend 32

theorem vectorEntry_ok {s : State} {v : Byte} (h : s.present (s.vectorEntry v) 4) :
    vectorEntry v s = .ok (s.wordAt (s.vectorEntry v)) s := by
  have place : s.tables.interrupt + 36 + 4 * (v.zeroExtend 32 - 8) = s.vectorEntry v := by
    rw [State.vectorEntry]
    bv_omega
  rw [vectorEntry, M.bind_ok (M.get_run s), place]
  exact readImplicit_uncached h

/-- Whether the pin of a request is detected by level and low, in the words of ICON and of the pins (60_exceptions R681,
R692). -/
theorem Interrupts.levelLow_bit (i : Interrupts) (bit : Nat) : (i.levelLow.zeroExtend 32).getLsbD bit =
    (decide (bit < 8) && (i.icon.extractLsb' 0 2 == 0#2 || (i.icon.extractLsb' 0 2 == 2#2 && decide (5 ≤ bit))) &&
      !i.icon.getLsbD (2 + bit) && !i.pins.getLsbD bit) := by
  rw [BitVec.zeroExtend, BitVec.getLsbD_setWidth]
  by_cases low : bit < 8
  · rw [getLsbD_levelLow i low]
    simp [low, Nat.lt_trans low]
  · rw [BitVec.getLsbD_of_ge _ _ (Nat.not_lt.mp low), decide_eq_false low]
    simp

/-- The word of internal RAM that vector caching reads for a request (60_exceptions R693). -/
theorem cachedVector_eq (s : State) (v : Byte) : s.peek32 false (4 * (v.extractLsb' 4 4).zeroExtend 32) =
    s.wordAt (4 * BitVec.ofNat 32 (v.toNat / 16)) := by
  have nibble : (v.extractLsb' 4 4).zeroExtend 32 = BitVec.ofNat 32 (v.toNat / 16) := by
    refine BitVec.eq_of_toNat_eq ?_
    rw [BitVec.zeroExtend, BitVec.toNat_setWidth, BitVec.extractLsb'_toNat, Nat.shiftRight_eq_div_pow, BitVec.toNat_ofNat]
    omega
  rw [nibble]
  exact s.peek32_internalRam (by bv_omega)

/-- `s` with the IPND bit of a request that is delivered (60_exceptions R681). -/
def State.requestCleared (s : State) (r : Request) : State :=
  s.withIntr { s.intr with ipnd := if s.intr.clearsPending r then s.intr.ipnd &&& ~~~bitWord r.bit else s.intr.ipnd }

/-- Whether ICON has the mask operation for the mode of a request (60_exceptions R692). -/
def State.masks (s : State) (r : Request) : Bool := s.intr.icon.getLsbD (if r.dedicated then 11 else 12)

/-- The handler of a hardware request, by ICON (60_exceptions R686, R693). -/
def State.namesHandler (s : State) (r : Request) (handler : Word) : Prop :=
  r.dedicated = true ∧ s.intr.icon.getLsbD 13 = true ∧ handler = s.wordAt (4 * BitVec.ofNat 32 (r.vector.toNat / 16)) ∨
    ¬ (r.dedicated = true ∧ s.intr.icon.getLsbD 13 = true) ∧ s.settled (s.vectorEntry r.vector) 4 ∧
      handler = s.wordAt (s.vectorEntry r.vector)

theorem deliverHardware_eq {s : State} {r : Request} {handler : Word} (hh : s.namesHandler r handler) :
    deliverHardware r s = (interruptCall r.vector handler >>= fun _ =>
      if s.masks r then modify (fun t => (t.setReg 3 s.intr.imsk).withIntr { t.intr with imsk := 0 }) else pure ())
        (s.requestCleared r) := by
  rw [deliverHardware, M.bind_ok (M.get_run s), State.requestCleared, State.masks]
  obtain ⟨dedicated, caching, rfl⟩ | ⟨other, settled, rfl⟩ := hh
  · rw [← cachedVector_eq]
    simp only [caching, dedicated]
    cases s.intr.clearsPending r <;> rfl
  · have fetch : (s.intr.icon.getLsbD 13 && r.dedicated) = false := by
      rw [Bool.eq_false_iff, Ne, Bool.and_eq_true]
      exact fun h => other h.symm
    simp only [fetch]
    refine (M.bind_ok (vectorEntry_ok (State.present_of_settled settled))).trans ?_
    cases s.intr.clearsPending r <;> rfl

/-- A write of r3 is none of the registers of a call, nor of what an interrupt leaves. -/
theorem State.takesInterrupt.setMask {s t : State} {v : Byte} {handler base : Word} (h : s.takesInterrupt t v handler base)
    (w : Word) (j : Interrupts) : s.takesInterrupt ((t.setReg 3 w).withIntr j) v handler base := by
  obtain ⟨ip, ⟨fp, sp, pfp, globals, current, dirty, reserved, unset⟩, suspends, pc, w0, w1, w2, ac, special⟩ := h
  obtain ⟨⟨regs, -, -⟩, special', -, bytes⟩ := State.changesOnly_setSlot t 3 (.val w)
  have frames : (t.setReg 3 w).frames = t.frames := State.setSlot_frames t 3 (.val w)
  have slot : ∀ n : RegNum, n ≠ 3 → (t.setReg 3 w).slot n = t.slot n := fun n hn => regs n (by simpa using hn)
  have order : (t.setReg 3 w).bigEndian = t.bigEndian := by
    rw [State.bigEndian, State.setReg, State.setSlot_config]
    rfl
  have word : ∀ {a v}, t.holdsWord a v → (t.setReg 3 w).holdsWord a v :=
    fun k => State.holdsWord_congr order (fun i _ => bytes _) k
  refine ⟨(State.setSlot_ip t 3 (.val w)).trans ip, ⟨?_, ?_, ?_, fun n hn h31 => ?_, ?_, ?_, ?_, ?_⟩, ?_,
    (State.setSlot_pc t 3 (.val w)).trans pc, word w0, word w1, word w2, (State.setSlot_ac t 3 (.val w)).trans ac, ?_⟩
  · exact (slot 31 (by decide)).trans fp
  · exact (slot 1 (by decide)).trans sp
  · exact (slot 0 (by decide)).trans pfp
  · exact (slot n (by rintro rfl; simp at hn)).trans (globals n hn h31)
  · exact (congrArg Frames.current frames).trans current
  · exact (congrArg Frames.pfpDirty frames).trans dirty
  · exact (congrArg Frames.reserved frames).trans reserved
  · exact (congrArg Frames.unsetPfp frames).trans unset
  · simpa only [State.suspendsOnto, State.withIntr_frames, frames] using suspends
  · obtain ⟨-, htc, htables, hmasked, hconfig, hbp, -, rest⟩ := special'
    exact State.sameSpecial.trans special ⟨rfl, htc, htables, hmasked, hconfig, hbp, rfl, rest⟩

theorem deliverHardware_enters {s : State} {base : Word} (h : s.RoomAt base) {r : Request} {handler : Word}
    (hh : s.namesHandler r handler) : ∃ t, deliver (.hardware r) s = .ok () t ∧
      s.takesInterrupt t r.vector handler base ∧ s.sameBytesBut t base 80 ∧
      t.intr = { s.intr with
        ipnd := if s.intr.clearsPending r then s.intr.ipnd &&& ~~~bitWord r.bit else s.intr.ipnd
        imsk := if s.masks r then 0 else s.intr.imsk, halted := false } ∧
      (s.masks r = true → t.slot 3 = .val s.intr.imsk) := by
  obtain ⟨t, ok, taken, bytes, intr⟩ := interruptCall_enters (s := s.requestCleared r) (h.withIntr _) r.vector handler
  have run := (deliverHardware_eq hh).trans (M.bind_ok ok)
  have taken' := taken.ofWithIntr
  cases hm : s.masks r with
  | false =>
    rw [hm] at run
    exact ⟨t, run, taken' t.intr, bytes, intr, nofun⟩
  | true =>
    rw [hm] at run
    obtain ⟨-, -, -, same⟩ := State.changesOnly_setSlot t 3 (.val s.intr.imsk)
    refine ⟨_, run, ((taken' t.intr).setMask _ _), fun b hb => (same b).trans (bytes b hb), ?_, fun _ =>
      State.slot_setSlot_self t 3 _⟩
    rw [State.withIntr_intr, intr]
    rfl

/-- Settles O47: both deliveries are the interrupt call from the state whose request is taken off, with the mask operation
after it. -/
theorem interruptDelivery : Obligations.InterruptDelivery := by
  unfold Obligations.InterruptDelivery
  intro s hpc hm hroom base hb hw hprot
  have room : s.RoomAt base := ⟨hpc, hm, hroom, hb, hw, hprot⟩
  refine ⟨?nmi, fun r low masks handler hlow hmasks hh => ?hardware⟩
  case nmi =>
    obtain ⟨t, ok, rest⟩ := deliverNmi_enters room
    exact ⟨t, by rw [toOutcome, ok], rest⟩
  case hardware =>
    obtain ⟨t, ok, taken, bytes, intr, mask⟩ := deliverHardware_enters room hh
    rw [← s.intr.levelLow_bit] at hlow
    subst hlow hmasks
    refine ⟨t, by rw [toOutcome, ok], taken, bytes, intr, mask, fun dedicated low => ?_⟩
    have pending : (t.mmr .ipnd).getLsbD r.bit = (t.intr.ipnd.getLsbD r.bit || (t.intr.levelLow.zeroExtend 32).getLsbD r.bit) :=
      BitVec.getLsbD_or
    have pins : t.intr.levelLow = s.intr.levelLow := by rw [intr]; rfl
    rw [pending, pins, low, Bool.or_true]

end Sys2Proof.Machine
end

section
/-! Taking a posted software interrupt (60_exceptions R686 to R690). -/

namespace Sys2Proof.Machine

/-! The table. -/

section
variable {s : State} (hw : s.wordsWritable s.tables.interrupt 9)
include hw

theorem State.tableWord_writable : s.writable s.tables.interrupt 4 := by simpa using hw 0 (by decide)

/-- The byte of a priority in the interrupt table (60_exceptions R686). -/
theorem State.tableByte_writable {p : Nat} (hp : p < 32) :
    s.writable (s.tables.interrupt + BitVec.ofNat 32 (4 + p)) 1 := by
  have part := State.writable_part (hw (1 + p / 4) (by omega)) (by decide) (i := p % 4) (k := 1) (by decide) (by omega)
  rwa [word_add_ofNat, show 4 * (1 + p / 4) + p % 4 = 4 + p by omega] at part

end

theorem priorityByte_eq (a : Word) (p : Nat) : a + 4 + BitVec.ofNat 32 p = a + BitVec.ofNat 32 (4 + p) :=
  word_add_ofNat a 4 p

theorem tableOffset_eq (a : Word) (n : Nat) : a + 4 + 4 * BitVec.ofNat 32 n = a + BitVec.ofNat 32 (4 + 4 * n) := by
  rw [BitVec.ofNat_add, BitVec.ofNat_mul, BitVec.add_assoc]
  rfl

/-- What is left of the byte of a priority, and of the word of pending priorities, when bit `k` of the byte is taken off
(60_exceptions R687). -/
def byteLeft (b : Byte) (k : Nat) : Byte := b &&& ~~~BitVec.ofNat 8 (2 ^ k)
def pendingLeft (w : Word) (b : Byte) (p k : Nat) : Word :=
  if b = BitVec.ofNat 8 (2 ^ k) then w &&& ~~~BitVec.ofNat 32 (2 ^ p) else w

theorem byteLeft_eq_zero {b : Byte} {k : Nat} (h : b.getLsbD k = true) :
    byteLeft b k = 0 ↔ b = BitVec.ofNat 8 (2 ^ k) := by
  have bit : b &&& BitVec.twoPow 8 k = BitVec.twoPow 8 k := by rw [BitVec.and_twoPow, h]; rfl
  have power : BitVec.ofNat 8 (2 ^ k) = BitVec.twoPow 8 k := BitVec.eq_of_toNat_eq (by simp)
  rw [byteLeft, power]
  constructor
  · intro zero
    have all : BitVec.twoPow 8 k ||| ~~~BitVec.twoPow 8 k = BitVec.allOnes 8 := by
      refine BitVec.eq_of_getLsbD_eq fun i hi => ?_
      simp [hi]
    calc b = b &&& (BitVec.twoPow 8 k ||| ~~~BitVec.twoPow 8 k) := by rw [all, BitVec.and_allOnes]
      _ = BitVec.twoPow 8 k := by rw [BitVec.and_or_distrib_left, zero, bit]; exact BitVec.or_zero
  · rintro rfl
    refine BitVec.eq_of_getLsbD_eq fun i hi => ?_
    simp [hi]

/-- The table of `s` with the bit `k` of the byte of priority `p` taken off it (60_exceptions R687). -/
def State.tableTaken (s : State) (p k : Nat) : State :=
  (s.poke8 (s.tables.interrupt + 4 + BitVec.ofNat 32 p)
    (.val (byteLeft (s.byteAt (s.tables.interrupt + 4 + BitVec.ofNat 32 p)) k))).pokeWords s.tables.interrupt
      [.val (pendingLeft (s.wordAt s.tables.interrupt) (s.byteAt (s.tables.interrupt + 4 + BitVec.ofNat 32 p)) p k)]

/-- `s` with the posted interrupt taken off the table, and the software priority of what is left (60_exceptions R687). -/
def State.softwareTaken (s : State) (p k : Nat) : State :=
  (s.tableTaken p k).withIntr { s.intr with swPriority := topPriority (pendingLeft (s.wordAt s.tables.interrupt)
    (s.byteAt (s.tables.interrupt + 4 + BitVec.ofNat 32 p)) p k) }

theorem State.tableTaken_frame (s : State) (p k : Nat) : s.StoreFrame (s.tableTaken p k) :=
  (s.poke8_frame _ _).trans (State.pokeWords_frame _ _ _)

theorem State.tableTaken_wf {s : State} (h : s.mem.wf = true) (p k : Nat) : (s.tableTaken p k).mem.wf = true :=
  State.pokeWords_wf _ _ _ (s.poke8_wf _ _ h)

/-- What the table holds then, and what else memory holds. -/
theorem State.tableTaken_bytes {s : State} (hm : s.mem.wf = true) (hw : s.wordsWritable s.tables.interrupt 9) {p : Nat}
    (hp : p < 32) (k : Nat) :
    (s.tableTaken p k).byteAt (s.tables.interrupt + 4 + BitVec.ofNat 32 p) =
      byteLeft (s.byteAt (s.tables.interrupt + 4 + BitVec.ofNat 32 p)) k ∧
    (s.tableTaken p k).wordAt s.tables.interrupt =
      pendingLeft (s.wordAt s.tables.interrupt) (s.byteAt (s.tables.interrupt + 4 + BitVec.ofNat 32 p)) p k ∧
    ∀ x : Word, (∀ i < 4, x ≠ s.tables.interrupt + BitVec.ofNat 32 i) →
      x ≠ s.tables.interrupt + 4 + BitVec.ofNat 32 p → (s.tableTaken p k).byteAt x = s.byteAt x := by
  have byte := State.tableByte_writable hw hp
  have word := State.tableWord_writable hw
  rw [State.tableTaken]
  generalize byteLeft _ k = left
  generalize pendingLeft _ _ p k = pend
  have place := priorityByte_eq s.tables.interrupt p
  have frame := s.poke8_frame (s.tables.interrupt + 4 + BitVec.ofNat 32 p) (.val left)
  obtain ⟨wordFrame, -, others⟩ := State.stored_poke32 (.val pend) (s.poke8_wf _ (.val left) hm) (frame.writable word)
  have stores : s.stores (s.tables.interrupt + 4 + BitVec.ofNat 32 p) := by
    rw [place]
    simpa [word_add_zero] using State.stores_of_writable byte (by decide) (i := 0) (by decide)
  have holds := State.holdsWord_poke32 (s.poke8 (s.tables.interrupt + 4 + BitVec.ofNat 32 p) (.val left))
    s.tables.interrupt (.val pend) (s.poke8_wf _ _ hm) fun i hi =>
      State.stores_of_writable (frame.writable word) (by decide) hi
  refine ⟨(others _ fun i hi => ?_).trans (s.byteAt_poke8_self _ _ hm stores), State.wordAt_of_holdsWord holds,
    fun x hx hb => (others x hx).trans (s.byteAt_poke8_ne _ _ _ hb)⟩
  rw [place]
  exact word_add_ofNat_ne _ (by omega) (by omega) (by omega)

/-! The delivery by what the table holds. -/

section
variable {s : State} (hw : s.wordsWritable s.tables.interrupt 9)
include hw

theorem software_read (f : Word → M Unit) :
    (readImplicit false s.tables.interrupt >>= f) s = f (s.wordAt s.tables.interrupt) s :=
  M.bind_ok (readImplicit_uncached (State.present_of_writable (State.tableWord_writable hw)))

theorem software_noWord (h : s.wordAt s.tables.interrupt = 0) :
    deliver .software s = .ok () (s.withIntr { s.intr with swPriority := 0 }) := by
  show deliverSoftware s = _
  rw [deliverSoftware, M.bind_ok (M.get_run s)]
  simp only [software_read hw, h, topBit_zero]
  rfl

variable {p : Nat} (hp : p < 32)
include hp

theorem software_checked (f : Unit → M Unit) :
    (checkImplicit (s.tables.interrupt + 4 + BitVec.ofNat 32 p) 1 >>= f) s = f () s := by
  have byte := State.tableByte_writable hw hp
  rw [← priorityByte_eq] at byte
  exact M.bind_ok (checkImplicit_ok _ 1 s byte.1 byte.2.1 (State.not_absent_of_writable byte))

theorem software_byte : s.peek8 false (s.tables.interrupt + 4 + BitVec.ofNat 32 p) =
    s.byteAt (s.tables.interrupt + 4 + BitVec.ofNat 32 p) := by
  have byte := State.tableByte_writable hw hp
  rw [← priorityByte_eq] at byte
  exact State.peek8_ram (by simpa using byte.2.2 0 (by decide))

variable (htop : topBit (s.wordAt s.tables.interrupt) 32 = some p)
include htop

theorem software_noByte (h : s.byteAt (s.tables.interrupt + 4 + BitVec.ofNat 32 p) = 0) :
    deliver .software s = .ok () (s.withIntr { s.intr with swPriority := 0 }) := by
  have none : topBit (BitVec.zeroExtend 32 (0 : Byte)) 8 = none := topBit_zero 8
  show deliverSoftware s = _
  rw [deliverSoftware, M.bind_ok (M.get_run s)]
  simp only [software_read hw, htop, software_checked hw hp, software_byte hw hp, h, none]
  rfl

variable {k : Nat} (hbit : topBit ((s.byteAt (s.tables.interrupt + 4 + BitVec.ofNat 32 p)).zeroExtend 32) 8 = some k)
  (hb : (s.byteAt (s.tables.interrupt + 4 + BitVec.ofNat 32 p)).getLsbD k = true)
  (hprot : s.protectedIn true s.tables.interrupt 36 = false)
include hbit hb hprot

theorem software_takes : deliver .software s = (vectorEntry (BitVec.ofNat 8 (8 * p + k)) >>= fun target =>
    interruptCall (BitVec.ofNat 8 (8 * p + k)) target >>= fun _ => pure ()) (s.softwareTaken p k) := by
  have bit : (bitWord k).setWidth 8 = BitVec.ofNat 8 (2 ^ k) := BitVec.eq_of_toNat_eq (by simp [bitWord])
  have left : ∀ w : Word, (if s.byteAt (s.tables.interrupt + 4 + BitVec.ofNat 32 p) &&& ~~~BitVec.ofNat 8 (2 ^ k) = 0 then
      w &&& ~~~bitWord p else w) = pendingLeft w (s.byteAt (s.tables.interrupt + 4 + BitVec.ofNat 32 p)) p k := fun w =>
    if_congr (byteLeft_eq_zero hb) rfl rfl
  have frame := s.poke8_frame (s.tables.interrupt + 4 + BitVec.ofNat 32 p)
    (.val (byteLeft (s.byteAt (s.tables.interrupt + 4 + BitVec.ofNat 32 p)) k))
  have unprotected : s.protectedIn true s.tables.interrupt 4 = false := by
    simpa using State.protectedIn_part hprot (i := 0) (k := 4) (by decide)
  have stored := writeImplicit_ok true s.tables.interrupt
    [.val (pendingLeft (s.wordAt s.tables.interrupt) (s.byteAt (s.tables.interrupt + 4 + BitVec.ofNat 32 p)) p k)]
    (s.poke8 (s.tables.interrupt + 4 + BitVec.ofNat 32 p)
      (.val (byteLeft (s.byteAt (s.tables.interrupt + 4 + BitVec.ofNat 32 p)) k)))
    (fun i hi => frame.writable (hw i (Nat.lt_of_lt_of_le hi (show 1 ≤ 9 by decide)))) ((frame.protectedIn _ _ _).trans unprotected)
  show deliverSoftware s = _
  rw [deliverSoftware, M.bind_ok (M.get_run s)]
  simp only [software_read hw, htop, software_checked hw hp, software_byte hw hp, hbit, bit, left]
  refine (M.bind_ok (M.modify_run _ s)).trans ((M.bind_ok stored).trans ((M.bind_ok (M.modify_run _ _)).trans ?_))
  rw [State.softwareTaken, ← (s.tableTaken_frame p k).intr]
  rfl

end

/-! The call of its handler. -/

theorem State.RoomAt.ofFrame {s u : State} {base : Word} (h : s.RoomAt base) (f : s.StoreFrame u) (hm : u.mem.wf = true) :
    u.RoomAt base := by
  have reg : u.reg = s.reg := funext fun n => by simp only [State.reg, State.slot, f.locals, f.globals]
  refine ⟨?_, hm, ?_, ?_, fun i hi => f.writable (h.words i hi), (f.protectedIn _ _ _).trans h.unprotected⟩
  · rw [State.pcLegal, f.pc]; exact h.legal
  · rw [f.frames]; exact h.room
  · rw [f.pc, reg, f.tables]; exact h.stack

/-- An interrupt taken after stores that leave the registers. -/
theorem State.takesInterrupt.ofFrame {s u t : State} {v : Byte} {handler base : Word} (f : s.StoreFrame u)
    (h : u.takesInterrupt t v handler base) : s.takesInterrupt t v handler base := by
  obtain ⟨ip, enters, suspends, pc, w0, w1, w2, ac, special⟩ := h
  have slot : u.slot = s.slot := funext fun n => by simp only [State.slot, f.locals, f.globals]
  have reg : u.reg = s.reg := funext fun n => congrArg (fun g : RegNum → Slot => (g n).get) slot
  obtain ⟨-, same, -⟩ := f.keeps
  rw [State.entersFrame, slot, reg, f.frames] at enters
  simp only [State.suspendsOnto, State.suspendedAs, f.locals, reg, f.frames, f.ip] at suspends
  rw [f.pc] at w0
  rw [f.ac] at w1
  rw [f.pc, f.intr] at special
  exact ⟨ip, enters, suspends, pc, w0, w1, w2, ac.trans f.ac, State.sameSpecial.trans same special⟩

theorem State.wordAt_congr {s t : State} {a : Word} (order : t.bigEndian = s.bigEndian)
    (bytes : ∀ i < 4, t.byteAt (a + BitVec.ofNat 32 i) = s.byteAt (a + BitVec.ofNat 32 i)) : t.wordAt a = s.wordAt a := by
  have first : t.byteAt a = s.byteAt a := by simpa using bytes 0 (by decide)
  rw [State.wordAt, State.wordAt, order, first]
  exact congr (congr (congr rfl (bytes 1 (by decide))) (bytes 2 (by decide))) (bytes 3 (by decide))

section
variable {s : State} {base : Word} (hm : s.mem.wf = true) (hw : s.wordsWritable s.tables.interrupt 9) {p k : Nat}
  (hp : p < 32) (hk : k < 8) (h1 : 1 ≤ p)
  (hset : s.settled (s.tables.interrupt + 4 + 4 * BitVec.ofNat 32 (8 * p + k)) 4)
include hm hw hp hk h1 hset

/-- The vector's entry, which is above the words that are taken off, is read (60_exceptions R686, R687). -/
theorem softwareEntry_ok : vectorEntry (BitVec.ofNat 8 (8 * p + k)) (s.softwareTaken p k) =
    .ok (s.wordAt (s.tables.interrupt + 4 + 4 * BitVec.ofNat 32 (8 * p + k))) (s.softwareTaken p k) := by
  have frame := s.tableTaken_frame p k
  obtain ⟨-, -, others⟩ := State.tableTaken_bytes hm hw hp k
  have number : (BitVec.ofNat 8 (8 * p + k)).zeroExtend 32 = BitVec.ofNat 32 (8 * p + k) :=
    BitVec.eq_of_toNat_eq (by simp only [BitVec.zeroExtend, BitVec.toNat_setWidth, BitVec.toNat_ofNat]; omega)
  have entry : (s.softwareTaken p k).vectorEntry (BitVec.ofNat 8 (8 * p + k)) =
      s.tables.interrupt + 4 + 4 * BitVec.ofNat 32 (8 * p + k) := by
    rw [State.vectorEntry, number, State.softwareTaken, State.withIntr_tables, frame.tables]
  have place := tableOffset_eq s.tables.interrupt (8 * p + k)
  have word : (s.softwareTaken p k).wordAt (s.tables.interrupt + 4 + 4 * BitVec.ofNat 32 (8 * p + k)) =
      s.wordAt (s.tables.interrupt + 4 + 4 * BitVec.ofNat 32 (8 * p + k)) := by
    refine State.wordAt_congr frame.bigEndian fun i hi => others _ (fun j hj => ?_) ?_
    · rw [place, word_add_ofNat]
      exact word_add_ofNat_ne _ (by omega) (by omega) (by omega)
    · rw [place, word_add_ofNat, priorityByte_eq]
      exact word_add_ofNat_ne _ (by omega) (by omega) (by omega)
  have present : (s.softwareTaken p k).present ((s.softwareTaken p k).vectorEntry (BitVec.ofNat 8 (8 * p + k))) 4 := by
    rw [entry]
    exact State.present_of_plat (State.present_of_settled hset) frame.plat
  rw [← word, ← entry]
  exact vectorEntry_ok present

variable (hprot : s.protectedIn true s.tables.interrupt 36 = false)
  (htop : topBit (s.wordAt s.tables.interrupt) 32 = some p)
  (hbit : topBit ((s.byteAt (s.tables.interrupt + 4 + BitVec.ofNat 32 p)).zeroExtend 32) 8 = some k)
  (hb : (s.byteAt (s.tables.interrupt + 4 + BitVec.ofNat 32 p)).getLsbD k = true)
include hprot htop hbit hb

theorem deliverSoftware_enters (h : s.RoomAt base) : ∃ t, deliver .software s = .ok () t ∧
    s.takesInterrupt t (BitVec.ofNat 8 (8 * p + k)) (s.wordAt (s.tables.interrupt + 4 + 4 * BitVec.ofNat 32 (8 * p + k)))
      base ∧ (s.tableTaken p k).sameBytesBut t base 80 ∧ t.bigEndian = (s.tableTaken p k).bigEndian ∧
    t.intr = { s.intr with halted := false, swPriority := topPriority (pendingLeft (s.wordAt s.tables.interrupt)
      (s.byteAt (s.tables.interrupt + 4 + BitVec.ofNat 32 p)) p k) } := by
  have frame := s.tableTaken_frame p k
  have room : (s.softwareTaken p k).RoomAt base := (h.ofFrame frame (State.tableTaken_wf hm p k)).withIntr _
  obtain ⟨t, ok, taken, bytes, intr⟩ := interruptCall_enters room (BitVec.ofNat 8 (8 * p + k))
    (s.wordAt (s.tables.interrupt + 4 + 4 * BitVec.ofNat 32 (8 * p + k)))
  have taken' := (taken.ofWithIntr (s := s.tableTaken p k) t.intr).ofFrame frame
  refine ⟨t, ?run, taken', bytes, ?order, intr⟩
  case run =>
    rw [software_takes hw hp htop hbit hb hprot,
      M.bind_ok (softwareEntry_ok hm hw hp hk h1 hset)]
    exact M.bind_ok ok
  case order =>
    obtain ⟨-, -, -, -, -, -, -, -, special⟩ := taken'
    rw [frame.bigEndian]
    exact congrArg (fun c : MemConfig => c.dlmcon.getLsbD 0) special.2.2.2.2.1

end

/-- Settles O48: the top bits select the vector, its interrupt is taken off the table, and the rest is the interrupt call. -/
theorem softwareDelivery : Obligations.SoftwareDelivery := by
  unfold Obligations.SoftwareDelivery
  rintro s _ rfl hm hw hprot
  refine ⟨fun h => ?noWord, fun p hp hbitp abovep _ hb => ⟨fun h => ?noByte, ?taken⟩⟩
  case noWord => rw [toOutcome, software_noWord hw h]
  case noByte =>
    rw [toOutcome, software_noByte hw hp (topBit_eq_some hp hbitp abovep) (hb.symm.trans h)]
  case taken =>
    subst hb
    intro h1 k hk hbitk abovek hpc hroom base hbase hwords hunprot apart hset
    have low : ∀ m < 8, (BitVec.zeroExtend 32 (s.byteAt (s.tables.interrupt + 4 + BitVec.ofNat 32 p))).getLsbD m =
        (s.byteAt (s.tables.interrupt + 4 + BitVec.ofNat 32 p)).getLsbD m := fun m hm => by
      simp [BitVec.zeroExtend, Nat.lt_trans hm (show 8 < 32 by decide)]
    have topk := topBit_eq_some (w := BitVec.zeroExtend 32 (s.byteAt (s.tables.interrupt + 4 + BitVec.ofNat 32 p))) hk
      ((low k hk).trans hbitk) fun m hm hlt => (low m hm).trans (abovek m hm hlt)
    obtain ⟨t, ok, taken, bytes, order, intr⟩ := deliverSoftware_enters hm hw hp hk h1 hset hprot
      (topBit_eq_some hp hbitp abovep) topk hbitk ⟨hpc, hm, hroom, hbase, hwords, hunprot⟩
    obtain ⟨byte, word, others⟩ := State.tableTaken_bytes hm hw hp k
    have outside : ∀ i < 36, ∀ j < 80, s.tables.interrupt + BitVec.ofNat 32 i ≠ base + BitVec.ofNat 32 j := apart
    have pend : t.wordAt s.tables.interrupt = pendingLeft (s.wordAt s.tables.interrupt)
        (s.byteAt (s.tables.interrupt + 4 + BitVec.ofNat 32 p)) p k :=
      (State.wordAt_congr order fun i hi => bytes _ fun j hj => outside i (by omega) j hj).trans word
    rw [← pend] at intr
    refine ⟨t, by rw [toOutcome, ok], taken, ?_, pend, fun h0 => ?_, fun n hn hset above => ?_, fun x hx hxb hxs =>
      (bytes x hxs).trans (others x hx hxb)⟩
    · refine (bytes _ fun j hj => ?_).trans byte
      rw [priorityByte_eq]
      exact outside (4 + p) (by omega) j hj
    · rw [intr, h0, topPriority_zero]
    · rw [intr, topPriority_of_top hn hset above]

end Sys2Proof.Machine
end

section
/-! Load-and-lock and the cache dumps of `icctl`, `dcctl` and `sysctl` (48_processor_management R590, R596, R599, R609). -/

namespace Sys2Proof.Machine

/-! Load and lock. -/

/-- `s` with the instruction cache invalidated, and a way of it locked or none (48_processor_management R596). -/
def State.icacheLoaded (s : State) (locked : Bool) : State :=
  s.withCache { s.purgeICache.cache with instrLocked := locked }

theorem loadAndLock_none (addr : Word) (s : State) : loadAndLock addr 0 s = .ok () (s.icacheLoaded false) := rfl

theorem loadAndLock_one {addr : Word} {s : State}
    (h : ∀ i < 4 * s.plat.part.lockWords, s.kindAt ((addr &&& 0xFFFFFFF0) + BitVec.ofNat 32 i) ≠ .absent) :
    loadAndLock addr 1 s = .ok () (s.icacheLoaded true) := by
  have present := (s.purgeICache.absentIn_eq_none (addr &&& 0xFFFFFFF0) (4 * s.plat.part.lockWords)).mpr h
  have plat : s.purgeICache.plat = s.plat := rfl
  rw [loadAndLock, M.bind_ok (M.modify_run _ s), M.bind_ok (M.get_run _), if_neg (by decide), plat, present]
  rfl

theorem run_icacheLoaded {s : State} (hu : s.untraced) {action : M Unit} {locked : Bool}
    (h : action s = .ok () (s.icacheLoaded locked)) : ∃ t, run 4 (action >>= fun _ => pure {}) s = .next t ∧
      t.cache.codeStale = [] ∧ t.cache.instrLocked = locked ∧ t.cache.instrEnabled = s.cache.instrEnabled ∧
      t.ac = s.ac ∧ t.ip = s.ip + 4 ∧ s.changesOnly (t.withCache s.cache) [] :=
  ⟨_, run_after (d := {}) (M.bind_ok h) hu hu.2 rfl rfl rfl, rfl, rfl, rfl, rfl, rfl, s.changesOnly_withCache _ 4 false⟩

/-! The words of a dump. -/

/-- The words of equal parts of a list, by part and place in it. -/
theorem getElem?_flatMap_of_length {α β : Type} {f : α → List β} {m : Nat} (hf : ∀ x, (f x).length = m) (l : List α)
    (k j : Nat) (hj : j < m) : (l.flatMap f)[m * k + j]? = (l[k]?).bind fun x => (f x)[j]? := by
  induction l generalizing k with
  | nil => rfl
  | cons x rest ih =>
    rw [List.flatMap_cons]
    cases k with
    | zero => rw [Nat.mul_zero, Nat.zero_add, List.getElem?_append_left (by rw [hf]; exact hj)]; rfl
    | succ k =>
      rw [List.getElem?_append_right (by rw [hf, Nat.mul_succ]; omega), hf, List.getElem?_cons_succ, ← ih]
      congr 1
      rw [Nat.mul_succ]
      omega

theorem length_flatMap_of_length {α β : Type} {f : α → List β} {m : Nat} (hf : ∀ x, (f x).length = m) (l : List α) :
    (l.flatMap f).length = m * l.length := by
  induction l with
  | nil => rfl
  | cons x rest ih => rw [List.flatMap_cons, List.length_append, ih, hf, List.length_cons, Nat.mul_succ, Nat.add_comm]

section
variable (draw : Nat) (setData : Slot) (ways set : Nat)

theorem length_dumpSet : (dumpSet draw setData ways set).length = 1 + 6 * ways := by
  rw [dumpSet, List.length_cons, length_flatMap_of_length (m := 6) (fun w => rfl), List.length_range]
  omega

theorem dumpSet_setData : (dumpSet draw setData ways set)[0]? = some setData := rfl

/-- The valid bits of a way are below 32 (48_processor_management R590). -/
theorem dumpSet_validBits {way : Nat} (h : way < ways) :
    ∃ v : Word, (dumpSet draw setData ways set)[6 * way + 2]? = some (.val v) ∧ v.toNat < 32 := by
  refine ⟨Config.freeWord draw (Site.dump (32 * set + 8 * way + 2)) &&& 0x1F, ?_, ?_⟩
  · rw [dumpSet, List.getElem?_cons_succ, getElem?_flatMap_of_length (m := 6) (fun w => rfl) _ way 1 (by decide),
      List.getElem?_range h]
    rfl
  · rw [BitVec.toNat_and]
    exact Nat.lt_succ_of_le Nat.and_le_right

end

/-- The words of the sets from `first` to `last` (48_processor_management R590, R599). -/
def dumpWords (draw ways : Nat) (setData : Nat → Slot) (first last : Nat) : List Slot :=
  (List.range' first (last + 1 - first)).flatMap fun k => dumpSet draw (setData k) ways k

section
variable (draw ways : Nat) (setData : Nat → Slot) (first last : Nat)

theorem length_dumpWords : (dumpWords draw ways setData first last).length = (1 + 6 * ways) * (last + 1 - first) := by
  rw [dumpWords, length_flatMap_of_length fun k => length_dumpSet _ _ _ _, List.length_range']

/-- The words of a dump by set. -/
theorem dumpWords_getElem? {k j : Nat} (hk : k < last + 1 - first) (hj : j < 1 + 6 * ways) :
    (dumpWords draw ways setData first last)[(1 + 6 * ways) * k + j]? =
      (dumpSet draw (setData (first + k)) ways (first + k))[j]? := by
  rw [dumpWords, getElem?_flatMap_of_length (fun k => length_dumpSet _ _ _ _) _ k j hj, List.getElem?_range' hk,
    Nat.one_mul]
  rfl

end

/-! Stores at rising addresses. -/

theorem storeWords_ok {s : State} {a : Word} {vs : List Slot} (hw : s.wordsWritable a vs.length)
    (hp : s.protectedIn s.supervisor a (4 * vs.length) = false) : storeWords a vs s = .ok () (s.pokeWords a vs) := by
  induction vs generalizing s a with
  | nil => rfl
  | cons v rest ih =>
    rw [List.length_cons] at hw hp
    have frame := s.poke32_frame a v
    have word : s.writable a 4 := by simpa using hw 0 (by omega)
    have unprotected : s.protectedIn s.supervisor a 4 = false := by
      simpa using State.protectedIn_part hp (i := 0) (k := 4) (by omega)
    rw [storeWords, M.bind_ok (storeWord_ok a v s word unprotected)]
    refine ih (fun i hi => ?_) ?_
    · have next := frame.writable (hw (i + 1) (by omega))
      rwa [Nat.mul_succ, Nat.add_comm, BitVec.ofNat_add, ← BitVec.add_assoc] at next
    · rw [frame.supervisor, frame.protectedIn]
      exact State.protectedIn_part hp (i := 4) (by omega)

/-! The dump. -/

section
variable {sets ways : Nat} {setData : Nat → Nat → Slot} {range addr : Word} {s : State} {first last : Nat}
  (hfirst : first = (range.extractLsb' 0 16).toNat) (hlast : last = min (range.extractLsb' 16 16).toNat (sets - 1))
include hfirst hlast

theorem dumpCache_invalid (h : last < first ∨ addr.extractLsb' 0 2 ≠ 0#2) :
    dumpCache sets ways setData range addr s = .error (.raise .invalidOperand) s := by
  rw [dumpCache, M.bind_ok (M.get_run s)]
  simp only [← hfirst, ← hlast]
  by_cases order : last < first
  · rw [if_pos order]; rfl
  · rw [if_neg order, if_pos (h.resolve_left order)]; rfl

variable (order : first ≤ last) (aligned : addr.extractLsb' 0 2 = 0#2)
  (hw : s.wordsWritable addr ((1 + 6 * ways) * (last + 1 - first)))
  (hp : s.protectedIn s.supervisor addr (4 * ((1 + 6 * ways) * (last + 1 - first))) = false)
include order aligned hw hp

theorem dumpCache_ok : dumpCache sets ways setData range addr s =
    .ok () (s.pokeWords addr (dumpWords s.free ways (setData s.free) first last)) := by
  rw [dumpCache, M.bind_ok (M.get_run s)]
  simp only [← hfirst, ← hlast]
  rw [if_neg (Nat.not_lt.mpr order), if_neg (not_not.mpr aligned)]
  rw [← length_dumpWords s.free ways (setData s.free)] at hw hp
  exact storeWords_ok hw hp

/-- The step of a dump (48_processor_management R590, R599). -/
theorem run_dumpCache (hu : s.untraced) (hm : s.mem.wf = true) (hsize : (1 + 6 * ways) * (last + 1 - first) < 2 ^ 29) :
    ∃ t, run 4 (dumpCache sets ways setData range addr >>= fun _ => pure {}) s = .next t ∧ t.ac = s.ac ∧ t.ip = s.ip + 4 ∧
      s.storesOnly t addr (4 * ((1 + 6 * ways) * (last + 1 - first))) ∧
      ∀ k < last + 1 - first,
        (∀ way < ways, (t.wordAt (addr + BitVec.ofNat 32 (4 * ((1 + 6 * ways) * k + 6 * way + 2)))).toNat < 32) ∧
        t.wordAt (addr + BitVec.ofNat 32 (4 * ((1 + 6 * ways) * k))) = (setData s.free (first + k)).get := by
  have length := length_dumpWords s.free ways (setData s.free) first last
  have frame := s.pokeWords_frame addr (dumpWords s.free ways (setData s.free) first last)
  have window := (congrArg TraceDelay.teWindow frame.trace).trans hu.2
  have bytes : s.sameBytesBut (s.pokeWords addr (dumpWords s.free ways (setData s.free) first last)) addr
      (4 * ((1 + 6 * ways) * (last + 1 - first))) := fun b hb =>
    s.byteAt_pokeWords_ne addr b _ fun i hi => hb i (length ▸ hi)
  have word : ∀ {i : Nat} {v : Slot}, (dumpWords s.free ways (setData s.free) first last)[i]? = some v →
      (s.pokeWords addr (dumpWords s.free ways (setData s.free) first last)).wordAt (addr + BitVec.ofNat 32 (4 * i)) = v.get :=
    fun hi => State.wordAt_of_holdsWord (s.holdsWord_pokeWords addr _ hm
      (length ▸ State.stores_of_wordsWritable hw) (by omega) hi)
  refine ⟨_, run_after (d := {}) (M.bind_ok (dumpCache_ok hfirst hlast order aligned hw hp)) hu window rfl rfl rfl, frame.ac,
    congrArg (· + 4) frame.ip, frame.storesOnly bytes, fun k hk => ⟨fun way hway => ?_, ?_⟩⟩
  · obtain ⟨v, place, small⟩ := dumpSet_validBits s.free (setData s.free (first + k)) ways (first + k) hway
    rw [← dumpWords_getElem? s.free ways (setData s.free) first last hk (by omega), ← Nat.add_assoc] at place
    exact (congrArg BitVec.toNat (word place)).trans_lt small
  · have place := dumpWords_getElem? s.free ways (setData s.free) first last hk (j := 0) (by omega)
    exact word (place.trans (dumpSet_setData _ _ _ _))

end

/-! The instructions. -/

section
variable (a b : Operand) (d : RegNum) {s : State} (hs : s.supervisor = true) {f : Byte}
  (hf : f = (operandValue a Site.src1 s).setWidth 8) {v addr : Word} (hv : v = operandValue (.reg d) Site.srcDst s)
  (haddr : addr = operandValue b Site.src2 s)
include hs hf hv haddr

theorem exec_icctl_load (h : f = 3) : exec (.icctl a b d) s = run 4 (if 1 < v.toNat then raise .invalidOperand
    else loadAndLock addr v.toNat >>= fun _ => pure {}) s := by
  subst h hv haddr
  refine (run_requireSupervisor 4 _ hs).trans (run_congr ?_)
  rw [M.bind_ok (M.get_run s)]
  simp only [← hf]
  rfl

theorem exec_dcctl_dump (h : f = 6) : exec (.dcctl a b d) s = run 4 (dumpCache (2 ^ s.plat.part.dcacheLog2Lines) 1
    (fun draw k => .free draw (Site.dump (32 * k))) v addr >>= fun _ => pure {}) s := by
  subst h hv haddr
  refine (run_requireSupervisor 4 _ hs).trans (run_congr ?_)
  rw [M.bind_ok (M.get_run s)]
  simp only [← hf]
  rfl

theorem exec_icctl_dump (h : f = 6) : exec (.icctl a b d) s = run 4 (dumpCache (2 ^ s.plat.part.icacheLog2Sets) 2
    (fun draw k => .val (Config.freeWord draw (Site.dump (32 * k)) &&& 1)) v addr >>= fun _ => pure {}) s := by
  subst h hv haddr
  refine (run_requireSupervisor 4 _ hs).trans (run_congr ?_)
  rw [M.bind_ok (M.get_run s)]
  simp only [← hf]
  rfl

end

/-- The number of sets of either cache (00_scope R8). -/
theorem cacheSets_eq (p : Part) : 2 ^ p.dcacheLog2Lines = (if p = .ja then 64 else 128) ∧
    2 ^ p.icacheLog2Sets = if p = .ja then 64 else 128 := by
  cases p <;> decide

/-- The result of either dump, from its words of set data. -/
theorem dump_result {o : Host.Outcome State Fault Refusal} {ways : Nat} {setData : Nat → Nat → Slot} {v addr : Word}
    {s : State} {sets : Nat} (hsets : sets ≤ 128) (hways : ways ≤ 2)
    (ho : o = run 4 (dumpCache sets ways setData v addr >>= fun _ => pure {}) s)
    (hdata : ways = 2 → ∀ k, (setData s.free k).get.toNat < 2) {first last : Nat}
    (hfirst : first = (v.extractLsb' 0 16).toNat) (hlast : last = min (v.extractLsb' 16 16).toNat (sets - 1)) :
    (last < first ∨ addr.extractLsb' 0 2 ≠ 0#2 → o = s.raised 4 .invalidOperand) ∧
    (first ≤ last → addr.extractLsb' 0 2 = 0#2 → s.untraced → s.mem.wf = true →
      ∀ words : Nat, words = (1 + 6 * ways) * (last + 1 - first) → s.wordsWritable addr words →
      s.protectedIn s.supervisor addr (4 * words) = false →
      ∃ t, o = .next t ∧ t.ac = s.ac ∧ t.ip = s.ip + 4 ∧ s.storesOnly t addr (4 * words) ∧
        (∀ k < last + 1 - first,
          (∀ way < ways, (t.wordAt (addr + BitVec.ofNat 32 (4 * ((1 + 6 * ways) * k + 6 * way + 2)))).toNat < 32) ∧
          (ways = 2 → (t.wordAt (addr + BitVec.ofNat 32 (4 * ((1 + 6 * ways) * k)))).toNat < 2))) := by
  subst ho
  refine ⟨fun h => run_raised (M.bind_error (dumpCache_invalid hfirst hlast h)), ?_⟩
  rintro order aligned hu hm _ rfl hw hp
  have size : (1 + 6 * ways) * (last + 1 - first) ≤ 13 * 128 := Nat.mul_le_mul (by omega) (by omega)
  obtain ⟨t, next, ac, ip, stores, words⟩ :=
    run_dumpCache (setData := setData) hfirst hlast order aligned hw hp hu hm (by omega)
  refine ⟨t, next, ac, ip, stores, fun k hk => ?_⟩
  obtain ⟨valid, data⟩ := words k hk
  exact ⟨valid, fun two => by rw [data]; exact hdata two _⟩

/-- Settles O45: a load is the change of the caches that it makes, a dump the words of its sets. -/
theorem cacheLoadsAndDumps : Obligations.CacheLoadsAndDumps := by
  unfold Obligations.CacheLoadsAndDumps
  intro a b d s hs f hf v hv addr haddr
  refine ⟨fun h => ⟨fun many => ?many, fun hu count => ?load⟩, fun hm mode hu present => ?configure, fun h => ?dumps⟩
  case many =>
    rw [exec_icctl_load a b d hs hf hv haddr h, if_pos many]
    exact run_raised rfl
  case load =>
    rw [exec_icctl_load a b d hs hf hv haddr h]
    obtain rfl | ⟨rfl, present⟩ := count
    · exact run_icacheLoaded hu (loadAndLock_none addr s)
    · exact run_icacheLoaded hu (loadAndLock_one present)
  case configure =>
    have configured : configureICache f addr s = .ok () (s.icacheLoaded true) := by
      rw [← loadAndLock_one present]
      obtain rfl | rfl := mode <;> rfl
    rw [hf, haddr] at configured
    rw [exec_sysctl_configure a b d hs rfl hm]
    exact run_icacheLoaded hu configured
  case dumps =>
    obtain ⟨lines, sets⟩ := cacheSets_eq s.plat.part
    have few : (if s.plat.part = .ja then 64 else 128) ≤ 128 := by split <;> decide
    have hdcctl := exec_dcctl_dump a b d hs hf hv haddr h
    have hicctl := exec_icctl_dump a b d hs hf hv haddr h
    rw [lines] at hdcctl
    rw [sets] at hicctl
    rw [List.forall_mem_cons, List.forall_mem_singleton]
    exact ⟨fun first hfirst last hlast => dump_result few (by decide) hdcctl nofun hfirst hlast,
      fun first hfirst last hlast => dump_result few (by decide) hicctl
        (fun _ k => (BitVec.toNat_and ..).trans_lt (Nat.lt_succ_of_le Nat.and_le_right)) hfirst hlast⟩

end Sys2Proof.Machine
end

section
/-! The software reinitialization (48_processor_management R610; 70_reset R722, R723, R726, R728, R731): the state that each
of its parts leaves, and from these what message 3 of `sysctl` leaves. -/

namespace Sys2Proof.Machine

/-! Words that are read after the data cache is invalidated. -/

/-- `u` has the memory and the byte order of `s`, and nothing in its data cache differs from memory. -/
structure State.CleanOf (s u : State) : Prop where
  mem : u.mem = s.mem
  plat : u.plat = s.plat
  order : u.config.dlmcon = s.config.dlmcon
  stale : u.cache.dataStale = []

theorem State.CleanOf.bigEndian {s u : State} (h : s.CleanOf u) : u.bigEndian = s.bigEndian := by
  rw [State.bigEndian, h.order, State.bigEndian]

theorem State.CleanOf.wordAt {s u : State} (h : s.CleanOf u) (a : Word) : u.wordAt a = s.wordAt a :=
  State.wordAt_congr h.bigEndian fun i _ => by rw [State.byteAt, h.mem, State.byteAt]

theorem State.CleanOf.settled {s u : State} (h : s.CleanOf u) {a : Word} {n : Nat} (hs : s.settled a n) :
    u.settled a n := by
  obtain ⟨region, one, bytes⟩ := hs
  refine ⟨region, one, fun i hi => ?_⟩
  obtain ⟨absent, device, -⟩ := bytes i hi
  rw [State.kindAt_of_plat h.plat, h.stale]
  exact ⟨absent, device, rfl⟩

theorem State.CleanOf.initWord {s u : State} (h : s.CleanOf u) {a : Word} (hs : s.settled a 4) :
    initWord a u = .ok (s.wordAt a) u := by
  rw [← h.wordAt a]
  exact readImplicit_ok true a u (h.settled hs)

/-! The control table. -/

/-- The PMCON registers after the first `n` of them are loaded from the control table at `c` (70_reset R728). -/
def State.pmconLoaded (s : State) (c : Word) (old : Vector Word 8) : Nat → Vector Word 8
  | 0 => old
  | n + 1 => (s.pmconLoaded c old n).setIfInBounds n (s.wordAt (c + 0x20 + BitVec.ofNat 32 (8 * n)))

theorem State.pmconLoaded_get (s : State) (c : Word) (old : Vector Word 8) {n : Nat} (k : Fin 8) (hk : k.val < n) :
    (s.pmconLoaded c old n)[k] = s.wordAt (c + 0x20 + BitVec.ofNat 32 (8 * k.val)) := by
  induction n with
  | zero => exact absurd hk (Nat.not_lt_zero _)
  | succ n ih =>
    rw [State.pmconLoaded, Fin.getElem_fin, Vector.getElem_setIfInBounds]
    split
    · next e => rw [e]
    · next e => exact ih (by omega)

theorem settled_controlTable {s : State} {c : Word} (hc : s.wordsSettled (c + 0x10) 24) {k : Nat} (low : 4 ≤ k)
    (high : k < 28) : s.settled (c + BitVec.ofNat 32 (4 * k)) 4 := by
  have offset : c + 0x10 + BitVec.ofNat 32 (4 * (k - 4)) = c + BitVec.ofNat 32 (4 * k) :=
    (word_add_ofNat c 16 _).trans (by rw [show 16 + 4 * (k - 4) = 4 * k by omega])
  exact offset ▸ hc (k - 4) (by omega)

section
variable {s u : State} (h : s.CleanOf u) {c : Word} (hc : s.wordsSettled (c + 0x10) 24)
include h hc

theorem loadPmcon_eq (n : Nat) (hn : n ≤ 8) :
    loadPmcon c n u = .ok () (u.withConfig { u.config with pmcon := s.pmconLoaded c u.config.pmcon n }) := by
  induction n with
  | zero => rfl
  | succ n ih =>
    have offset : c + 0x20 + BitVec.ofNat 32 (8 * n) = c + BitVec.ofNat 32 (4 * (8 + 2 * n)) :=
      (word_add_ofNat c 32 _).trans (by rw [show 32 + 8 * n = 4 * (8 + 2 * n) by omega])
    have word : s.settled (c + 0x20 + BitVec.ofNat 32 (8 * n)) 4 :=
      offset ▸ settled_controlTable hc (by omega) (by omega)
    have clean : s.CleanOf (u.withConfig { u.config with pmcon := s.pmconLoaded c u.config.pmcon n }) :=
      ⟨h.mem, h.plat, h.order, h.stale⟩
    rw [loadPmcon, M.bind_ok (ih (by omega)), M.bind_ok (clean.initWord word)]
    rfl

/-- The state after the control table is loaded (70_reset R723, R728). -/
def State.controlLoaded (s u : State) (c : Word) : State :=
  ((u.withIntr { u.intr with imap0 := s.wordAt (c + 0x10), imap1 := s.wordAt (c + 0x14), imap2 := s.wordAt (c + 0x18)
                             icon := s.wordAt (c + 0x1C) }).withTc (s.wordAt (c + 0x68) &&& tcMask)).withConfig
    { u.config with pmcon := s.pmconLoaded c u.config.pmcon 8, bcon := s.wordAt (c + 0x6C) }

theorem loadControlTable_eq : loadControlTable c u = .ok () (s.controlLoaded u c) := by
  have word : ∀ {k : Nat}, 4 ≤ k → k < 28 → s.settled (c + BitVec.ofNat 32 (4 * k)) 4 := settled_controlTable hc
  have mapped : ∀ i : Interrupts, s.CleanOf (u.withIntr i) := fun _ => ⟨h.mem, h.plat, h.order, h.stale⟩
  have filled : ∀ (i : Interrupts) (p : Vector Word 8), s.CleanOf ((u.withIntr i).withConfig { u.config with pmcon := p }) :=
    fun _ _ => ⟨h.mem, h.plat, h.order, h.stale⟩
  have replaced : ∀ (i : Interrupts) (p : Vector Word 8) (v : Word),
      s.CleanOf (((u.withIntr i).withConfig { u.config with pmcon := p }).withTc v) :=
    fun _ _ _ => ⟨h.mem, h.plat, h.order, h.stale⟩
  have loaded : ∀ i : Interrupts, loadPmcon c 8 (u.withIntr i) = .ok () ((u.withIntr i).withConfig
      { u.config with pmcon := s.pmconLoaded c u.config.pmcon 8 }) := fun i => loadPmcon_eq (mapped i) hc 8 (by decide)
  rw [loadControlTable, M.bind_ok (h.initWord (a := c + 0x10) (word (k := 4) (by decide) (by decide))),
    M.bind_ok (h.initWord (a := c + 0x14) (word (k := 5) (by decide) (by decide))),
    M.bind_ok (h.initWord (a := c + 0x18) (word (k := 6) (by decide) (by decide))),
    M.bind_ok (h.initWord (a := c + 0x1C) (word (k := 7) (by decide) (by decide))), State.controlLoaded]
  generalize s.pmconLoaded c u.config.pmcon 8 = pmcon at loaded ⊢
  refine (M.bind_ok (M.modify_run _ u)).trans ((M.bind_ok (loaded _)).trans ?_)
  refine (M.bind_ok ((filled _ _).initWord (a := c + 0x68) (word (k := 26) (by decide) (by decide)))).trans
    ((M.bind_ok (M.modify_run _ _)).trans ?_)
  exact (M.bind_ok ((replaced _ _ _).initWord (a := c + 0x6C) (word (k := 27) (by decide) (by decide)))).trans rfl

end

/-! The PRCB. -/

/-- The state after the words of the PRCB at `p` are taken (70_reset R722, R726). -/
def State.prcbLoaded (s u : State) (p : Word) : State :=
  ((((u.withTables
    { prcb := p, spt := s.wordAt (p + 0x14), interrupt := s.wordAt (p + 0x10), fault := s.wordAt p
      control := s.wordAt (p + 0x04), isp := s.wordAt (p + 0x1C), ssp := s.wordAt (s.wordAt (p + 0x14) + 12) }).withAc
    (s.wordAt (p + 0x08) &&& acMask)).withUnalignedMasked ((s.wordAt (p + 0x0C)).getLsbD 30)).withCache
    { u.cache with instrEnabled := !(s.wordAt (p + 0x20)).getLsbD 16 }).withFrames
    { u.frames with reserved := (s.wordAt (p + 0x24)).extractLsb' 8 3 }

/-- The state after `Process_PRCB` but for the word of internal RAM that it stores. -/
def State.reconfigured (s u : State) (p : Word) : State :=
  s.controlLoaded (s.prcbLoaded u p) (s.wordAt (p + 0x04))

theorem State.CleanOf.reconfigured {s u : State} (h : s.CleanOf u) (p : Word) : s.CleanOf (s.reconfigured u p) := by
  constructor <;> simp [State.reconfigured, State.controlLoaded, State.prcbLoaded, h.mem, h.plat, h.order, h.stale]

theorem processPrcb_eq {s u : State} (h : s.CleanOf u) {p : Word} (hp : s.wordsSettled p 10)
    (hc : s.wordsSettled (s.wordAt (p + 0x04) + 0x10) 24) (hi : s.settled (s.wordAt (p + 0x10) + 996) 4)
    (hs : s.settled (s.wordAt (p + 0x14) + 12) 4) :
    processPrcb p u =
      .ok () ((s.reconfigured u p).poke32 0 (.val (s.wordAt (s.wordAt (p + 0x10) + 996)))) := by
  have first : s.settled p 4 := by simpa using hp 0 (by decide)
  have vector : ∀ table : Word, table + 36 + 4 * (248 - 8) = table + 996 := fun table => BitVec.add_assoc table 36 960
  rw [processPrcb, M.bind_ok (h.initWord first), M.bind_ok (h.initWord (a := p + 0x04) (hp 1 (by decide))),
    M.bind_ok (h.initWord (a := p + 0x08) (hp 2 (by decide))), M.bind_ok (h.initWord (a := p + 0x0C) (hp 3 (by decide))),
    M.bind_ok (h.initWord (a := p + 0x10) (hp 4 (by decide))), M.bind_ok (h.initWord (a := p + 0x14) (hp 5 (by decide))),
    M.bind_ok (h.initWord (a := p + 0x1C) (hp 7 (by decide))), M.bind_ok (h.initWord (a := p + 0x20) (hp 8 (by decide))),
    M.bind_ok (h.initWord (a := p + 0x24) (hp 9 (by decide))), M.bind_ok (h.initWord hs), vector]
  have control : loadControlTable (s.wordAt (p + 0x04)) (s.prcbLoaded u p) = .ok () (s.reconfigured u p) :=
    loadControlTable_eq (by constructor <;> simp [State.prcbLoaded, h.mem, h.plat, h.order, h.stale]) hc
  exact (M.bind_ok (M.modify_run _ u)).trans ((M.bind_ok control).trans (M.bind_ok ((h.reconfigured p).initWord hi)))

/-! The message. -/

theorem State.resetCaches_clean (s : State) : s.CleanOf (s.resetCaches 4) := ⟨rfl, rfl, rfl, rfl⟩

section
variable (s : State) (p : Word)

/-- What `Process_PRCB` leaves as it is (92 D30). -/
theorem State.reconfigured_kept {u : State} (h : u = s.reconfigured (s.resetCaches 4) p) :
    u.pc = s.pc ∧ u.globals = s.globals ∧ u.locals = s.locals ∧ u.bp = s.bp ∧ u.timer0 = s.timer0 ∧
      u.timer1 = s.timer1 ∧ u.deviceId = s.deviceId ∧ u.trace = s.trace := by
  subst h
  refine ⟨?pc, ?globals, ?locals, ?bp, ?timer0, ?timer1, ?deviceId, ?trace⟩ <;>
    simp [State.reconfigured, State.controlLoaded, State.prcbLoaded, State.resetCaches, State.invalidateICache,
      State.invalidateDCache]

/-- What it loads from the PRCB and the control table at `c` (70_reset R722, R723, R726, R728), and the caches of a software
reinitialization (70_reset R731). -/
theorem State.reconfigured_loaded {u : State} (h : u = s.reconfigured (s.resetCaches 4) p) {c : Word}
    (hc : c = s.wordAt (p + 0x04)) :
    u.tables = { prcb := p, spt := s.wordAt (p + 0x14), interrupt := s.wordAt (p + 0x10), fault := s.wordAt p, control := c
                 isp := s.wordAt (p + 0x1C), ssp := s.wordAt (s.wordAt (p + 0x14) + 12) } ∧
      u.ac = s.wordAt (p + 0x08) &&& acMask ∧ u.unalignedMasked = (s.wordAt (p + 0x0C)).getLsbD 30 ∧
      u.frames = { s.frames with reserved := (s.wordAt (p + 0x24)).extractLsb' 8 3 } ∧
      u.intr = { s.intr with imap0 := s.wordAt (c + 0x10), imap1 := s.wordAt (c + 0x14), imap2 := s.wordAt (c + 0x18)
                             icon := s.wordAt (c + 0x1C) } ∧
      u.config = { s.config with pmcon := s.pmconLoaded c s.config.pmcon 8, bcon := s.wordAt (c + 0x6C) } ∧
      u.tc = s.wordAt (c + 0x68) &&& tcMask ∧
      u.cache.dataEnabled = false ∧ u.cache.dataStale = [] ∧
      (u.cache.instrEnabled = !(s.wordAt (p + 0x20)).getLsbD 16) ∧ u.cache.instrLocked = false ∧ u.cache.codeStale = [] := by
  subst h hc
  refine ⟨?tables, ?ac, ?masked, ?frames, ?intr, ?config, ?tc, ?dataEnabled, ?dataStale, ?instrEnabled, ?instrLocked,
    ?codeStale⟩ <;>
    simp [State.reconfigured, State.controlLoaded, State.prcbLoaded, State.resetCaches, State.invalidateICache,
      State.invalidateDCache]

end

/-- A store to internal RAM reaches no cache. -/
theorem State.poke32_internalRam_cache (s : State) {a : Word} (v : Slot) (h : a.toNat + 4 ≤ 0x400) :
    (s.poke32 a v).cache = s.cache := by
  have ram : ∀ i < 4, ∀ (u : State) (w : MByte), (u.poke8 (a + BitVec.ofNat 32 i) w).cache = u.cache := fun i hi u w => by
    have region : regionOf (a + BitVec.ofNat 32 i) = .internalRam := by
      rw [regionOf_eq_internalRam_iff, BitVec.toNat_add, BitVec.toNat_ofNat]; omega
    simp [State.poke8, region]
  have first := ram 0 (by decide)
  rw [word_add_zero] at first
  exact (ram 3 (by decide) _ _).trans ((ram 2 (by decide) _ _).trans ((ram 1 (by decide) _ _).trans (first _ _)))

/-- Settles O46: the words of the settled tables are read as memory holds them, and what is loaded from them is all that
changes but the caches, the IP and the word of internal RAM. -/
theorem reinitialization : Obligations.Reinitialization := by
  unfold Obligations.Reinitialization
  rintro a b d s hs hu hm message p hp prcb c hc control table rfl nmi spt rfl stack
  have completes := processPrcb_eq s.resetCaches_clean prcb (hc ▸ control) nmi stack
  obtain ⟨u, hr⟩ : ∃ u, u = s.reconfigured (s.resetCaches 4) p := ⟨_, rfl⟩
  have clean : s.CleanOf u := hr ▸ s.resetCaches_clean.reconfigured p
  obtain ⟨pc, globals, locals, bp, timer0, timer1, deviceId, trace⟩ := s.reconfigured_kept p hr
  obtain ⟨tables, ac, masked, frames, intr, config, tc, dataEnabled, dataStale, instrEnabled, instrLocked, codeStale⟩ :=
    s.reconfigured_loaded p hr hc
  rw [← hr] at completes
  obtain ⟨frame, bytes, others⟩ := State.stored_poke32 (.val (s.wordAt (s.wordAt (p + 0x10) + 996))) (clean.mem.symm ▸ hm)
    (u.writable_internalRam (a := 0) (by decide) (by decide))
  have cache := u.poke32_internalRam_cache (a := 0) (.val (s.wordAt (s.wordAt (p + 0x10) + 996))) (by decide)
  generalize u.poke32 0 _ = v at frame bytes others cache completes
  have window : v.trace.teWindow = 0 := by rw [frame.trace, trace]; exact hu.2
  have action : (softwareReinitialize (s.src Site.srcDst d) (operandValue b Site.src2 s) >>= fun _ =>
      pure { transfer := true }) s = .ok ({ transfer := true } : Done) (v.jump (operandValue b Site.src2 s)) := by
    rw [show s.src Site.srcDst d = p from hp.symm]
    exact M.bind_ok ((M.bind_ok (M.modify_run _ s)).trans (M.bind_ok completes))
  refine ⟨_, (exec_sysctl_reinitialize a b d s hs message).trans (run_transfer action hu window rfl rfl rfl), rfl,
    frame.pc.trans pc, frame.tables.trans tables, frame.ac.trans ac, frame.unalignedMasked.trans masked,
    frame.frames.trans frames, frame.intr.trans intr, fun k => ?_, ?_, frame.tc.trans tc,
    (congrArg Caches.dataEnabled cache).trans dataEnabled, (congrArg Caches.dataStale cache).trans dataStale,
    (congrArg Caches.instrEnabled cache).trans instrEnabled, (congrArg Caches.instrLocked cache).trans instrLocked,
    (congrArg Caches.codeStale cache).trans codeStale, ?_, fun k hk => (others k hk).trans ?_, fun n => ?_,
    frame.bp.trans bp, frame.timer0.trans timer0, frame.timer1.trans timer1, frame.deviceId.trans deviceId⟩
  · show v.config.pmcon[k] = _
    rw [frame.config, config]
    exact s.pmconLoaded_get c _ k k.isLt
  · show v.config = { s.config with pmcon := v.config.pmcon, bcon := s.wordAt (c + 0x6C) }
    rw [frame.config, config]
  · show v.holdsWord 0 _
    intro i hi
    rw [frame.bigEndian]
    exact bytes i hi
  · rw [State.byteAt, clean.mem, State.byteAt]
  · show v.slot n = s.slot n
    rw [State.slot, State.slot, frame.globals, frame.locals, globals, locals]

end Sys2Proof.Machine
end

section
/-! The latency of a deliverable interrupt (60_exceptions R680; 70_reset R750): only the step counts it. No action of an
instruction, of a fault, of a trace or of a delivery changes it. -/

namespace Sys2Proof.Machine

/-- An action that keeps the latency `l`, whatever the way it ends. -/
def M.Steady {α : Type} (l : Option Nat) (x : M α) : Prop :=
  ∀ s, s.intr.latency = l → M.Leads (fun t => t.intr.latency = l) x s

section
variable {l : Option Nat}

theorem M.steady_pure {α : Type} (a : α) : M.Steady l (pure a) := fun _ h => M.leads_pure a h

theorem M.steady_raise {α : Type} (k : FaultKind) : M.Steady l (raise k : M α) := fun _ h => M.leads_raise k h

theorem M.steady_refuse {α : Type} (r : Refusal) : M.Steady l (refuse r : M α) := fun _ h => M.leads_refuse r h

theorem M.steady_stop {α : Type} (f : Fault) : M.Steady l (stopFault f : M α) := fun _ h => M.leads_stop f h

theorem M.steady_set {s : State} (h : s.intr.latency = l) : M.Steady l (set s : M Unit) :=
  fun _ _ => M.leads_set s h

theorem M.steady_modify {f : State → State} (h : ∀ s, (f s).intr.latency = s.intr.latency) :
    M.Steady l (modify f : M Unit) := fun s hs => M.leads_modify f ((h s).trans hs)

theorem M.steady_bind {α β : Type} {x : M α} {f : α → M β} (hx : M.Steady l x)
    (hf : ∀ a, M.Steady l (f a)) : M.Steady l (x >>= f) :=
  fun s h => M.leads_bind (hx s h) fun a t ht => hf a t ht

theorem M.steady_get_bind {β : Type} {f : State → M β} (hf : ∀ s, s.intr.latency = l → M.Steady l (f s)) :
    M.Steady l (get >>= f) := fun s h => M.leads_get_bind (hf s h s h)

theorem M.steady_ite {α : Type} {p : Prop} [Decidable p] {x y : M α} (hx : M.Steady l x)
    (hy : M.Steady l y) : M.Steady l (if p then x else y) :=
  fun s h => M.leads_ite (fun _ => hx s h) fun _ => hy s h

theorem M.steady_when {α β : Type} {p : Prop} [Decidable p] {x : M α} {f : M β} (hx : M.Steady l x)
    (hf : M.Steady l f) : M.Steady l (if p then x >>= fun _ => f else f) := M.steady_ite (M.steady_bind hx fun _ => hf) hf

/-- An action that has an end of its own to report. -/
theorem M.steady_reports {α β : Type} {x : M α} {r : β} (hx : M.Steady l x) :
    M.Steady l (x >>= fun _ => (pure r : M β)) := M.steady_bind hx fun _ => M.steady_pure r

theorem M.steady_of_looks {α : Type} {x : M α} (hx : ∀ s, M.Looks x s) : M.Steady l x :=
  fun s h => (hx s).leads h

theorem M.steady_of_intr {α : Type} {x : M α} (hx : ∀ s, M.Leads (fun t => t.intr = s.intr) x s) :
    M.Steady l x := fun s h =>
  ⟨fun a t e => (congrArg Interrupts.latency ((hx s).1 a t e)).trans h,
    fun a t e => (congrArg Interrupts.latency ((hx s).2 a t e)).trans h⟩

end

/-! Single changes. -/

theorem State.setGroup_intr (s : State) (n : RegNum) (i : Nat) (vs : List Slot) : (s.setGroup n i vs).intr = s.intr := by
  induction vs generalizing s i with
  | nil => rfl
  | cons v rest ih =>
    rw [State.setGroup, ih]
    cases groupReg n i with
    | none => rfl
    | some r => exact s.setSlot_intr r v

theorem State.setMmr_latency (s : State) (v : Word) (r : MmrName) : (s.setMmr v r).intr.latency = s.intr.latency := by
  cases r <;> rfl

theorem State.afterMmrRead_intr (s : State) (r : MmrName) : (s.afterMmrRead r).intr = s.intr := by cases r <;> rfl

theorem State.setReg_intr (s : State) (n : RegNum) (v : Word) : (s.setReg n v).intr = s.intr := s.setSlot_intr n _

/-- The interrupts enabled, disabled or left, by the operand of `halt` and `intctl`. -/
theorem State.interruptsBy_latency (s : State) (v : Word) :
    (if v = 0 then s.enableInterrupts false else if v = 1 then s.enableInterrupts true else s).intr.latency =
      s.intr.latency := by
  split
  · rfl
  · split <;> rfl

/-! Calls, faults and interrupts. -/

section
variable {l : Option Nat}

theorem doCall_steady (rip : Slot) (target : Word) (rt : BitVec 3) (base : Word) :
    M.Steady l (doCall rip target rt base) := M.steady_of_intr (doCall_intr rip target rt base)

theorem faultCall_steady (n sub : BitVec 8) (rip ip : Slot) (d : Bool) :
    M.Steady l (faultCall n sub rip ip d) := M.steady_of_intr (faultCall_intr n sub rip ip d)

theorem faulted_steady (ip len : Word) (k : FaultKind) : M.Steady l (faulted ip len k) :=
  M.steady_get_bind fun _ h => M.steady_bind (M.steady_set h) fun _ => faultCall_steady _ _ _ _ _

theorem readImplicit_steady (c : Bool) (a : Word) : M.Steady l (readImplicit c a) :=
  M.steady_of_looks (readImplicit_looks c a)

theorem writeImplicit_steady (em : Bool) (a : Word) (vs : List Slot) :
    M.Steady l (writeImplicit em a vs) := by
  refine M.steady_of_intr fun s => ?_
  rcases writeImplicit_cases em a vs s with e | ⟨x, e, -⟩
  · exact M.leads_of_ok e (s.pokeWords_frame _ _).intr
  · exact M.leads_of_error e rfl

theorem interruptCall_steady (v : Byte) (target : Word) : M.Steady l (interruptCall v target) := by
  intro s h
  rcases interruptCall_cases v target s with e | ⟨x, e, -⟩
  · have stored : (s.interruptStored v).intr.latency = l := by rw [s.recorded_interrupt v |>.2.2]; exact h
    have call := M.steady_reports (r := s.interruptStack + 16)
      (doCall_steady (.val s.ip) target 7 (s.interruptStack + 16)) _ stored
    exact ⟨fun b u k => call.1 b u (e ▸ k), fun b u k => call.2 b u (e ▸ k)⟩
  · exact M.leads_of_error e h

theorem deliverHardware_steady (r : Request) : M.Steady l (deliverHardware r) := by
  refine M.steady_get_bind fun s h => ?_
  have call : ∀ target, M.Steady l (interruptCall r.vector target >>= fun _ =>
      if s.intr.icon.getLsbD (if r.dedicated then 11 else 12) then
        modify (fun u => (u.setReg 3 s.intr.imsk).withIntr { u.intr with imsk := 0 }) else pure ()) := fun target =>
    M.steady_bind (interruptCall_steady _ _) fun _ => M.steady_ite (M.steady_modify fun _ => rfl) (M.steady_pure _)
  exact M.steady_ite
    (M.steady_bind (M.steady_pure _) fun target => M.steady_when (M.steady_modify fun _ => rfl) (call target))
    (M.steady_bind (M.steady_of_looks (vectorEntry_looks _)) fun target =>
      M.steady_when (M.steady_modify fun _ => rfl) (call target))

theorem deliverSoftware_steady : M.Steady l deliverSoftware := by
  refine M.steady_get_bind fun s h => M.steady_bind (readImplicit_steady _ _) fun pend => ?_
  cases topBit pend 32 with
  | none => exact M.steady_modify fun _ => rfl
  | some p =>
    have checked : M.Steady l (checkImplicit (s.tables.interrupt + 4 + BitVec.ofNat 32 p) 1) :=
      M.steady_of_looks fun u => (checkImplicit_cases _ 1 u).imp_left fun e => ⟨_, e⟩
    refine M.steady_bind checked fun _ => ?_
    dsimp only
    cases topBit (BitVec.zeroExtend 32 (s.peek8 false (s.tables.interrupt + 4 + BitVec.ofNat 32 p))) 8 with
    | none => exact M.steady_modify fun _ => rfl
    | some k =>
      exact M.steady_bind (M.steady_modify fun u => congrArg Interrupts.latency (u.poke8_frame _ _).intr) fun _ =>
        M.steady_bind (writeImplicit_steady _ _ _) fun _ => M.steady_bind (M.steady_modify fun _ => rfl) fun _ =>
        M.steady_bind (M.steady_of_looks (vectorEntry_looks _)) fun _ => M.steady_reports (interruptCall_steady _ _)

theorem deliver_steady (src : Source) : M.Steady l (deliver src) := by
  cases src with
  | nmi => exact M.steady_get_bind fun _ h => M.steady_bind (M.steady_set h) fun _ =>
      M.steady_bind (interruptCall_steady _ _) fun _ => M.steady_modify fun _ => rfl
  | hardware r => exact deliverHardware_steady r
  | software => exact deliverSoftware_steady

theorem checkPending_steady : M.Steady l checkPending := by
  refine M.steady_get_bind fun s _ => ?_
  cases s.pendingSource with
  | none => exact M.steady_pure _
  | some src => exact deliver_steady src

theorem complete_steady (ip len : Word) (on : Bool) (d : Done) : M.Steady l (complete ip len on d) := by
  have poll : M.Steady l (if d.poll then checkPending else pure ()) := M.steady_ite checkPending_steady (M.steady_pure _)
  exact M.steady_bind (M.steady_modify fun s => by split <;> rfl) fun _ => M.steady_get_bind fun s h =>
    M.steady_bind (M.steady_set h) fun _ => M.steady_when (M.steady_modify fun _ => rfl) (M.steady_ite
      (M.steady_bind (M.steady_modify fun _ => rfl) fun _ => M.steady_bind (faultCall_steady _ _ _ _ _) fun _ => poll)
      (M.steady_when (faultCall_steady _ _ _ _ _) poll))

end

/-- A step keeps the latency that its action keeps, whatever fault, trace or interrupt ends it. -/
theorem run_latency {len : Word} {action : M Done} {s t : State} (e : run len action s = .next t)
    (ha : ∀ l, M.Steady l action) : t.intr.latency = s.intr.latency := by
  unfold run at e
  split at e
  · rename_i d u hu
    exact (complete_steady _ _ _ d u ((ha _ s rfl).1 _ _ hu)).next e
  · rename_i k u hu
    exact (faulted_steady _ _ k u ((ha _ s rfl).2 _ _ hu)).next e
  all_goals cases e

end Sys2Proof.Machine
end

section
/-! The actions of instructions keep the latency of a deliverable interrupt, one lemma for each shape of action. -/

namespace Sys2Proof.Machine

section
variable {l : Option Nat}

/-! Register results. -/

theorem checkDst_steady (n : RegNum) (count : Nat) : M.Steady l (checkDst n count) := fun _ h => checkDst_leads h n count

theorem setDst_steady (n : RegNum) (v : Word) : M.Steady l (setDst n v) :=
  M.steady_modify fun s => congrArg Interrupts.latency (s.setReg_intr n v)

theorem setUndefined_steady (n : RegNum) (count : Nat) : M.Steady l (setUndefined n count) :=
  M.steady_modify fun s => congrArg Interrupts.latency (s.setGroup_intr n 0 _)

theorem setGroup_steady {s : State} (h : s.intr.latency = l) (n : RegNum) (vs : List Slot) :
    M.Steady l (set (s.setGroup n 0 vs) : M Unit) :=
  M.steady_set ((congrArg Interrupts.latency (s.setGroup_intr n 0 vs)).trans h)

theorem overflowIf_steady (b : Bool) : M.Steady l (overflowIf b) :=
  M.steady_ite (M.steady_get_bind fun _ h => M.steady_ite (M.steady_set h) (M.steady_raise _)) (M.steady_pure _)

/-- A destination written with a word of the state where it passes its check. -/
theorem checkedDst_steady (d : RegNum) (v : State → Word) :
    M.Steady l (checkDst d >>= fun _ => get >>= fun u => setDst d (v u) >>= fun _ => (pure {} : M Done)) :=
  M.steady_bind (checkDst_steady d 1) fun _ => M.steady_get_bind fun _ _ => M.steady_reports (setDst_steady d _)

theorem binary_steady (f : Word → Word → Word) (a b : Operand) (d : RegNum) : M.Steady l (binary f a b d) :=
  checkedDst_steady d _

theorem binaryOverflow_steady (f : Word → Word → Word) (o : Word → Word → Bool) (a b : Operand) (d : RegNum) :
    M.Steady l (binaryOverflow f o a b d) :=
  M.steady_bind (checkDst_steady d 1) fun _ => M.steady_get_bind fun _ _ => M.steady_bind (setDst_steady d _) fun _ =>
    M.steady_reports (overflowIf_steady _)

theorem whenCond_steady (mask : BitVec 3) (d : RegNum) {action : M Done} (ha : M.Steady l action) :
    M.Steady l (whenCond mask d action) :=
  M.steady_bind (checkDst_steady d 1) fun _ => M.steady_get_bind fun _ _ => M.steady_ite ha (M.steady_pure _)

theorem divideBy_steady (w : Bool) (f : Word → Word → Word) (a b : Operand) (d : RegNum) :
    M.Steady l (divideBy w f a b d) :=
  M.steady_bind (checkDst_steady d 1) fun _ => M.steady_get_bind fun _ _ => M.steady_ite
    (M.steady_when (setUndefined_steady d 1) (M.steady_raise _)) (M.steady_reports (setDst_steady d _))

/-- A destination and the condition code. -/
theorem checkedDstCc_steady (d : RegNum) (v : State → Word) (c : State → BitVec 3) :
    M.Steady l (checkDst d >>= fun _ => get >>= fun u => set ((u.setReg d (v u)).setCc (c u)) >>= fun _ =>
      (pure {} : M Done)) :=
  M.steady_bind (checkDst_steady d 1) fun _ => M.steady_get_bind fun u h => M.steady_reports
    (M.steady_set (s := (u.setReg d (v u)).setCc (c u)) ((congrArg Interrupts.latency (u.setReg_intr d (v u))).trans h))

/-- A check of a destination and a change of the state with a write of it. -/
theorem checkedSet_steady (d : RegNum) (v : Word) {u : State} (h : u.intr.latency = l) (r : Done) :
    M.Steady l (checkDst d >>= fun _ => set (u.setReg d v) >>= fun _ => (pure r : M Done)) :=
  M.steady_bind (checkDst_steady d 1) fun _ =>
    M.steady_reports (r := r) (M.steady_set ((congrArg Interrupts.latency (u.setReg_intr d v)).trans h))

theorem compareOp_steady (f : Word → Word → BitVec 3) (a b : Operand) : M.Steady l (compareOp f a b) :=
  M.steady_reports (M.steady_modify fun _ => rfl)

theorem moveGroup_steady (count alignment : Nat) (a : Operand) (d : RegNum) :
    M.Steady l (moveGroup count alignment a d) :=
  M.steady_ite (M.steady_bind (setUndefined_steady d count) fun _ => M.steady_raise _)
    (M.steady_bind (checkDst_steady d count) fun _ => M.steady_bind
      (M.steady_modify fun s => congrArg Interrupts.latency (s.setGroup_intr d 0 _)) fun _ => M.steady_pure _)

/-! Branches. -/

theorem branchBy_steady {n : Nat} (disp : BitVec n) : M.Steady l (branchBy disp) := M.steady_modify fun _ => rfl

theorem branchIf_steady {n : Nat} (b : Bool) (disp : BitVec n) : M.Steady l (branchIf b disp) :=
  M.steady_ite (M.steady_reports (branchBy_steady disp)) (M.steady_pure _)

theorem branchBit_steady (v : Bool) (a : Operand) (b : RegNum) (disp : BitVec 13) : M.Steady l (branchBit v a b disp) :=
  M.steady_get_bind fun _ h => M.steady_bind (M.steady_set h) fun _ => branchIf_steady _ disp

theorem compareBranch_steady (f : Word → Word → BitVec 3) (mask : BitVec 3) (a : Operand) (b : RegNum)
    (disp : BitVec 13) : M.Steady l (compareBranch f mask a b disp) :=
  M.steady_get_bind fun _ h => M.steady_bind (M.steady_set h) fun _ => branchIf_steady _ disp

/-! Loads and stores. -/

theorem checkRange_steady (a : Word) (n : Nat) : M.Steady l (checkRange a n) := fun _ h => checkRange_leads h a n

theorem checkLoad_steady (a : Word) (n : Nat) : M.Steady l (checkLoad a n) := fun _ h => checkLoad_leads h a n

theorem checkProtected_steady (a : Word) (n : Nat) : M.Steady l (checkProtected a n) :=
  fun _ h => checkProtected_leads h a n

theorem unalignedTrap_steady (a : Word) (bits : Nat) : M.Steady l (unalignedTrap a bits) :=
  fun _ h => unalignedTrap_leads h a bits

theorem checkMmrStore_steady (a : Word) : M.Steady l (checkMmrStore a) := by
  intro s h
  rcases checkMmrStore_cases a s with ⟨r, e, -, -⟩ | ⟨x, e⟩
  · exact M.leads_of_ok e h
  · exact M.leads_of_error e h

theorem poke32_steady (a : Word) (v : Slot) : M.Steady l (modify fun s => s.poke32 a v : M Unit) :=
  M.steady_modify fun s => congrArg Interrupts.latency (s.poke32_frame a v).intr

theorem pokeWords_latency {s : State} (h : s.intr.latency = l) (a : Word) (vs : List Slot) :
    (s.pokeWords a vs).intr.latency = l := (congrArg Interrupts.latency (s.pokeWords_frame a vs).intr).trans h

theorem loadItem_steady (n bits : Nat) (read : State → Word → Word) (m : MemOperand) (d : RegNum) :
    M.Steady l (loadItem n bits read m d) :=
  M.steady_bind (checkDst_steady d 1) fun _ => M.steady_get_bind fun _ _ => M.steady_bind (checkLoad_steady _ n) fun _ =>
    M.steady_bind (setDst_steady d _) fun _ => M.steady_reports (unalignedTrap_steady _ bits)

theorem loadGroup_steady (count alignment bits : Nat) (m : MemOperand) (d : RegNum) :
    M.Steady l (loadGroup count alignment bits m d) :=
  M.steady_when (M.steady_raise _) (M.steady_bind (checkDst_steady d count) fun _ => M.steady_get_bind fun _ h =>
    M.steady_bind (checkLoad_steady _ _) fun _ => M.steady_bind (setGroup_steady h d _) fun _ =>
    M.steady_reports (unalignedTrap_steady _ bits))

theorem mmrLoad_steady (a : Word) : M.Steady l (mmrLoad a) := by
  refine M.steady_bind (fun _ h => checkMmrAligned_leads h a) fun _ => M.steady_get_bind fun s h => ?_
  cases mmrAt a with
  | none => exact M.steady_pure _
  | some r =>
    exact M.steady_ite (M.steady_pure _)
      (M.steady_reports (M.steady_set ((congrArg Interrupts.latency (s.afterMmrRead_intr r)).trans h)))

theorem readWord_steady (c : Bool) (a : Word) : M.Steady l (readWord c a) :=
  M.steady_ite (mmrLoad_steady a) (M.steady_bind (checkRange_steady a 4) fun _ =>
    M.steady_get_bind fun _ _ => M.steady_pure _)

theorem storeItem_steady (n : Nat) {write : State → Word → Slot → State}
    (hw : ∀ s a v, State.StoreFrame s (write s a v)) (r : RegNum) (m : MemOperand) : M.Steady l (storeItem n write r m) :=
  M.steady_get_bind fun s h => M.steady_bind (checkProtected_steady _ n) fun _ => M.steady_bind (checkRange_steady _ n)
    fun _ => M.steady_reports (M.steady_set ((congrArg Interrupts.latency (hw s _ _).intr).trans h))

theorem storeGroup_steady (count alignment bits : Nat) (r : RegNum) (m : MemOperand) :
    M.Steady l (storeGroup count alignment bits r m) :=
  M.steady_get_bind fun _ h => M.steady_bind (checkProtected_steady _ _) fun _ => M.steady_when (M.steady_raise _)
    (M.steady_bind (checkRange_steady _ _) fun _ => M.steady_bind (M.steady_set (pokeWords_latency h _ _)) fun _ =>
      M.steady_reports (unalignedTrap_steady _ bits))

theorem storeWord_steady (a : Word) (v : Slot) : M.Steady l (storeWord a v) :=
  M.steady_ite (M.steady_bind (checkMmrStore_steady a) fun r => M.steady_modify fun s => s.setMmr_latency _ r)
    (M.steady_bind (checkProtected_steady a 4) fun _ => M.steady_bind (checkRange_steady a 4) fun _ => poke32_steady a v)

theorem storeWords_steady (a : Word) (vs : List Slot) : M.Steady l (storeWords a vs) := by
  induction vs generalizing a with
  | nil => exact M.steady_pure _
  | cons v rest ih => exact M.steady_bind (storeWord_steady a v) fun _ => ih (a + 4)

theorem atomicUpdate_steady (a : Word) (f : Word → Word) : M.Steady l (atomicUpdate a f) :=
  M.steady_bind (checkProtected_steady a 4) fun _ => M.steady_bind (checkRange_steady a 4) fun _ =>
    M.steady_get_bind fun s h =>
      M.steady_reports (M.steady_set ((congrArg Interrupts.latency (s.poke32_frame a _).intr).trans h))

/-- A memory-mapped register that is read and then written. -/
theorem mmrUpdate_steady {s : State} (h : s.intr.latency = l) (r : MmrName) (v : Word) :
    M.Steady l (set ((s.afterMmrRead r).setMmr v r) : M Unit) :=
  M.steady_set ((State.setMmr_latency _ v r).trans ((congrArg Interrupts.latency (s.afterMmrRead_intr r)).trans h))

theorem atomicMmr_steady (a : Word) (f : Word → Word) : M.Steady l (atomicMmr a f) :=
  M.steady_bind (checkMmrStore_steady a) fun r => M.steady_get_bind fun _ h => M.steady_reports (mmrUpdate_steady h r _)

theorem modifyMmr_steady (a v mask : Word) : M.Steady l (modifyMmr a v mask) :=
  M.steady_bind (checkMmrStore_steady a) fun r => M.steady_get_bind fun _ h => M.steady_reports (mmrUpdate_steady h r _)

/-! Calls and returns. -/

theorem localCall_steady (rip target : Word) : M.Steady l (localCall rip target) :=
  M.steady_get_bind fun _ _ => M.steady_reports (doCall_steady _ _ _ _)

theorem systemCall_steady (entry : Word) : M.Steady l (systemCall entry) :=
  M.steady_get_bind fun _ _ => M.steady_ite (M.steady_reports (doCall_steady _ _ _ _)) (M.steady_ite
    (M.steady_ite (M.steady_reports (doCall_steady _ _ _ _))
      (M.steady_reports (M.steady_bind (M.steady_modify fun _ => rfl) fun _ => doCall_steady _ _ _ _)))
    (M.steady_refuse _))

theorem returnToFrame_steady : M.Steady l returnToFrame := by
  refine M.steady_of_intr fun s => ?_
  rcases returnToFrame_cases s with ⟨u, popped, e⟩ | ⟨x, e, -⟩
  · refine M.leads_of_ok e ?_
    cases popped <;> rfl
  · exact M.leads_of_error e rfl

theorem restoreControls_steady (em : Bool) (pc ac : Word) : M.Steady l (restoreControls em pc ac) :=
  M.steady_bind (M.steady_modify fun _ => rfl) fun _ => M.steady_ite (M.steady_ite (M.steady_refuse _)
    (M.steady_reports (M.steady_modify fun _ => rfl))) (M.steady_pure _)

theorem handlerReturn_steady : M.Steady l handlerReturn :=
  M.steady_get_bind fun _ _ => M.steady_bind (M.steady_of_looks savedControls_looks) fun _ =>
    M.steady_bind returnToFrame_steady fun _ => restoreControls_steady _ _ _

theorem supervisorReturn_steady (te : Bool) : M.Steady l (supervisorReturn te) :=
  M.steady_bind (M.steady_modify fun _ => by split <;> rfl) fun _ => returnToFrame_steady

theorem returnBy_steady (rt : BitVec 3) : M.Steady l (returnBy rt) :=
  M.steady_ite (M.steady_reports returnToFrame_steady) (M.steady_ite
    (M.steady_bind handlerReturn_steady fun _ => M.steady_pure _)
    (M.steady_ite (M.steady_reports (supervisorReturn_steady _)) (M.steady_ite (M.steady_reports (supervisorReturn_steady _))
      (M.steady_ite (M.steady_get_bind fun _ _ => M.steady_bind handlerReturn_steady fun _ =>
        M.steady_reports (M.steady_modify fun _ => by split <;> rfl)) (M.steady_raise _)))))

theorem spillOldest_steady : M.Steady l spillOldest := by
  refine M.steady_get_bind fun s _ => M.steady_ite ?_ (M.steady_refuse _)
  cases s.frames.cache with
  | nil => exact M.steady_pure _
  | cons f rest =>
    refine M.steady_bind (M.steady_of_intr fun u => ?_) fun _ => M.steady_modify fun _ => rfl
    rcases spillSet_cases f u with e | ⟨x, e, -⟩
    · exact M.leads_of_ok e (u.pokeWords_frame _ _).intr
    · exact M.leads_of_error e rfl

theorem spillAll_steady (n : Nat) : M.Steady l (spillAll n) := by
  induction n with
  | zero => exact M.steady_pure _
  | succ n ih =>
    refine M.steady_get_bind fun s _ => ?_
    cases s.frames.cache with
    | nil => exact M.steady_pure _
    | cons f rest => exact M.steady_bind spillOldest_steady fun _ => ih

/-! Processor management. -/

/-- A supervisor-only action. -/
theorem requireSupervisor_steady {α : Type} {f : M α} (hf : M.Steady l f) :
    M.Steady l (requireSupervisor >>= fun _ => f) :=
  M.steady_bind (M.steady_get_bind fun _ _ => M.steady_ite (M.steady_pure _) (M.steady_raise _)) fun _ => hf

theorem dumpCache_steady (sets ways : Nat) (setData : Nat → Nat → Slot) (range addr : Word) :
    M.Steady l (dumpCache sets ways setData range addr) :=
  M.steady_get_bind fun _ _ => M.steady_ite (M.steady_raise _) (M.steady_ite (M.steady_raise _) (storeWords_steady _ _))

theorem loadAndLock_steady (a : Word) (count : Nat) : M.Steady l (loadAndLock a count) := by
  refine M.steady_bind (M.steady_modify fun _ => rfl) fun _ => M.steady_get_bind fun _ h =>
    M.steady_ite (M.steady_pure _) ?_
  split
  · exact M.steady_stop _
  · exact M.steady_set h

theorem configureICache_steady (mode : Byte) (a : Word) : M.Steady l (configureICache mode a) :=
  M.steady_ite (M.steady_modify fun _ => rfl) (M.steady_ite (M.steady_modify fun _ => rfl)
    (M.steady_ite (loadAndLock_steady a 1) (M.steady_raise _)))

theorem postByte_steady (a : Word) (bit : Byte) : M.Steady l (postByte a bit) :=
  M.steady_bind (checkLoad_steady a 1) fun _ => M.steady_bind (checkProtected_steady a 1) fun _ =>
    M.steady_modify fun s => congrArg Interrupts.latency (s.poke8_frame a _).intr

theorem postSoftware_steady (v : Byte) : M.Steady l (postSoftware v) :=
  M.steady_get_bind fun _ _ => M.steady_bind (readWord_steady false _) fun _ => M.steady_when (postByte_steady _ _)
    (M.steady_bind (storeWord_steady _ _) fun _ => M.steady_modify fun _ => rfl)

theorem initWord_steady (a : Word) : M.Steady l (initWord a) := readImplicit_steady true a

theorem loadPmcon_steady (c : Word) (n : Nat) : M.Steady l (loadPmcon c n) := by
  induction n with
  | zero => exact M.steady_pure _
  | succ n ih => exact M.steady_bind ih fun _ => M.steady_bind (initWord_steady _) fun _ => M.steady_modify fun _ => rfl

theorem loadControlTable_steady (c : Word) : M.Steady l (loadControlTable c) :=
  M.steady_bind (initWord_steady _) fun _ => M.steady_bind (initWord_steady _) fun _ => M.steady_bind (initWord_steady _)
    fun _ => M.steady_bind (initWord_steady _) fun _ => M.steady_bind (M.steady_modify fun _ => rfl) fun _ =>
    M.steady_bind (loadPmcon_steady c 8) fun _ => M.steady_bind (initWord_steady _) fun _ =>
    M.steady_bind (M.steady_modify fun _ => rfl) fun _ => M.steady_bind (initWord_steady _) fun _ =>
    M.steady_modify fun _ => rfl

theorem processPrcb_steady (p : Word) : M.Steady l (processPrcb p) :=
  M.steady_bind (initWord_steady _) fun _ => M.steady_bind (initWord_steady _) fun _ => M.steady_bind (initWord_steady _)
    fun _ => M.steady_bind (initWord_steady _) fun _ => M.steady_bind (initWord_steady _) fun _ => M.steady_bind
    (initWord_steady _) fun _ => M.steady_bind (initWord_steady _) fun _ => M.steady_bind (initWord_steady _) fun _ =>
    M.steady_bind (initWord_steady _) fun _ => M.steady_bind (initWord_steady _) fun _ =>
    M.steady_bind (M.steady_modify fun _ => rfl) fun _ => M.steady_bind (loadControlTable_steady _) fun _ =>
    M.steady_bind (initWord_steady _) fun _ => poke32_steady _ _

theorem softwareReinitialize_steady (prcb ip : Word) : M.Steady l (softwareReinitialize prcb ip) :=
  M.steady_bind (M.steady_modify fun _ => rfl) fun _ => M.steady_bind (processPrcb_steady prcb) fun _ =>
    M.steady_modify fun _ => rfl

end

end Sys2Proof.Machine
end

section
/-! Every instruction keeps the latency of a deliverable interrupt, and so an interrupt that stays deliverable is delivered
(60_exceptions R680; 70_reset R750). -/

namespace Sys2Proof.Machine

/-! Instructions with an action of their own. -/

section
variable {s t : State}

theorem execDivi_latency {a b : Operand} {d : RegNum} (e : execDivi a b d s = .next t) :
    t.intr.latency = s.intr.latency :=
  run_latency e fun _ => M.steady_get_bind fun _ _ => M.steady_bind (divideBy_steady _ _ a b d) fun _ =>
    M.steady_reports (overflowIf_steady _)

theorem execEmul_latency {a b : Operand} {d : RegNum} (e : execEmul a b d s = .next t) :
    t.intr.latency = s.intr.latency :=
  run_latency e fun _ => M.steady_ite (M.steady_bind (setUndefined_steady d 2) fun _ => M.steady_raise _)
    (M.steady_bind (checkDst_steady d 2) fun _ => M.steady_get_bind fun _ h => M.steady_reports (setGroup_steady h d _))

theorem execEdiv_latency {a b : Operand} {d : RegNum} (e : execEdiv a b d s = .next t) :
    t.intr.latency = s.intr.latency := by
  refine run_latency e fun l => M.steady_get_bind fun u h => ?_
  split
  · exact M.steady_bind (checkDst_steady d 2) fun _ => M.steady_ite
      (M.steady_bind (setUndefined_steady d 2) fun _ => M.steady_raise _)
      (M.steady_ite (M.steady_reports (setUndefined_steady d 2)) (M.steady_reports (setGroup_steady h d _)))
  · exact M.steady_bind (setUndefined_steady d 2) fun _ => M.steady_raise _

theorem execEshro_latency {a b : Operand} {d : RegNum} (e : execEshro a b d s = .next t) :
    t.intr.latency = s.intr.latency := by
  refine run_latency e fun l => M.steady_get_bind fun u _ => ?_
  cases pairValue b u with
  | some n => exact M.steady_bind (checkDst_steady d 1) fun _ => M.steady_reports (setDst_steady d _)
  | none => exact M.steady_bind (setUndefined_steady d 1) fun _ => M.steady_raise _

theorem execLd_latency {m : MemOperand} {d : RegNum} (e : execLd m d s = .next t) :
    t.intr.latency = s.intr.latency :=
  run_latency e fun _ => M.steady_bind (checkDst_steady d 1) fun _ => M.steady_get_bind fun _ _ =>
    M.steady_bind (readWord_steady true _) fun _ => M.steady_bind (setDst_steady d _) fun _ =>
    M.steady_reports (unalignedTrap_steady _ 2)

theorem execSt_latency {r : RegNum} {m : MemOperand} (e : execSt r m s = .next t) :
    t.intr.latency = s.intr.latency :=
  run_latency e fun _ => M.steady_get_bind fun _ _ => M.steady_bind (storeWord_steady _ _) fun _ =>
    M.steady_reports (unalignedTrap_steady _ 2)

theorem execB_latency {disp : BitVec 24} (e : execB disp s = .next t) : t.intr.latency = s.intr.latency :=
  run_latency e fun _ => M.steady_reports (branchBy_steady disp)

theorem execBx_latency {m : MemOperand} (e : execBx m s = .next t) : t.intr.latency = s.intr.latency :=
  run_latency e fun _ => M.steady_reports (M.steady_modify fun _ => rfl)

theorem execBal_latency {disp : BitVec 24} (e : execBal disp s = .next t) : t.intr.latency = s.intr.latency :=
  run_latency e fun _ => M.steady_bind
    (M.steady_modify fun u => congrArg Interrupts.latency (u.setReg_intr linkReg _)) fun _ =>
    M.steady_reports (branchBy_steady disp)

theorem execCalls_latency {a : Operand} (e : execCalls a s = .next t) : t.intr.latency = s.intr.latency :=
  run_latency e fun _ => M.steady_get_bind fun _ _ => M.steady_ite (M.steady_raise _)
    (M.steady_bind (readImplicit_steady _ _) fun entry => systemCall_steady entry)

theorem execRet_latency (e : execRet s = .next t) : t.intr.latency = s.intr.latency :=
  run_latency e fun _ => M.steady_get_bind fun _ h => M.steady_ite (M.steady_refuse _) (M.steady_ite (M.steady_refuse _)
    (M.steady_ite (M.steady_bind (M.steady_set h) fun _ => M.steady_raise _) (returnBy_steady _)))

theorem execFlushreg_latency (e : execFlushreg s = .next t) : t.intr.latency = s.intr.latency :=
  run_latency e fun _ => M.steady_get_bind fun _ _ => M.steady_bind (spillAll_steady _) fun _ =>
    M.steady_reports (M.steady_modify fun _ => rfl)

theorem execAtmod_latency {a b : Operand} {d : RegNum} (e : execAtmod a b d s = .next t) :
    t.intr.latency = s.intr.latency := by
  have written : ∀ (l : Option Nat) (old : Word), M.Steady l (setDst d old >>= fun _ => (pure {} : M Done)) :=
    fun _ old => M.steady_reports (setDst_steady d old)
  exact run_latency e fun l => M.steady_bind (checkDst_steady d 1) fun _ => M.steady_get_bind fun _ _ => M.steady_ite
    (M.steady_bind (atomicMmr_steady _ _) (written l)) (M.steady_bind (atomicUpdate_steady _ _) (written l))

theorem execModtc_latency {a b : Operand} {d : RegNum} (e : execModtc a b d s = .next t) :
    t.intr.latency = s.intr.latency := by
  refine run_latency e fun l => M.steady_bind (checkDst_steady d 1) fun _ => M.steady_get_bind fun u h =>
    M.steady_reports (M.steady_set ((congrArg Interrupts.latency (State.setReg_intr _ d _)).trans ?_))
  split <;> exact h

theorem execModpc_latency {a b : Operand} {d : RegNum} (e : execModpc a b d s = .next t) :
    t.intr.latency = s.intr.latency := by
  refine run_latency e fun l => M.steady_get_bind fun u h => M.steady_ite (M.steady_bind (checkDst_steady d 1) fun _ =>
    M.steady_reports (setDst_steady d _)) (requireSupervisor_steady (M.steady_bind (checkDst_steady d 1) fun _ =>
    M.steady_ite (M.steady_refuse _)
      (M.steady_reports (M.steady_set ((congrArg Interrupts.latency (State.setReg_intr _ d _)).trans ?_)))))
  show (if _ then u else u.openTeWindow).intr.latency = l
  split <;> exact h

theorem execHalt_latency {a : Operand} (e : execHalt a s = .next t) : t.intr.latency = s.intr.latency :=
  run_latency e fun _ => requireSupervisor_steady (M.steady_get_bind fun u h => M.steady_ite (M.steady_raise _)
    (M.steady_reports (M.steady_set ((u.interruptsBy_latency _).trans h))))

theorem execIntctl_latency {a : Operand} {d : RegNum} (e : execIntctl a d s = .next t) :
    t.intr.latency = s.intr.latency :=
  run_latency e fun _ => requireSupervisor_steady (M.steady_get_bind fun u h => M.steady_ite (M.steady_raise _)
    (checkedSet_steady d _ ((u.interruptsBy_latency _).trans h) _))

theorem execDcctl_latency {a b : Operand} {d : RegNum} (e : execDcctl a b d s = .next t) :
    t.intr.latency = s.intr.latency :=
  run_latency e fun _ => requireSupervisor_steady (M.steady_get_bind fun _ h => M.steady_ite
    (M.steady_reports (M.steady_set h)) (M.steady_ite (M.steady_reports (M.steady_set h)) (M.steady_ite
    (M.steady_reports (M.steady_set h)) (M.steady_ite
    (M.steady_bind (checkDst_steady d 1) fun _ => M.steady_reports (setDst_steady d _)) (M.steady_ite
    (M.steady_reports (dumpCache_steady _ _ _ _ _)) (M.steady_raise _))))))

theorem execIcctl_latency {a b : Operand} {d : RegNum} (e : execIcctl a b d s = .next t) :
    t.intr.latency = s.intr.latency :=
  run_latency e fun _ => requireSupervisor_steady (M.steady_get_bind fun _ h => M.steady_ite
    (M.steady_reports (M.steady_set h)) (M.steady_ite (M.steady_reports (M.steady_set h)) (M.steady_ite
    (M.steady_reports (M.steady_set h)) (M.steady_ite
    (M.steady_ite (M.steady_raise _) (M.steady_reports (loadAndLock_steady _ _))) (M.steady_ite
    (M.steady_bind (checkDst_steady d 1) fun _ => M.steady_reports (setDst_steady d _)) (M.steady_ite
    (M.steady_bind (checkDst_steady d 1) fun _ => M.steady_reports (setDst_steady d _)) (M.steady_ite
    (M.steady_reports (dumpCache_steady _ _ _ _ _)) (M.steady_raise _))))))))

theorem execSysctl_latency {a b : Operand} {d : RegNum} (e : execSysctl a b d s = .next t) :
    t.intr.latency = s.intr.latency :=
  run_latency e fun _ => requireSupervisor_steady (M.steady_get_bind fun _ h => M.steady_ite
    (M.steady_reports (postSoftware_steady _)) (M.steady_ite
    (M.steady_reports (M.steady_set h)) (M.steady_ite
    (M.steady_reports (configureICache_steady _ _)) (M.steady_ite
    (M.steady_reports (softwareReinitialize_steady _ _)) (M.steady_ite
    (M.steady_bind (checkDst_steady d 1) fun _ => M.steady_bind (modifyMmr_steady _ _ _) fun _ =>
      M.steady_reports (setDst_steady d _)) (M.steady_ite
    (M.steady_bind (checkDst_steady d 1) fun _ => M.steady_reports
      (M.steady_set ((congrArg Interrupts.latency (State.setReg_intr _ d _)).trans h))) (M.steady_raise _)))))))

end

/-! The instructions. -/

/-- No instruction changes the latency, whatever fault, trace or interrupt ends its step. -/
theorem exec_latency (i : Instr) {s t : State} (e : exec i s = .next t) : t.intr.latency = s.intr.latency := by
  cases i with
  | ldob | ldos | ldib | ldis =>
    exact run_latency e fun _ => loadItem_steady _ _ _ _ _
  | ldl | ldt | ldq =>
    exact run_latency e fun _ => loadGroup_steady _ _ _ _ _
  | mov | movl | movt | movq =>
    exact run_latency e fun _ => moveGroup_steady _ _ _ _
  | stl | stt | stq =>
    exact run_latency e fun _ => storeGroup_steady _ _ _ _ _
  | addono | addog | addoe | addoge | addol | addone | addole | addoo | subono | subog | suboe | suboge | subol |
    subone | subole | suboo =>
    exact run_latency e fun _ => whenCond_steady _ _ (binary_steady _ _ _ _)
  | addino | addig | addie | addige | addil | addine | addile | addio | subino | subig | subie | subige | subil |
    subine | subile | subio =>
    exact run_latency e fun _ => whenCond_steady _ _ (binaryOverflow_steady _ _ _ _ _)
  | addi | subi | muli | shli =>
    exact run_latency e fun _ => binaryOverflow_steady _ _ _ _ _
  | divo | remo | remi | modi =>
    exact run_latency e fun _ => divideBy_steady _ _ _ _ _
  | addo | subo | mulo | shlo | shro | shri | shrdi | rotate | and | andnot | clrbit | nand | nor | notand | notbit |
    notor | or | ornot | setbit | xnor | xor | bswap | not | selno | selg | sele | selge | sell | selne | selle | selo |
    testno | testg | teste | testge | testl | testne | testle | testo | alterbit | extract | modify =>
    exact run_latency e fun _ => checkedDst_steady _ _
  | chkbit | scanbyte | cmpo | cmpi | cmpob | cmpib | cmpos | cmpis =>
    unfold exec at e
    exact run_latency e fun _ => compareOp_steady _ _ _
  | scanbit | spanbit | cmpdeco | cmpdeci | cmpinco | cmpinci | addc | subc =>
    exact run_latency e fun _ => checkedDstCc_steady _ _ _
  | concmpo | concmpi =>
    exact run_latency e fun _ => M.steady_get_bind fun _ _ => M.steady_ite (M.steady_pure _) (compareOp_steady _ _ _)
  | bbc | bbs =>
    exact run_latency e fun _ => branchBit_steady _ _ _ _
  | bno | bg | be | bge | bl | bne | ble | bo =>
    exact run_latency e fun _ => M.steady_get_bind fun _ _ => branchIf_steady _ _
  | cmpobg | cmpobe | cmpobge | cmpobl | cmpobne | cmpoble | cmpibno | cmpibg | cmpibe | cmpibge | cmpibl | cmpibne |
    cmpible | cmpibo =>
    exact run_latency e fun _ => compareBranch_steady _ _ _ _ _
  | faultno | faultg | faulte | faultge | faultl | faultne | faultle | faulto =>
    exact run_latency e fun _ => M.steady_get_bind fun _ _ => M.steady_ite (M.steady_raise _) (M.steady_pure _)
  | mark | fmark | syncf =>
    unfold exec at e
    exact run_latency e fun _ => M.steady_pure _
  | ld => exact execLd_latency e
  | lda m d =>
    exact run_latency e fun _ => M.steady_bind (checkDst_steady d 1) fun _ =>
      M.steady_reports (M.steady_modify fun u => congrArg Interrupts.latency (u.setReg_intr d _))
  | st => exact execSt_latency e
  | stob => exact run_latency e fun _ => M.steady_reports (storeItem_steady 1 State.poke1_frame _ _)
  | stos =>
    exact run_latency e fun _ => M.steady_bind (storeItem_steady 2 State.poke16_frame _ _) fun _ =>
      M.steady_reports (unalignedTrap_steady _ 1)
  | stib =>
    exact run_latency e fun _ => M.steady_get_bind fun _ _ => M.steady_bind (storeItem_steady 1 State.poke1_frame _ _)
      fun _ => M.steady_reports (overflowIf_steady _)
  | stis =>
    exact run_latency e fun _ => M.steady_get_bind fun _ _ => M.steady_bind (storeItem_steady 2 State.poke16_frame _ _)
      fun _ => M.steady_bind (unalignedTrap_steady _ 1) fun _ => M.steady_reports (overflowIf_steady _)
  | b => exact execB_latency e
  | bx => exact execBx_latency e
  | bal => exact execBal_latency e
  | balx m d =>
    exact run_latency e fun _ => M.steady_bind (checkDst_steady d 1) fun _ =>
      M.steady_reports (M.steady_modify fun u => congrArg Interrupts.latency (u.setReg_intr d _))
  | call | callx => exact run_latency e fun _ => M.steady_get_bind fun _ _ => localCall_steady _ _
  | divi => exact execDivi_latency e
  | emul => exact execEmul_latency e
  | ediv => exact execEdiv_latency e
  | eshro => exact execEshro_latency e
  | calls => exact execCalls_latency e
  | ret => exact execRet_latency e
  | flushreg => exact execFlushreg_latency e
  | atadd =>
    exact run_latency e fun _ => M.steady_bind (checkDst_steady _ 1) fun _ => M.steady_get_bind fun _ _ =>
      M.steady_bind (atomicUpdate_steady _ _) fun _ => M.steady_reports (setDst_steady _ _)
  | atmod => exact execAtmod_latency e
  | dcctl => exact execDcctl_latency e
  | halt => exact execHalt_latency e
  | icctl => exact execIcctl_latency e
  | intctl => exact execIntctl_latency e
  | intdis | inten =>
    exact run_latency e fun _ => requireSupervisor_steady (M.steady_reports (M.steady_modify fun _ => rfl))
  | modac a b d =>
    exact run_latency e fun _ => M.steady_bind (checkDst_steady d 1) fun _ => M.steady_get_bind fun u h =>
      M.steady_reports (M.steady_set (s := (u.setReg d u.ac).withAc _)
        ((congrArg Interrupts.latency (u.setReg_intr d u.ac)).trans h))
  | modpc a b d => exact execModpc_latency (a := a) e
  | modtc => exact execModtc_latency e
  | sysctl => exact execSysctl_latency e

/-! The fetch and the step. -/

theorem fetchWord_steady {l : Option Nat} (a : Word) : M.Steady l (fetchWord a) := by
  intro s h
  rcases fetchWord_cases a s with e | e | ⟨b, e⟩
  · exact M.leads_of_ok e h
  · exact M.leads_of_error e h
  · exact M.leads_of_error e h

theorem fetch_steady {l : Option Nat} : M.Steady l fetch := by
  have decoded : ∀ w0 w1 : Word, M.Steady l (match decode w0 w1 with
      | .ok i => pure i
      | .error _ => raise .invalidOpcode : M Instr) := by
    intro w0 w1
    cases decode w0 w1 with
    | ok i => exact M.steady_pure _
    | error e => exact M.steady_raise _
  exact M.steady_get_bind fun _ _ => M.steady_bind (fetchWord_steady _) fun w0 => M.steady_ite
    (M.steady_bind (fetchWord_steady _) (decoded w0)) (M.steady_bind (M.steady_pure _) (decoded w0))

/-- Only the step counts the latency: what it fetches and executes keeps it. -/
theorem fetchAndRun_latency {s t : State} (e : fetchAndRun exec s = .next t) : t.intr.latency = s.intr.latency := by
  unfold fetchAndRun at e
  split at e
  · rename_i i u hu
    exact (exec_latency i e).trans ((fetch_steady s rfl).1 _ _ hu)
  · rename_i k u hu
    exact (faulted_steady _ _ k u ((fetch_steady s rfl).2 _ _ hu)).next e
  all_goals cases e

section
variable {s : State} (hi : s.inputs = []) {src : Source} (hp : s.pendingSource = some src) (hh : s.intr.halted = false)
include hi hp hh

/-- An instruction before a delivery takes one off the latency that runs or is drawn (60_exceptions R680). -/
theorem step_counts {n : Nat} (hl : s.deliveryLatency = n + 1) {t : State} (e : step s = .next t) :
    t.intr.latency = some n :=
  fetchAndRun_latency ((step_postpones hi hp hh hl).symm.trans e)

end

/-- After `k` of the instructions that a latency `n` lets run, `n - k` are left. -/
theorem latency_of_trace {n : Nat} {trace : Nat → State} {srcs : Nat → Source} (hn : (trace 0).deliveryLatency = n)
    (deliverable : ∀ k ≤ n, (trace k).inputs = [] ∧ (trace k).pendingSource = some (srcs k) ∧
      (trace k).intr.halted = false)
    (completes : ∀ k < n, step (trace k) = .next (trace (k + 1))) :
    ∀ k ≤ n, (trace k).deliveryLatency = n - k := by
  intro k
  induction k with
  | zero => exact fun _ => hn
  | succ k ih =>
    intro hk
    obtain ⟨hi, hp, hh⟩ := deliverable k (by omega)
    refine State.deliveryLatency_of_some (step_counts hi hp hh ?_ (completes k (by omega)))
    rw [ih (by omega)]
    omega

/-- Settles O57: the latency falls by one with each instruction, which none of them changes, and the step delivers at 0. -/
theorem deliveryIsFair : Obligations.DeliveryIsFair := by
  unfold Obligations.DeliveryIsFair
  refine ⟨fun s src hi hp hh => ⟨fun hl => ?delivers, fun n hl t e => ?counts, fun _ => ?draws⟩, fun s => ?bounded⟩
  case delivers => exact step_delivers hi hp (State.deliveryLatency_of_some hl)
  case counts => exact step_counts hi hp hh (State.deliveryLatency_of_some hl) e
  case draws =>
    cases hl : s.deliveryLatency with
    | zero => exact .inl (step_delivers hi hp hl)
    | succ n => exact .inr ⟨n, fun t e => step_counts hi hp hh hl e⟩
  case bounded =>
    refine ⟨s.deliveryLatency, fun trace srcs start deliverable completes => ?_⟩
    obtain ⟨hi, hp, -⟩ := deliverable s.deliveryLatency (Nat.le_refl _)
    refine step_delivers hi hp ?_
    rw [latency_of_trace (by rw [start]) deliverable completes _ (Nat.le_refl _), Nat.sub_self]

end Sys2Proof.Machine
end
